-- ==== Sys2Proof/Word.lean ====
section
/-! DEFINITION. The word types of the WZ-4120 (spec/00_scope.md, Conventions; spec/09 opening). -/

namespace Sys2Proof

/-- A word of image memory or of the bus: 16 bits. -/
abbrev Word := BitVec 16

/-- An octet of the maintenance link, of the configuration image, or half a word. -/
abbrev Octet := BitVec 8

/-- A 22-bit word address of image memory. -/
abbrev Addr := BitVec 22

/-- A value of the 32-bit millisecond clock (R1). -/
abbrev Clock := BitVec 32

/-- One entry of the configuration table as it stands in the image: 32 octets, octet k in bits
8k+7 to 8k (section 9.7, a field of several octets lies least significant octet first). -/
abbrev RawEntry := BitVec 256

end Sys2Proof
end

