-- ==== Sys2Proof/Syntax.lean ====
section
/-! DEFINITION. The commands of the WZ-4120: one constructor for each row of spec/opcode_table.json. -/

namespace Sys2Proof

inductive Instr where
  /-- FULL_RESET (R158): the reset input is asserted. -/
  | fullReset
  /-- FULL_RESET_END (R158): the reset input is released. -/
  | fullResetEnd
  /-- MS_TICK (R1). -/
  | msTick
  /-- CONFIG_LOAD_COMPLETE (R156): the octets read, or `none` where the memory does not answer. -/
  | configLoadComplete (image : Option (List Octet))
  /-- SAFING_SETPOINT_READ (R157). -/
  | safingSetpointRead
  /-- SAFING_END (R157). -/
  | safingEnd
  /-- UPSTREAM_READ (R34). -/
  | upstreamRead (addr : Addr) (tag lanes : BitVec 2)
  /-- PASS_THROUGH_WRITE (R32). -/
  | passThroughWrite (addr : Addr) (tag lanes : BitVec 2) (data : Word)
  /-- REFUSED_WRITE (R33). -/
  | refusedWrite (addr : Addr) (tag lanes : BitVec 2) (data : Word)
  /-- STATION_PAYLOAD_WRITE (R36). -/
  | stationPayloadWrite (slot : Fin 32) (word : Fin 10) (value : Word)
  /-- CLOSING_WORD_WRITE (R37). -/
  | closingWordWrite (slot : Fin 32) (value : Word)
  /-- SETPOINT_WRITE (R40): word 0 is A, 1 is B, 2 is C. -/
  | setpointWrite (slot : Fin 24) (word : Fin 3) (value : Word)
  /-- COMMIT_BAD_CODE (R167). -/
  | commitBadCode (slot : Fin 24) (code tag : Octet)
  /-- CLOSE (R111). -/
  | close (outlet : Fin 8) (tag : Octet)
  /-- DRAW (R97). -/
  | draw (outlet : Fin 8) (tag : Octet)
  /-- ADJUST (R109). -/
  | adjust (outlet : Fin 8) (tag : Octet)
  /-- STOP_AFTER (R110). -/
  | stopAfter (outlet : Fin 8) (tag : Octet)
  /-- FORCE_CLOSE (R113). -/
  | forceClose (outlet : Fin 8) (tag : Octet)
  /-- WITHDRAW (R129). -/
  | withdraw (tip : Fin 12) (tag : Octet)
  /-- PERMIT (R127). -/
  | permit (tip : Fin 12) (tag : Octet)
  /-- BOOM_WORK (R130). -/
  | boomWork (tip : Fin 12) (tag : Octet)
  /-- BOOM_PARK (R131). -/
  | boomPark (tip : Fin 12) (tag : Octet)
  /-- LOCKOUT (R23). -/
  | lockout (pass : Fin 4) (tag : Octet)
  /-- RUN (R24). -/
  | run (pass : Fin 4) (tag : Octet)
  /-- RELEASE_HANGUP (R25). -/
  | releaseHangup (pass : Fin 4) (tag : Octet)
  /-- DECLARE_WET (R26). -/
  | declareWet (pass : Fin 4) (tag : Octet)
  /-- CLEAR_WET (R26). -/
  | clearWet (pass : Fin 4) (tag : Octet)
  /-- EMPTY_OUT (R26). -/
  | emptyOut (pass : Fin 4) (tag : Octet)
  /-- REBASE_FROM_LEVEL (R27). -/
  | rebaseFromLevel (pass : Fin 4) (tag : Octet)
  /-- SET_INVENTORY (R27). -/
  | setInventory (pass : Fin 4) (tag : Octet)
  /-- READ_INDEX_WRITE (R146). -/
  | readIndexWrite (value : Word)
  /-- ARBITER_GRANT (R51). -/
  | arbiterGrant
  /-- DRAINER_PLACE_GROUP (R48). -/
  | drainerPlaceGroup
  /-- JOURNAL_RECORD_WRITE (R145). -/
  | journalRecordWrite
  /-- GAP_RECORD_WRITE (R145). -/
  | gapRecordWrite
  /-- JOURNAL_CONTROL_ZERO_PLACE (R148). -/
  | journalControlZeroPlace
  /-- MIRROR_GROUP_PLACE (R150). -/
  | mirrorGroupPlace
  /-- MIRROR_PERIOD_EXPIRY (R149). -/
  | mirrorPeriodExpiry
  /-- DWELL_INTERVAL_EXPIRY (R16). -/
  | dwellIntervalExpiry (pass : Fin 4)
  /-- DISAGREEMENT_EXPIRY (R10). -/
  | disagreementExpiry (pass : Fin 4)
  /-- CHUTE_NO_FLOW_REPORT (R13): the report of this outlet is taken. -/
  | chuteNoFlowReport (outlet : Fin 8)
  /-- DEFERRAL_EXPIRY (R45). -/
  | deferralExpiry (slot : Fin 24)
  /-- LATE_TIMER_EXPIRY (R70). -/
  | lateTimerExpiry (station : Fin 32)
  /-- DROPOUT_EXPIRY (R82). -/
  | dropoutExpiry (station : Fin 32)
  /-- OPEN_TIMEOUT (R117). -/
  | openTimeout (outlet : Fin 8)
  /-- FLOW_START_TIMEOUT (R117). -/
  | flowStartTimeout (outlet : Fin 8)
  /-- CYCLE_DRAW_TIMEOUT (R117). -/
  | cycleDrawTimeout (outlet : Fin 8)
  /-- INDEX_TIMEOUT (R117). -/
  | indexTimeout (outlet : Fin 8)
  /-- CLOSE_TIMEOUT (R119). -/
  | closeTimeout (outlet : Fin 8)
  /-- PARK_TIMEOUT (R135). -/
  | parkTimeout (tip : Fin 12)
  /-- FRAME_ABORT (R159). -/
  | frameAbort
  /-- FRAME_DROPPED (R159): the line bits between the two delimiters, in the order received. -/
  | frameDropped (bits : List Bool)
  /-- FRAME_DROPPED_BUSY (R161): a frame whose check holds, less its check octets. -/
  | frameDroppedBusy (unit code : Octet) (payload : List Octet)
  /-- FRAME_IGNORED (R160): a frame whose check holds, less its check octets. -/
  | frameIgnored (unit code : Octet) (payload : List Octet)
  /-- UNKNOWN_REQUEST (R162). -/
  | unknownRequest (unit code : Octet) (payload : List Octet)
  /-- IDENTIFY (R162). -/
  | identify (unit : Octet) (payload : List Octet)
  /-- READ_CONFIG (R162). -/
  | readConfig (unit : Octet) (payload : List Octet)
  /-- WRITE_CONFIG (R163). -/
  | writeConfig (unit : Octet) (payload : List Octet)
  /-- READ_STATUS (R162). -/
  | readStatus (unit : Octet) (payload : List Octet)
  /-- CLEAR_COUNTERS (R76). -/
  | clearCounters (unit : Octet) (payload : List Octet)
  /-- RELOAD (R165). -/
  | reload (unit : Octet) (payload : List Octet)
  /-- RESPONSE_END (R161). -/
  | responseEnd
  /-- FRAME_OPENING_DELIMITER (R159). -/
  | frameOpeningDelimiter
  /-- FRAME_DROPPED_AT_69TH_OCTET (R159). -/
  | frameDroppedAt69thOctet
  deriving DecidableEq, Repr

end Sys2Proof
end

