-- ==== Sys2Proof/Config.lean ====
section
/-! DEFINITION. What the manual leaves open and the model leaves free. -/

namespace Sys2Proof

/-- Free value (log 11): when one event reaches the deferred DRAWs and waiting cycle starts of several
outlets of one pass, no rule says which outlet is taken first (R20, R44, R107 only say what follows
for either order). The key of outlet `i` at the `n`-th such event: the lower key goes first. -/
opaque Config.takeOrder : Nat → Nat → Nat

end Sys2Proof
end

