-- ==== Sys2Proof/Machine/State.lean ====
section
/-! DEFINITION. The state of the WZ-4120 as plain data, and its value right after the power-up reset.
Every structure names the rule that lists its fields; INVENTORY.md lists them with their reset values. -/

namespace Sys2Proof.Machine

/-! ## Names -/

/-- R152, section 9.4. -/
inductive PartState where
  | starting | safing | run | unconfigured
  deriving DecidableEq, Repr

/-- R157: the reset that began the start. -/
inductive StartCause where
  | fullReset | reload
  deriving DecidableEq, Repr

/-- R154: the load status codes. -/
inductive LoadCode where
  | none | ok | noImage | badLength | badCheck | badFormat | badRegion | badReference | badMarks
  | badRange
  deriving DecidableEq, Repr

/-- R153: the kinds of configuration entry. -/
inductive EntryKind where
  | global | pass | outlet | tipPoint | station
  deriving DecidableEq, Repr

/-- R53. -/
inductive StationKind where
  | tip | outlet | level
  deriving DecidableEq, Repr

/-- R30: the masters of the bus, the fourth tag taken as SERVICE. -/
inductive Initiator where
  | controller | scanner | service
  deriving DecidableEq, Repr

/-- R42: the verdicts. -/
inductive Verdict where
  | none | accepted | clamped | deferred | refused | superseded
  deriving DecidableEq, Repr

/-- Section 9.3: the reasons of a refusal or a deferral. -/
inductive Reason where
  | badCode | notConfigured | range | wrongState | lockout | hangup | levelInvalid | outletFault
  | feedbackStale | fillUnknown | cushion | busy | busyPass | receiverAbsent | gateNotClosed
  | tipPointFault | boomFree | full | fallPath | boomNotParked | grizzlyOccupied | tipOpen
  | truckPresent
  deriving DecidableEq, Repr

inductive PassState where
  | lockout | running | hangup
  deriving DecidableEq, Repr

inductive FillClass where
  | unknown | cushion | working | high | full
  deriving DecidableEq, Repr

inductive HangCause where
  | none | levelStatic | chuteNoFlow
  deriving DecidableEq, Repr

/-- Sensor wet field of a pass and state of a moisture qualifier (R15, R88). -/
inductive Wetness where
  | unknown | dry | wet
  deriving DecidableEq, Repr

inductive OutletState where
  | idle | opening | flowing | closing | indexing | stopping | fault
  deriving DecidableEq, Repr

/-- R108: the end reasons, which are also the stop reasons. -/
inductive EndReason where
  | done | stopAfter | hostClose | forced | hangup | lockout | cushion | feedbackLost | receiverLost
  | noFlow | drawTimeout | gateNoOpen | indexTimeout
  deriving DecidableEq, Repr

inductive FaultCode where
  | none | gateNoOpen | gateNoClose | noFlow | drawTimeout
  deriving DecidableEq, Repr

/-- R95: the timers an outlet can have running. -/
inductive OutletTimer where
  | openT | flowStart | cycleDraw | close | index
  deriving DecidableEq, Repr

/-- R124: CLOSED, OPEN (`opened`), BREAKING, PARKING, FAULT. -/
inductive TipState where
  | closed | opened | breaking | parking | fault
  deriving DecidableEq, Repr

/-- R133. -/
inductive ParkTimer where
  | stopped | waiting
  | running (since : Clock)
  deriving DecidableEq, Repr

inductive Freshness where
  | stale | fresh | sourceFault
  deriving DecidableEq, Repr

inductive OrderState where
  | hunt | trial | locked | skip | doubt | late
  deriving DecidableEq, Repr

inductive CheckState where
  | correcting | detecting
  deriving DecidableEq, Repr

/-- A qualified discrete value: UNKNOWN, FALSE (`no`), TRUE (`yes`). -/
inductive Tri where
  | unknown | no | yes
  deriving DecidableEq, Repr

inductive FlowState where
  | unknown | noFlow | rising | flow | dropping
  deriving DecidableEq, Repr

/-- R143: the record kinds of the journal. -/
inductive RecordKind where
  | start | passState | fillClass | wetRestrict | disagree | inventoryClamp | rebase | orderEnd
  | outletFault | tipWithoutPermit | tipSubstituted | counterResync | permitUsed | boomUnparked
  | tipPointFault | freshness | configChange | gap
  deriving DecidableEq, Repr

/-- R150: the groups of a publication, in their order. -/
inductive MirrorGroup where
  | opening | header
  | pass (p : Fin 4)
  | outlet (n : Fin 8)
  | tip (t : Fin 12)
  | station (i : Fin 32)
  | closing
  deriving DecidableEq, Repr

/-- R159: the states of the link receiver. -/
inductive RxState where
  | waiting | inFrame
  deriving DecidableEq, Repr

/-! ## Configuration Block -/

/-- R152, R153: the live configuration table of 57 entries. -/
structure Live where
  global : RawEntry
  passes : Vector RawEntry 4
  outlets : Vector RawEntry 8
  tips : Vector RawEntry 12
  stations : Vector RawEntry 32
  deriving DecidableEq, Repr

/-- R152: the load status code, and the entry of the first failing check where there is one. -/
structure LoadStatus where
  code : LoadCode
  entry : Option (EntryKind × Nat)
  deriving DecidableEq, Repr

/-- R157: where SAFING stands. In the first stage, the set-point words still to be read. -/
inductive Safing where
  | off
  | reads (slot : Fin 24) (word : Fin 3) (rest : List (Fin 24 × Fin 3))
  | writes
  deriving DecidableEq, Repr

/-! ## Upstream Port and Region Decoder -/

/-- What the transaction held by the Upstream Port waits for. -/
inductive Purpose where
  /-- a read, for its grant -/
  | read
  /-- a write to ordinary memory, for its grant -/
  | passes
  /-- an admitted read index write, for its grant; `take` says that r is taken from it (R146, R148) -/
  | readIndex (take : Bool)
  /-- a closing word, for urgent room (R37) -/
  | closing (slot : Fin 32)
  /-- a demand word, for urgent room (R41) -/
  | demand (slot : Fin 24)
  deriving DecidableEq, Repr

/-- R29: the transaction held. -/
structure Txn where
  addr : Addr
  write : Bool
  tag : BitVec 2
  lanes : BitVec 2
  data : Word
  purpose : Purpose
  deriving DecidableEq, Repr

/-- R32: the live bases of the five guarded regions, and the size of the journal in records. -/
structure Regions where
  station : Nat
  command : Nat
  control : Nat
  ring : Nat
  mirror : Nat
  records : Nat
  deriving DecidableEq, Repr

/-! ## Slot Store and Memory Port -/

/-- R36, R39: a station slot's staging buffer (a value with its mark is `some`) and status latch. -/
structure StationSlot where
  staging : Vector (Option Word) 10
  latch : Option Word
  deriving DecidableEq, Repr

structure SetPoints where
  a : Word
  b : Word
  c : Word
  deriving DecidableEq, Repr

/-- R40: the staged set-points, each with its mark. -/
structure Staged where
  a : Option Word
  b : Option Word
  c : Option Word
  deriving DecidableEq, Repr

/-- R47: the six pending values of a write-back record, each with its mark. -/
structure WriteBack where
  a : Option Word
  b : Option Word
  c : Option Word
  demand : Option Word
  verdict : Option Word
  detail : Option Word
  deriving DecidableEq, Repr

/-- R41: the commit record. -/
structure Commit where
  code : Octet
  tag : Octet
  sp : SetPoints
  deriving DecidableEq, Repr

/-- Section 2.5: a deferred commit. `limit` is the deferral limit it was deferred under (R164: a
changed limit applies to the next deferral made; log 24). -/
structure Deferred where
  commit : Commit
  since : Clock
  reason : Reason
  limit : Nat
  deriving DecidableEq, Repr

/-- The Slot Store's holdings for one command slot (R40, R43, R47), and the tag last placed in its
demand (R42). -/
structure CommandSlot where
  staged : Staged
  copy : SetPoints
  wb : WriteBack
  lastTag : Octet
  holder : Option Deferred
  deriving DecidableEq, Repr

/-- R49, R50: a queue entry, the word address and the value to be written there. -/
abbrev Entry := Addr × Word

/-! ## Sequence Tracker and Signal Qualifiers -/

/-- R54. The freshness is computed by R71. -/
structure Station where
  check : CheckState
  order : OrderState
  last : BitVec 3
  held : Option (BitVec 3)
  late : Option Clock
  healthy : Bool
  accepted : Word
  events : Vector Octet 10
  rollover : BitVec 11
  deriving DecidableEq, Repr

/-- R79. -/
structure Filter where
  value : Tri
  candidate : Option Bool
  run : Nat
  deriving DecidableEq, Repr

/-- Section 4.3. -/
structure FlowQualifier where
  state : FlowState
  rise : Option Clock
  dropout : Option Clock
  deriving DecidableEq, Repr

/-- Section 4.4. `distance` is F, in sixteenths of a centimetre. -/
structure LevelFilter where
  distance : Option Nat
  good : Nat
  updates : Nat
  poor : Nat
  valid : Bool
  fill : Nat
  deriving DecidableEq, Repr

/-- R88. -/
structure Moisture where
  state : Wetness
  wetRun : Nat
  dryRun : Nat
  deriving DecidableEq, Repr

/-- R77: the qualifiers of a station. `d0` to `d2` are, for an OUTLET station, gate closed limit, gate
open limit and receiver present; for a TIP station, truck present, grizzly clear and boom parked. -/
structure Qualifiers where
  d0 : Filter
  d1 : Filter
  d2 : Filter
  flow : FlowQualifier
  level : LevelFilter
  moisture : Moisture
  deriving DecidableEq, Repr

/-! ## Controllers -/

/-- Section 1.1: the pass record, and the start of its one-second dwell interval (R16). -/
structure Pass where
  state : PassState
  inventory : Nat
  settled : Bool
  levelFill : Nat
  levelValid : Bool
  high : Nat
  low : Nat
  cls : FillClass
  accumulator : Nat
  reference : Nat
  cause : HangCause
  hostWet : Bool
  sensorWet : Wetness
  wetActive : Bool
  dwell : Nat
  dwellTimer : Option Clock
  loosened : Nat
  grant : Bool
  disagree : Option Clock
  reported : Bool
  deriving DecidableEq, Repr

/-- Section 5.1: the raw fields of the last accepted record. -/
structure LoadRecord where
  weight : Nat
  identity : Nat
  position : Nat
  deriving DecidableEq, Repr

/-- Section 5.1: the draw context. `noFlowReports` are the chute no-flow reports handed over and not
yet taken, each with the pass it was handed to (R13, R117; log 28). -/
structure Outlet where
  state : OutletState
  tag : Option Octet
  orderedTarget : Nat
  orderedOpening : Nat
  workingTarget : Nat
  workingOpening : Nat
  remaining : Nat
  completed : Nat
  latchTarget : Option Nat
  latchCycles : Option Nat
  latchOpening : Option Nat
  stopAfter : Bool
  grantHeld : Bool
  snapshot : Nat
  highMark : Nat
  deliveredCycle : Nat
  deliveredOrder : Nat
  startIdentity : Nat
  departureSeen : Bool
  startPending : Bool
  lastRecord : Option LoadRecord
  stopReason : Option EndReason
  lastFault : FaultCode
  timer : Option (OutletTimer × Clock)
  noFlowReports : List (Fin 4)
  deriving DecidableEq, Repr

/-- Section 6.1: the tip-point context. `permitCount` is the count as executed, which PERMIT_USED
carries (R140; log 10). -/
structure Tip where
  state : TipState
  remaining : Nat
  permitCount : Nat
  park : ParkTimer
  lastCounter : Octet
  known : Bool
  substitutes : Word
  deriving DecidableEq, Repr

/-- R142: a journal record less its serial. -/
structure JournalRecord where
  kind : RecordKind
  subject : Nat
  stamp : Clock
  d0 : Word
  d1 : Word
  d2 : Word
  d3 : Word
  deriving DecidableEq, Repr

/-- R141, and the control regions whose zero words are still to be placed (R148; log 25). -/
structure Journal where
  w : Nat
  r : Nat
  serial : Word
  lost : Nat
  list : List JournalRecord
  badIndex : Word
  zeroDue : List Nat
  deriving DecidableEq, Repr

/-- What the controllers and the Journal Writer's requests change: the four pass records, the draw
contexts, the tip-point contexts, the command slots and the journal. -/
structure Ctl where
  passes : Vector Pass 4
  outlets : Vector Outlet 8
  tips : Vector Tip 12
  slots : Vector CommandSlot 24
  journal : Journal
  /-- The model's own: how many fresh values of `Config.takeOrder` have been drawn (log 11). -/
  freeCount : Nat
  deriving DecidableEq, Repr

/-! ## Mirror Publisher and Maintenance Link -/

/-- R149; `base` is the mirror base of the publication in hand. -/
structure Mirror where
  generation : Word
  timer : Option Clock
  cursor : Option MirrorGroup
  due : Bool
  base : Nat
  deriving DecidableEq, Repr

/-- R161: the response in transmission, and whether a reload takes effect at its end (R165). -/
structure Response where
  octets : List Octet
  reload : Bool
  deriving DecidableEq, Repr

/-- R159: receiver state and link counters. -/
structure Link where
  rx : RxState
  abort : Word
  lengthError : Word
  checkError : Word
  busy : Word
  tx : Option Response
  deriving DecidableEq, Repr

/-- No command stops the part: the spec names no behaviour that ends it, so this type has no
constructor, and no step answers a fault. -/
inductive Fault where
  deriving DecidableEq, Repr

/-- Why a command has no meaning. -/
inductive Refusal where
  /-- raised by an arm of `exec` for a row not modelled yet (none is left); safe -/
  | notModelled (mnemonic : String)
  deriving DecidableEq, Repr

/-- The state of the part, of the image memory behind it, and the queue of waiting commands. -/
structure State where
  clock : Clock
  resetAsserted : Bool
  partState : PartState
  loading : Bool
  live : Live
  identity : Word
  loadStatus : LoadStatus
  startCause : StartCause
  safing : Safing
  port : Option Txn
  busReady : Bool
  busData : Word
  bases : Option Regions
  stationSlots : Vector StationSlot 32
  drainer : Fin 56
  urgent : List (List Entry)
  bulk : List Entry
  urgentWait : Nat
  bulkWait : Nat
  starvation : Word
  stations : Vector Station 32
  quals : Vector Qualifiers 32
  ctl : Ctl
  mirror : Mirror
  link : Link
  mem : List Host.Cell
  pending : List Instr
  deriving DecidableEq, Repr

/-! ## Reset values -/

/-- R152: every entry with its present flag clear (log 8 for the other octets). -/
def Live.reset : Live where
  global := 0
  passes := Vector.replicate 4 0
  outlets := Vector.replicate 8 0
  tips := Vector.replicate 12 0
  stations := Vector.replicate 32 0

/-- R52. -/
def StationSlot.reset : StationSlot where
  staging := Vector.replicate 10 none
  latch := none

def SetPoints.zero : SetPoints where
  a := 0
  b := 0
  c := 0

def Staged.empty : Staged where
  a := none
  b := none
  c := none

def WriteBack.empty : WriteBack where
  a := none
  b := none
  c := none
  demand := none
  verdict := none
  detail := none

/-- R52; log 9 for the tag. -/
def CommandSlot.reset : CommandSlot where
  staged := Staged.empty
  copy := SetPoints.zero
  wb := WriteBack.empty
  lastTag := 0
  holder := none

/-- R55. -/
def Station.reset : Station where
  check := .correcting
  order := .hunt
  last := 0
  held := none
  late := none
  healthy := false
  accepted := 0
  events := Vector.replicate 10 0
  rollover := 0

/-- R80. -/
def Filter.reset : Filter where
  value := .unknown
  candidate := none
  run := 0

/-- R83. -/
def FlowQualifier.reset : FlowQualifier where
  state := .unknown
  rise := none
  dropout := none

/-- Section 4.4: a filter restart. -/
def LevelFilter.reset : LevelFilter where
  distance := none
  good := 0
  updates := 0
  poor := 0
  valid := false
  fill := 0

/-- R90. -/
def Moisture.reset : Moisture where
  state := .unknown
  wetRun := 0
  dryRun := 0

/-- R90. -/
def Qualifiers.reset : Qualifiers where
  d0 := Filter.reset
  d1 := Filter.reset
  d2 := Filter.reset
  flow := FlowQualifier.reset
  level := LevelFilter.reset
  moisture := Moisture.reset

/-- R3. -/
def Pass.reset : Pass where
  state := .lockout
  inventory := 0
  settled := false
  levelFill := 0
  levelValid := false
  high := 0
  low := 0
  cls := .unknown
  accumulator := 0
  reference := 0
  cause := .none
  hostWet := false
  sensorWet := .unknown
  wetActive := false
  dwell := 0
  dwellTimer := none
  loosened := 0
  grant := false
  disagree := none
  reported := false

/-- R92. -/
def Outlet.reset : Outlet where
  state := .idle
  tag := none
  orderedTarget := 0
  orderedOpening := 0
  workingTarget := 0
  workingOpening := 0
  remaining := 0
  completed := 0
  latchTarget := none
  latchCycles := none
  latchOpening := none
  stopAfter := false
  grantHeld := false
  snapshot := 0
  highMark := 0
  deliveredCycle := 0
  deliveredOrder := 0
  startIdentity := 0
  departureSeen := false
  startPending := false
  lastRecord := none
  stopReason := none
  lastFault := .none
  timer := none
  noFlowReports := []

/-- R122; log 10 for the permit count. -/
def Tip.reset : Tip where
  state := .parking
  remaining := 0
  permitCount := 0
  park := .waiting
  lastCounter := 0
  known := false
  substitutes := 0

/-- R141. -/
def Journal.reset : Journal where
  w := 0
  r := 0
  serial := 0
  lost := 0
  list := []
  badIndex := 0
  zeroDue := []

def Ctl.reset : Ctl where
  passes := Vector.replicate 4 Pass.reset
  outlets := Vector.replicate 8 Outlet.reset
  tips := Vector.replicate 12 Tip.reset
  slots := Vector.replicate 24 CommandSlot.reset
  journal := Journal.reset
  freeCount := 0

/-- R149. -/
def Mirror.reset : Mirror where
  generation := 0
  timer := none
  cursor := none
  due := false
  base := 0

/-- R158, R159. -/
def Link.reset : Link where
  rx := .waiting
  abort := 0
  lengthError := 0
  checkError := 0
  busy := 0
  tx := none

/-- The part at the end of the power-up reset (R158): every block at its reset values, the ms clock 0,
the part in STARTING with the configuration read in progress. No command waits (log 34). -/
def State.reset : State where
  clock := 0
  resetAsserted := false
  partState := .starting
  loading := true
  live := Live.reset
  identity := 0
  loadStatus := { code := .none, entry := none }
  startCause := .fullReset
  safing := .off
  port := none
  busReady := false
  busData := 0
  bases := none
  stationSlots := Vector.replicate 32 StationSlot.reset
  drainer := 0
  urgent := []
  bulk := []
  urgentWait := 0
  bulkWait := 0
  starvation := 0
  stations := Vector.replicate 32 Station.reset
  quals := Vector.replicate 32 Qualifiers.reset
  ctl := Ctl.reset
  mirror := Mirror.reset
  link := Link.reset
  mem := []
  pending := []

end Sys2Proof.Machine
end

