-- ==== Sys2Proof/Machine/Codes.lean ====
section
/-! DEFINITION. The numeric codes of section 9 (9.1, 9.3, 9.4, 9.5, 9.7, 9.8), one function a set. -/

namespace Sys2Proof.Machine

/-- Section 9.1; the fourth code is taken as SERVICE (R30). -/
def Initiator.ofTag (tag : BitVec 2) : Initiator :=
  if tag = 0 then .controller else if tag = 1 then .scanner else .service

def PartState.code : PartState → Nat
  | .starting => 0
  | .safing => 1
  | .run => 2
  | .unconfigured => 3

def StartCause.code : StartCause → Nat
  | .fullReset => 1
  | .reload => 2

def LoadCode.code : LoadCode → Nat
  | .none => 0
  | .ok => 1
  | .noImage => 2
  | .badLength => 3
  | .badCheck => 4
  | .badFormat => 5
  | .badRegion => 6
  | .badReference => 7
  | .badMarks => 8
  | .badRange => 9

def EntryKind.code : EntryKind → Nat
  | .global => 0
  | .pass => 1
  | .outlet => 2
  | .tipPoint => 3
  | .station => 4

def EntryKind.ofCode (code : Octet) : Option EntryKind :=
  match code.toNat with
  | 0 => some .global
  | 1 => some .pass
  | 2 => some .outlet
  | 3 => some .tipPoint
  | 4 => some .station
  | _ => none

/-- How many entries a kind has (R162). -/
def EntryKind.count : EntryKind → Nat
  | .global => 1
  | .pass => 4
  | .outlet => 8
  | .tipPoint => 12
  | .station => 32

/-- Section 9.7: TIP 1, OUTLET 2, LEVEL 3; 0 is no kind (R168). -/
def StationKind.ofCode (code : Nat) : Option StationKind :=
  match code with
  | 1 => some .tip
  | 2 => some .outlet
  | 3 => some .level
  | _ => none

def Verdict.code : Verdict → Octet
  | .none => 0
  | .accepted => 1
  | .clamped => 2
  | .deferred => 3
  | .refused => 4
  | .superseded => 5

def Reason.code : Reason → Octet
  | .badCode => 1
  | .notConfigured => 2
  | .range => 3
  | .wrongState => 4
  | .lockout => 5
  | .hangup => 6
  | .levelInvalid => 7
  | .outletFault => 8
  | .feedbackStale => 9
  | .fillUnknown => 10
  | .cushion => 11
  | .busy => 12
  | .busyPass => 13
  | .receiverAbsent => 14
  | .gateNotClosed => 15
  | .tipPointFault => 16
  | .boomFree => 17
  | .full => 18
  | .fallPath => 19
  | .boomNotParked => 20
  | .grizzlyOccupied => 21
  | .tipOpen => 22
  | .truckPresent => 23

/-- Section 9.3, the clamp codes: OPENING 1, TARGET 2, BOTH 3; 0 where nothing was clamped. -/
def clampCode (target opening : Bool) : Octet :=
  match target, opening with
  | false, false => 0
  | false, true => 1
  | true, false => 2
  | true, true => 3

/-- Also the actuator code of a pass slot (R21). -/
def PassState.code : PassState → Nat
  | .lockout => 0
  | .running => 1
  | .hangup => 2

def FillClass.code : FillClass → Nat
  | .unknown => 0
  | .cushion => 1
  | .working => 2
  | .high => 3
  | .full => 4

/-- The hang-up cause; as a pass state cause 0 is HOST. -/
def HangCause.code : HangCause → Nat
  | .none => 0
  | .levelStatic => 1
  | .chuteNoFlow => 2

def Wetness.code : Wetness → Nat
  | .unknown => 0
  | .dry => 1
  | .wet => 2

def OutletState.code : OutletState → Nat
  | .idle => 0
  | .opening => 1
  | .flowing => 2
  | .closing => 3
  | .indexing => 4
  | .stopping => 5
  | .fault => 6

def EndReason.code : EndReason → Nat
  | .done => 1
  | .stopAfter => 2
  | .hostClose => 3
  | .forced => 4
  | .hangup => 5
  | .lockout => 6
  | .cushion => 8
  | .feedbackLost => 10
  | .receiverLost => 11
  | .noFlow => 12
  | .drawTimeout => 13
  | .gateNoOpen => 14
  | .indexTimeout => 15

/-- An absent stop reason is published as 0. -/
def stopReasonCode : Option EndReason → Nat
  | none => 0
  | some r => r.code

def FaultCode.code : FaultCode → Nat
  | .none => 0
  | .gateNoOpen => 1
  | .gateNoClose => 2
  | .noFlow => 3
  | .drawTimeout => 4

def OutletTimer.code : OutletTimer → Nat
  | .openT => 1
  | .flowStart => 2
  | .cycleDraw => 3
  | .close => 4
  | .index => 5

def activeTimerCode : Option (OutletTimer × Clock) → Nat
  | none => 0
  | some t => t.1.code

def TipState.code : TipState → Nat
  | .closed => 0
  | .opened => 1
  | .breaking => 2
  | .parking => 3
  | .fault => 4

def ParkTimer.code : ParkTimer → Nat
  | .stopped => 0
  | .waiting => 1
  | .running _ => 2

def Tri.code : Tri → Nat
  | .unknown => 0
  | .no => 1
  | .yes => 2

def Freshness.code : Freshness → Nat
  | .stale => 0
  | .fresh => 1
  | .sourceFault => 2

def OrderState.code : OrderState → Nat
  | .hunt => 0
  | .trial => 1
  | .locked => 2
  | .skip => 3
  | .doubt => 4
  | .late => 5

def CheckState.code : CheckState → Nat
  | .correcting => 0
  | .detecting => 1

def RecordKind.code : RecordKind → Nat
  | .start => 1
  | .passState => 2
  | .fillClass => 3
  | .wetRestrict => 4
  | .disagree => 5
  | .inventoryClamp => 6
  | .rebase => 7
  | .orderEnd => 8
  | .outletFault => 9
  | .tipWithoutPermit => 10
  | .tipSubstituted => 11
  | .counterResync => 12
  | .permitUsed => 13
  | .boomUnparked => 14
  | .tipPointFault => 15
  | .freshness => 16
  | .configChange => 17
  | .gap => 18

/-- Section 9.8: the response statuses. -/
inductive Status where
  | ok | badEntry | badValue | notLockedOut | busy | badLength | badRequest
  deriving DecidableEq, Repr

def Status.code : Status → Octet
  | .ok => 0
  | .badEntry => 1
  | .badValue => 2
  | .notLockedOut => 3
  | .busy => 4
  | .badLength => 5
  | .badRequest => 6

end Sys2Proof.Machine
end

