-- ==== Sys2Proof/Machine/Operands.lean ====
section
/-! DEFINITION. Reading the operands: the fields of words, of payloads, of configuration entries and of
images (section 9), and the ranges of set-points. -/

namespace Sys2Proof.Machine

/-! ## Words and octets -/

/-- Bits 7 to 0 of a word. -/
def lowOctet (w : Word) : Octet := w.extractLsb' 0 8

/-- Bits 15 to 8 of a word. -/
def highOctet (w : Word) : Octet := w.extractLsb' 8 8

/-- The word with these high and low octets. -/
def joinWord (high low : Octet) : Word := high ++ low

/-- A quantity as a word. -/
def toWord (n : Nat) : Word := BitVec.ofNat 16 n

/-- A flag as a number, 1 for yes and set (section 9.6). -/
def flagBit (b : Bool) : Nat := if b then 1 else 0

/-- Addition held at a cap. -/
def satAdd (cap a b : Nat) : Nat := min cap (a + b)

/-- R1: the time from `since` to `now`, on the difference of the clock values modulo 2^32. -/
def elapsed (now since : Clock) : Nat := (now - since).toNat

/-! ## Configuration entries (sections 9.7, R168) -/

/-- The bits `lo` to `lo + width - 1` of an entry as a number. -/
def field (e : RawEntry) (lo width : Nat) : Nat := (e.extractLsb' lo width).toNat

/-- One bit of an entry. -/
def fieldBit (e : RawEntry) (i : Nat) : Bool := e.getLsbD i

structure GlobalCfg where
  present : Bool
  unit : Nat
  stationBase : Nat
  commandBase : Nat
  controlBase : Nat
  ringBase : Nat
  mirrorBase : Nat
  journalSize : Nat
  mirrorPeriod : Nat
  outletLimit : Nat
  tipLimit : Nat
  deriving DecidableEq, Repr

def globalCfg (e : RawEntry) : GlobalCfg where
  present := fieldBit e 0
  unit := field e 8 8
  stationBase := field e 16 24
  commandBase := field e 40 24
  controlBase := field e 64 24
  ringBase := field e 88 24
  mirrorBase := field e 112 24
  journalSize := field e 136 16
  mirrorPeriod := field e 152 16
  outletLimit := field e 168 16
  tipLimit := field e 184 16

/-- The pass entry of chapter 1. The hold time is in seconds, the restricted opening in percent, the
restricted cycle target in dt. -/
structure PassCfg where
  present : Bool
  capacity : Nat
  cushionMark : Nat
  highMark : Nat
  fullMark : Nat
  releaseMark : Nat
  emptyDistance : Nat
  dtPerCm : Nat
  tolerance : Nat
  threshold : Nat
  fallStep : Nat
  wetDwell : Nat
  loosening : Nat
  nominalTip : Nat
  holdTime : Nat
  levelStation : Nat
  tipList : BitVec 12
  openingCode : Nat
  outletList : BitVec 8
  targetCode : Nat
  deriving DecidableEq, Repr

/-- R168: a capacity of 0 is the present flag clear. -/
def passCfg (e : RawEntry) : PassCfg where
  present := field e 0 16 != 0
  capacity := field e 0 16
  cushionMark := field e 16 16
  highMark := field e 32 16
  fullMark := field e 48 16
  releaseMark := field e 64 16
  emptyDistance := field e 80 16
  dtPerCm := field e 96 16
  tolerance := field e 112 16
  threshold := field e 128 16
  fallStep := field e 144 16
  wetDwell := field e 160 16
  loosening := field e 176 16
  nominalTip := field e 192 16
  holdTime := field e 208 10
  levelStation := field e 218 5
  tipList := e.extractLsb' 224 12
  openingCode := field e 236 4
  outletList := e.extractLsb' 240 8
  targetCode := field e 248 8

/-- R168: the stored code times 10 %. -/
def PassCfg.restrictedOpening (k : PassCfg) : Nat := 10 * k.openingCode

/-- R168: the stored code times 20 dt. -/
def PassCfg.restrictedTarget (k : PassCfg) : Nat := 20 * k.targetCode

/-- The outlet entry of chapter 5; the last two times are in seconds. -/
structure OutletCfg where
  present : Bool
  pass : Fin 4
  station : Nat
  lead : Nat
  openTimeout : Nat
  closeTimeout : Nat
  flowStartTimeout : Nat
  cycleDrawTimeout : Nat
  indexTimeout : Nat
  deriving DecidableEq, Repr

/-- Bits 2 to 1 of a member's first octet: the pass it names. -/
def fieldPass (e : RawEntry) : Fin 4 := (e.extractLsb' 1 2).toFin

def outletCfg (e : RawEntry) : OutletCfg where
  present := fieldBit e 0
  pass := fieldPass e
  station := field e 8 8
  lead := field e 16 16
  openTimeout := field e 32 16
  closeTimeout := field e 48 16
  flowStartTimeout := field e 64 16
  cycleDrawTimeout := field e 80 16
  indexTimeout := field e 96 16

/-- The tip-point entry of chapter 6; the park timeout is in seconds. -/
structure TipCfg where
  present : Bool
  pass : Fin 4
  station : Nat
  fallSet : BitVec 12
  maxJump : Nat
  parkTimeout : Nat
  deriving DecidableEq, Repr

def tipCfg (e : RawEntry) : TipCfg where
  present := fieldBit e 0
  pass := fieldPass e
  station := field e 8 8
  fallSet := e.extractLsb' 16 12
  maxJump := field e 32 8
  parkTimeout := field e 40 8

/-- The station entry of chapters 3 and 4. -/
structure StationCfg where
  present : Bool
  kind : Option StationKind
  slot : Nat
  lateLimit : Nat
  depth : Nat
  onThreshold : Nat
  offThreshold : Nat
  minOn : Nat
  dropout : Nat
  qualityFloor : Nat
  poorLimit : Nat
  interval : Nat
  shift : Nat
  validity : Nat
  wetThreshold : Nat
  dryThreshold : Nat
  moistureCount : Nat
  deriving DecidableEq, Repr

def stationCfg (e : RawEntry) : StationCfg where
  present := fieldBit e 0
  kind := StationKind.ofCode (field e 1 2)
  slot := field e 8 8
  lateLimit := field e 16 16
  depth := field e 32 8
  onThreshold := field e 40 8
  offThreshold := field e 48 8
  minOn := field e 56 16
  dropout := field e 72 16
  qualityFloor := field e 32 8
  poorLimit := field e 40 8
  interval := field e 48 8
  shift := field e 56 8
  validity := field e 64 8
  wetThreshold := field e 72 8
  dryThreshold := field e 80 8
  moistureCount := field e 88 8

def Live.globalCfg (l : Live) : GlobalCfg := Sys2Proof.Machine.globalCfg l.global
def Live.passCfg (l : Live) (p : Fin 4) : PassCfg := Sys2Proof.Machine.passCfg l.passes[p]
def Live.outletCfg (l : Live) (n : Fin 8) : OutletCfg := Sys2Proof.Machine.outletCfg l.outlets[n]
def Live.tipCfg (l : Live) (t : Fin 12) : TipCfg := Sys2Proof.Machine.tipCfg l.tips[t]
def Live.stationCfg (l : Live) (i : Fin 32) : StationCfg :=
  Sys2Proof.Machine.stationCfg l.stations[i]

/-- The regions that the global entry gives the Region Decoder (R32). -/
def Live.regions (l : Live) : Regions where
  station := l.globalCfg.stationBase
  command := l.globalCfg.commandBase
  control := l.globalCfg.controlBase
  ring := l.globalCfg.ringBase
  mirror := l.globalCfg.mirrorBase
  records := l.globalCfg.journalSize

/-- The outlets that draw from a pass. -/
def Live.outletsOf (l : Live) (p : Fin 4) : List (Fin 8) :=
  (List.finRange 8).filter fun n => (l.outletCfg n).present && (l.outletCfg n).pass == p

/-- The tip points that feed a pass. -/
def Live.tipsOf (l : Live) (p : Fin 4) : List (Fin 12) :=
  (List.finRange 12).filter fun t => (l.tipCfg t).present && (l.tipCfg t).pass == p

/-- The station configured for a station slot (R53). -/
def Live.stationOfSlot (l : Live) (slot : Fin 32) : Option (Fin 32) :=
  (List.finRange 32).find? fun i => (l.stationCfg i).present && (l.stationCfg i).slot == slot.val

/-- The outlet that names a station (R53). -/
def Live.outletOfStation (l : Live) (i : Fin 32) : Option (Fin 8) :=
  (List.finRange 8).find? fun n => (l.outletCfg n).present && (l.outletCfg n).station == i.val

/-- The tip point that names a station (R53). -/
def Live.tipOfStation (l : Live) (i : Fin 32) : Option (Fin 12) :=
  (List.finRange 12).find? fun t => (l.tipCfg t).present && (l.tipCfg t).station == i.val

/-- The pass whose LEVEL station this is (R53). -/
def Live.passOfStation (l : Live) (i : Fin 32) : Option (Fin 4) :=
  (List.finRange 4).find? fun p => (l.passCfg p).present && (l.passCfg p).levelStation == i.val

/-- R125: the fall relation, read both ways; a fall set counts while its entry is present. -/
def Live.related (l : Live) (t u : Fin 12) : Bool :=
  ((l.tipCfg t).present && (l.tipCfg t).fallSet.getLsbD u.val) ||
    ((l.tipCfg u).present && (l.tipCfg u).fallSet.getLsbD t.val)

/-! ## Command slots -/

/-- Slots 0 to 7 belong to the outlets. -/
def outletSlot (n : Fin 8) : Fin 24 := ⟨n.val, by omega⟩

/-- Slots 8 to 19 belong to the tip points. -/
def tipSlot (t : Fin 12) : Fin 24 := ⟨8 + t.val, by omega⟩

/-- Slots 20 to 23 belong to the passes. -/
def passSlot (p : Fin 4) : Fin 24 := ⟨20 + p.val, by omega⟩

/-- The owner of a command slot (R41). -/
inductive Owner where
  | outlet (n : Fin 8)
  | tip (t : Fin 12)
  | pass (p : Fin 4)
  deriving DecidableEq, Repr

def ownerOf (k : Fin 24) : Owner :=
  if h : k.val < 8 then .outlet ⟨k.val, h⟩
  else if h' : k.val < 20 then .tip ⟨k.val - 8, by omega⟩
  else .pass ⟨k.val - 20, by omega⟩

/-- Whether the live configuration has the member that owns a slot. -/
def Live.slotConfigured (l : Live) (k : Fin 24) : Bool :=
  match ownerOf k with
  | .outlet n => (l.outletCfg n).present
  | .tip t => (l.tipCfg t).present
  | .pass p => (l.passCfg p).present

/-! ## Set-points -/

/-- R97: the ranges of DRAW. -/
def targetInRange (a : Nat) : Bool := decide (10 ≤ a) && decide (a ≤ 5000)
def cyclesInRange (b : Nat) : Bool := decide (1 ≤ b) && decide (b ≤ 250)
def openingInRange (c : Nat) : Bool := decide (20 ≤ c) && decide (c ≤ 100)

def drawInRange (sp : SetPoints) : Bool :=
  targetInRange sp.a.toNat && cyclesInRange sp.b.toNat && openingInRange sp.c.toNat

/-- R109: a set-point that is not 0 names a value. -/
def named (w : Word) : Option Nat := if w = 0 then none else some w.toNat

/-- R109: each set-point that names a value lies in its range. -/
def adjustInRange (sp : SetPoints) : Bool :=
  (named sp.a).all targetInRange && (named sp.b).all cyclesInRange && (named sp.c).all openingInRange

/-! ## Station payloads (R166) -/

/-- A complete record as the Slot Store hands it over: ten payload values. -/
abbrev Payload := Vector Word 10

/-- The fields an outlet reads from an OUTLET record. -/
def loadRecord (pl : Payload) : LoadRecord where
  weight := pl[4].toNat
  identity := pl[3].toNat
  position := pl[0].toNat

/-! ## Octets and frames -/

/-- Octets, least significant first, as a number. -/
def octetsToNat : List Octet → Nat
  | [] => 0
  | o :: rest => o.toNat + 256 * octetsToNat rest

/-- The first `k` octets of a number, least significant first. -/
def natToOctets : Nat → Nat → List Octet
  | 0, _ => []
  | k + 1, n => BitVec.ofNat 8 n :: natToOctets k (n / 256)

/-- 32 octets as an entry. -/
def entryOfOctets (octets : List Octet) : RawEntry := BitVec.ofNat 256 (octetsToNat octets)

/-- An entry as its 32 octets. -/
def entryOctets (e : RawEntry) : List Octet := natToOctets 32 e.toNat

/-- Words in order, each low octet first (section 9.8). -/
def wordOctets (ws : List Word) : List Octet := ws.flatMap fun w => [lowOctet w, highOctet w]

/-- A field of two octets of a payload. -/
def payloadWord (octets : List Octet) (at_ : Nat) : Word :=
  joinWord (octets.getD (at_ + 1) 0) (octets.getD at_ 0)

/-- The 32 octets of entry `e` of a configuration image (section 9.7). -/
def imageEntry (image : List Octet) (e : Nat) : RawEntry :=
  entryOfOctets ((image.drop (6 + 32 * e)).take 32)

/-- R156: the 57 entries of an image. -/
def imageLive (image : List Octet) : Live where
  global := imageEntry image 0
  passes := Vector.ofFn fun p : Fin 4 => imageEntry image (1 + p.val)
  outlets := Vector.ofFn fun n : Fin 8 => imageEntry image (5 + n.val)
  tips := Vector.ofFn fun t : Fin 12 => imageEntry image (13 + t.val)
  stations := Vector.ofFn fun i : Fin 32 => imageEntry image (25 + i.val)

end Sys2Proof.Machine
end

