-- ==== Sys2Proof/Machine/Flags.lean ====
section
/-! DEFINITION. Every computation over bits: the sequence octet (R60 to R63), the two CRCs (R153, R160),
zero insertion and deletion (R159), the status word (section 9.2) and the mirror words (section 9.6). -/

namespace Sys2Proof.Machine

/-! ## The sequence octet -/

/-- One step of the division by x³ + x² + 1 (1101): where the coefficient of x^(i+3) is 1, the generator
times x^i is taken away. -/
def divideStep (v : BitVec 7) (i : Nat) : BitVec 7 :=
  if v.getLsbD (i + 3) then v ^^^ ((0b1101 : BitVec 7) <<< i) else v

/-- The remainder of a polynomial of degree at most 6 by x³ + x² + 1 over the field of two elements. -/
def remainder (v : BitVec 7) : BitVec 3 :=
  (divideStep (divideStep (divideStep (divideStep v 3) 2) 1) 0).extractLsb' 0 3

/-- R60: the check bits of a source-healthy flag and a count. -/
def checkBits (h : Bool) (c : BitVec 3) : BitVec 3 :=
  remainder (BitVec.ofBool h ++ c ++ (0 : BitVec 3))

/-- R61: the remainder of the received bits 7 to 1. -/
def syndrome (o : Octet) : BitVec 3 := remainder (o.extractLsb' 1 7)

/-- The number of 1 bits of an octet is even. -/
def evenParity (o : Octet) : Bool :=
  !((((o.getLsbD 0).xor (o.getLsbD 1)).xor ((o.getLsbD 2).xor (o.getLsbD 3))).xor
    (((o.getLsbD 4).xor (o.getLsbD 5)).xor ((o.getLsbD 6).xor (o.getLsbD 7))))

/-- R60: the one well-formed octet of a flag and a count. -/
def wellFormedOctet (h : Bool) (c : BitVec 3) : Octet :=
  let body : Octet := BitVec.ofBool h ++ c ++ checkBits h c ++ (0 : BitVec 1)
  if evenParity body then body else body ||| 1

/-- R61: the bit that a syndrome names. -/
def namedBit (s : BitVec 3) : Nat :=
  match s.toNat with
  | 1 => 1
  | 2 => 2
  | 4 => 3
  | 5 => 4
  | 7 => 5
  | 3 => 6
  | 6 => 7
  | _ => 0

/-- R61: the classification of a received octet; the bit in error is 0 for the parity bit. -/
inductive OctetClass where
  | noError
  | single (bit : Nat)
  | double
  deriving DecidableEq, Repr

def classifyOctet (o : Octet) : OctetClass :=
  if syndrome o = 0 then
    if evenParity o then .noError else .single 0
  else if evenParity o then .double else .single (namedBit (syndrome o))

/-- R63: the octet with one bit inverted. -/
def invertBit (o : Octet) (bit : Nat) : Octet := o ^^^ ((1 : Octet) <<< bit)

/-- The source-healthy flag of an octet. -/
def octetHealthy (o : Octet) : Bool := o.getLsbD 7

/-- The count of an octet. -/
def octetCount (o : Octet) : BitVec 3 := o.extractLsb' 4 3

/-! ## Cyclic redundancy checks, each octet least significant bit first -/

/-- One bit of a reflected CRC of width w. -/
def crcBit {w : Nat} (poly reg : BitVec w) : BitVec w :=
  if reg.getLsbD 0 then (reg >>> 1) ^^^ poly else reg >>> 1

/-- One octet of a reflected CRC. -/
def crcOctet {w : Nat} (poly reg : BitVec w) (o : Octet) : BitVec w :=
  let r := reg ^^^ o.setWidth w
  crcBit poly (crcBit poly (crcBit poly (crcBit poly
    (crcBit poly (crcBit poly (crcBit poly (crcBit poly r)))))))

def crcRun {w : Nat} (poly : BitVec w) : BitVec w → List Octet → BitVec w
  | reg, [] => reg
  | reg, o :: rest => crcRun poly (crcOctet poly reg o) rest

/-- R153: the generator x³² + x²⁶ + … + 1 read least significant bit first, preset to all ones and
complemented at the end. -/
def crc32 (octets : List Octet) : BitVec 32 :=
  ~~~(crcRun (0xEDB88320 : BitVec 32) 0xFFFFFFFF octets)

/-- R160: the generator x¹⁶ + x¹⁵ + x² + 1 read least significant bit first, preset to all ones, no
final complement. -/
def crc16 (octets : List Octet) : BitVec 16 := crcRun (0xA001 : BitVec 16) 0xFFFF octets

/-! ## The line of the maintenance link (R159) -/

/-- Zero insertion; the number is how many 1 bits in a row went before. -/
def zeroInsert : Nat → List Bool → List Bool
  | _, [] => []
  | n, true :: rest => if n = 4 then true :: false :: zeroInsert 0 rest else true :: zeroInsert (n + 1) rest
  | _, false :: rest => false :: zeroInsert 0 rest

/-- Zero deletion: a 0 that follows five consecutive 1 bits is deleted. -/
def zeroDelete : Nat → List Bool → List Bool
  | _, [] => []
  | n, true :: rest => true :: zeroDelete (n + 1) rest
  | n, false :: rest => if n = 5 then zeroDelete 0 rest else false :: zeroDelete 0 rest

/-- The bits of an octet in the order sent. -/
def octetBits (o : Octet) : List Bool := (List.range 8).map o.getLsbD

/-- The octet whose bits were received in this order. -/
def bitsOctet (bits : List Bool) : Octet :=
  BitVec.ofNat 8 (bits.foldr (fun b n => flagBit b + 2 * n) 0)

/-- The octets of a run of bits whose length is a multiple of 8; the number bounds the octets. -/
def bitsToOctets : Nat → List Bool → List Octet
  | 0, _ => []
  | k + 1, bits => if bits = [] then [] else bitsOctet (bits.take 8) :: bitsToOctets k (bits.drop 8)

/-- The delimiter 01111110. -/
def delimiterBits : List Bool := [false, true, true, true, true, true, true, false]

/-- R159, R161: a frame on the line. -/
def lineFrame (octets : List Octet) : List Bool :=
  delimiterBits ++ zeroInsert 0 (octets.flatMap octetBits) ++ delimiterBits

/-- R160: octets with their two check octets, low-order octet first. -/
def withCheck (octets : List Octet) : List Octet :=
  octets ++ [lowOctet (crc16 octets), highOctet (crc16 octets)]

/-! ## Freshness and status words -/

/-- R71. -/
def freshnessOf (order : OrderState) (healthy : Bool) : Freshness :=
  match order with
  | .locked | .skip | .doubt => if healthy then .fresh else .sourceFault
  | .hunt | .trial | .late => .stale

def Station.freshness (st : Station) : Freshness := freshnessOf st.order st.healthy

/-- Section 9.2, word 11: freshness in bits 1 to 0, order state in bits 6 to 4. -/
def statusWord (f : Freshness) (o : OrderState) : Word := toWord (f.code + 16 * o.code)

def Station.status (st : Station) : Word := statusWord st.freshness st.order

/-! ## Mirror words (section 9.6) -/

/-- R9: the below-cushion condition. -/
def Pass.belowCushion (k : PassCfg) (r : Pass) : Bool :=
  r.cls != .unknown && decide (r.low < k.cushionMark)

def passStateWord (k : PassCfg) (r : Pass) : Word :=
  toWord (r.state.code + 4 * r.cls.code + 32 * r.cause.code + 128 * flagBit r.hostWet
    + 256 * r.sensorWet.code + 1024 * flagBit r.wetActive + 2048 * flagBit r.grant
    + 4096 * flagBit r.settled + 8192 * flagBit r.levelValid + 16384 * flagBit (r.belowCushion k))

def passWords (k : PassCfg) (r : Pass) : List Word :=
  [passStateWord k r, toWord r.inventory, toWord r.levelFill, toWord r.high, toWord r.low,
    toWord r.accumulator, toWord r.dwell, toWord r.loosened]

def outletWords (o : Outlet) (q : Qualifiers) (flow : Tri) : List Word :=
  [toWord (o.state.code + 256 * (o.tag.getD 0).toNat),
    toWord (o.remaining + 256 * o.completed),
    toWord o.deliveredOrder,
    toWord o.deliveredCycle,
    toWord (stopReasonCode o.stopReason + 256 * o.lastFault.code),
    toWord (q.d0.value.code + 4 * q.d1.value.code + 16 * q.d2.value.code + 64 * flow.code),
    toWord o.workingTarget,
    toWord (o.workingOpening + 256 * flagBit o.stopAfter + 512 * flagBit o.grantHeld
      + 1024 * activeTimerCode o.timer)]

def tipWords (t : Tip) (q : Qualifiers) : List Word :=
  [toWord (t.state.code + 256 * t.remaining),
    toWord (t.lastCounter.toNat + 256 * flagBit t.known),
    toWord (q.d0.value.code + 4 * q.d1.value.code + 16 * q.d2.value.code + 64 * t.park.code),
    t.substitutes]

def stationWords (st : Station) : List Word :=
  [toWord (st.order.code + 8 * st.check.code + 16 * st.freshness.code),
    st.accepted,
    joinWord st.events[1] st.events[0],
    joinWord st.events[3] st.events[2],
    joinWord st.events[5] st.events[4],
    joinWord st.events[7] st.events[6],
    joinWord st.events[9] st.events[8],
    st.rollover.setWidth 16]

end Sys2Proof.Machine
end

