-- ==== Sys2Proof/Machine/Memory.lean ====
section
/-! DEFINITION. Image memory: cells (byte address, byte) in one canonical form (log 6, log 7). Word a is
bytes 2a (bits 7 to 0) and 2a + 1 (bits 15 to 8). -/

namespace Sys2Proof.Machine

/-- What an unlisted byte reads as (log 6: DESIGN CHOICE, unsafe). -/
def Memory.blank : BitVec 8 := 0

/-- The canonical form: addresses strictly rising, and no listed byte equal to the blank one. -/
abbrev Memory.wf (m : List Host.Cell) : Prop :=
  m.Pairwise (fun x y => x.1 < y.1) ∧ ∀ c ∈ m, c.2 ≠ Memory.blank

/-- One byte. -/
def Memory.read : List Host.Cell → Nat → BitVec 8
  | [], _ => Memory.blank
  | c :: rest, a => if c.1 = a then c.2 else Memory.read rest a

/-- A write of one byte keeps the canonical form: a blank byte removes the entry. -/
def Memory.write (a : Nat) (b : BitVec 8) : List Host.Cell → List Host.Cell
  | [] => if b = Memory.blank then [] else [(a, b)]
  | c :: rest =>
    if a < c.1 then (if b = Memory.blank then c :: rest else (a, b) :: c :: rest)
    else if a = c.1 then (if b = Memory.blank then rest else (a, b) :: rest)
    else c :: Memory.write a b rest

/-- The word at a word address. -/
def Memory.readWord (m : List Host.Cell) (a : Addr) : Word :=
  joinWord (Memory.read m (2 * a.toNat + 1)) (Memory.read m (2 * a.toNat))

/-- A write of one word. -/
def Memory.writeWord (a : Addr) (w : Word) (m : List Host.Cell) : List Host.Cell :=
  Memory.write (2 * a.toNat + 1) (highOctet w) (Memory.write (2 * a.toNat) (lowOctet w) m)

/-- R30: a write with its byte lanes; lane 0 covers bits 7 to 0, lane 1 bits 15 to 8 (log 7). -/
def Memory.writeLanes (a : Addr) (lanes : BitVec 2) (w : Word) (m : List Host.Cell) :
    List Host.Cell :=
  let m1 := if lanes.getLsbD 0 then Memory.write (2 * a.toNat) (lowOctet w) m else m
  if lanes.getLsbD 1 then Memory.write (2 * a.toNat + 1) (highOctet w) m1 else m1

/-- R49: the words of a group, entry by entry. -/
def Memory.writeEntries : List Entry → List Host.Cell → List Host.Cell
  | [], m => m
  | e :: rest, m => Memory.writeEntries rest (Memory.writeWord e.1 e.2 m)

end Sys2Proof.Machine
end

