-- ==== Sys2Proof/Machine/Ops.lean ====
section
/-! DEFINITION. The named operations over the registers, records, slots and queues. The controllers'
operations act on `Ctl` and read an `Env`; `State.onCtl` joins the two. -/

namespace Sys2Proof.Machine

/-! ## Accessors -/

def Ctl.pass (c : Ctl) (p : Fin 4) : Pass := c.passes[p]
def Ctl.outlet (c : Ctl) (n : Fin 8) : Outlet := c.outlets[n]
def Ctl.tip (c : Ctl) (t : Fin 12) : Tip := c.tips[t]
def Ctl.slot (c : Ctl) (k : Fin 24) : CommandSlot := c.slots[k]

def Ctl.setPass (c : Ctl) (p : Fin 4) (r : Pass) : Ctl :=
  { c with passes := c.passes.set p.val r p.isLt }
def Ctl.setOutlet (c : Ctl) (n : Fin 8) (o : Outlet) : Ctl :=
  { c with outlets := c.outlets.set n.val o n.isLt }
def Ctl.setTip (c : Ctl) (t : Fin 12) (x : Tip) : Ctl :=
  { c with tips := c.tips.set t.val x t.isLt }
def Ctl.setSlot (c : Ctl) (k : Fin 24) (x : CommandSlot) : Ctl :=
  { c with slots := c.slots.set k.val x k.isLt }

/-- What the controllers read and never change: the clock, the live configuration, whether the Journal
Writer takes requests, the station entries and the qualifiers. -/
structure Env where
  clock : Clock
  live : Live
  taking : Bool
  stations : Vector Station 32
  quals : Vector Qualifiers 32

/-- The Journal Writer takes requests from SAFING on (R141); the bases are live from the good load that
begins SAFING until the next reset takes effect. -/
def State.env (s : State) : Env where
  clock := s.clock
  live := s.live
  taking := s.bases.isSome
  stations := s.stations
  quals := s.quals

/-- The controllers act. -/
def State.onCtl (f : Env → Ctl → Ctl) (s : State) : State := { s with ctl := f s.env s.ctl }

def State.station (s : State) (i : Fin 32) : Station := s.stations[i]
def State.setStation (s : State) (i : Fin 32) (x : Station) : State :=
  { s with stations := s.stations.set i.val x i.isLt }
def State.qual (s : State) (i : Fin 32) : Qualifiers := s.quals[i]
def State.setQual (s : State) (i : Fin 32) (q : Qualifiers) : State :=
  { s with quals := s.quals.set i.val q i.isLt }
def State.stationSlot (s : State) (k : Fin 32) : StationSlot := s.stationSlots[k]
def State.setStationSlot (s : State) (k : Fin 32) (x : StationSlot) : State :=
  { s with stationSlots := s.stationSlots.set k.val x k.isLt }

/-- The live bases; all 0 where there are none. -/
def State.regions (s : State) : Regions :=
  s.bases.getD { station := 0, command := 0, control := 0, ring := 0, mirror := 0, records := 0 }

/-! ## Qualified signals as the controllers read them (R77) -/

/-- The freshness of the station with this number; a number that names no station is not FRESH. -/
def Env.freshAt (e : Env) (i : Nat) : Bool :=
  if h : i < 32 then (e.stations[i]'h).freshness == .fresh else false

def Env.qualAt (e : Env) (i : Nat) : Qualifiers :=
  if h : i < 32 then e.quals[i]'h else Qualifiers.reset

/-- R81: the qualified flow of a flow state. -/
def FlowState.qualified : FlowState → Tri
  | .unknown => .unknown
  | .noFlow | .rising => .no
  | .flow | .dropping => .yes

def Env.outletCfg (e : Env) (n : Fin 8) : OutletCfg := e.live.outletCfg n
def Env.tipCfg (e : Env) (t : Fin 12) : TipCfg := e.live.tipCfg t
def Env.passCfg (e : Env) (p : Fin 4) : PassCfg := e.live.passCfg p

def Env.outletFresh (e : Env) (n : Fin 8) : Bool := e.freshAt (e.outletCfg n).station
def Env.outletQual (e : Env) (n : Fin 8) : Qualifiers := e.qualAt (e.outletCfg n).station
def Env.tipFresh (e : Env) (t : Fin 12) : Bool := e.freshAt (e.tipCfg t).station
def Env.tipQual (e : Env) (t : Fin 12) : Qualifiers := e.qualAt (e.tipCfg t).station

/-! ## Journal requests (R142, R144) -/

/-- R144: a request joins the tail; with 8 records pending, the oldest is dropped and counted. -/
def Journal.request (j : Journal) (x : JournalRecord) : Journal :=
  if 8 ≤ j.list.length then
    { j with list := j.list.tail ++ [x], lost := satAdd 65535 j.lost 1 }
  else { j with list := j.list ++ [x] }

/-- A block hands over a record with the clock value of its event. -/
def Ctl.report (e : Env) (kind : RecordKind) (subject d0 d1 d2 d3 : Nat) (c : Ctl) : Ctl :=
  if e.taking then
    { c with
      journal := c.journal.request
        { kind := kind, subject := subject, stamp := e.clock, d0 := toWord d0, d1 := toWord d1
          d2 := toWord d2, d3 := toWord d3 } }
  else c

/-! ## Write-back records (R42, R47) -/

def WriteBack.words (w : WriteBack) : List (Option Word) :=
  [w.a, w.b, w.c, w.demand, w.verdict, w.detail]

/-- Some word of the record is marked. -/
def WriteBack.marked (w : WriteBack) : Bool := w.words.any Option.isSome

/-- A change to one command slot. -/
def Ctl.updSlot (c : Ctl) (k : Fin 24) (f : CommandSlot → CommandSlot) : Ctl :=
  c.setSlot k (f (c.slot k))

/-- The demand word goes with this tag, which becomes the tag last placed. -/
def CommandSlot.putDemand (code tag : Octet) (x : CommandSlot) : CommandSlot :=
  { x with wb := { x.wb with demand := some (joinWord tag code) }, lastTag := tag }

/-- R42: verdict word and detail word. -/
def CommandSlot.putVerdict (v : Verdict) (tag detail : Octet) (x : CommandSlot) : CommandSlot :=
  { x with
    wb := { x.wb with verdict := some (joinWord tag v.code), detail := some (joinWord 0 detail) } }

/-- R40: set-points written into the record also enter the copy. -/
def CommandSlot.putSetPoints (sp : SetPoints) (x : CommandSlot) : CommandSlot :=
  { x with wb := { x.wb with a := some sp.a, b := some sp.b, c := some sp.c }, copy := sp }

/-- R42: the part writes a demand on its own account, with the tag last placed. -/
def Ctl.ownDemand (k : Fin 24) (code : Octet) (c : Ctl) : Ctl :=
  c.updSlot k fun x => x.putDemand code x.lastTag

/-- R42: an accepted or clamped commit, with the set-points it goes forward with. -/
def Ctl.accept (k : Fin 24) (sp : SetPoints) (code tag : Octet) (v : Verdict) (detail : Octet)
    (c : Ctl) : Ctl :=
  c.updSlot k fun x => ((x.putSetPoints sp).putDemand code tag).putVerdict v tag detail

/-- R96, R126: accepted with the set-points of the slot's copy. -/
def Ctl.acceptCopy (k : Fin 24) (code tag : Octet) (v : Verdict) (detail : Octet) (c : Ctl) : Ctl :=
  c.accept k (c.slot k).copy code tag v detail

/-- R42: refused with its reason. -/
def Ctl.refuse (k : Fin 24) (tag : Octet) (r : Reason) (c : Ctl) : Ctl :=
  c.updSlot k fun x => x.putVerdict .refused tag r.code

/-- R43: a commit that fails only a transient check is refused where the limit is 0, and otherwise
deferred at the present clock value. -/
def Ctl.defer (e : Env) (k : Fin 24) (cm : Commit) (r : Reason) (limit : Nat) (c : Ctl) : Ctl :=
  if limit = 0 then c.refuse k cm.tag r
  else
    c.updSlot k fun x =>
      { x.putVerdict .deferred cm.tag r.code with
        holder := some { commit := cm, since := e.clock, reason := r, limit := limit } }

/-- The holder is emptied. -/
def Ctl.clearHolder (k : Fin 24) (c : Ctl) : Ctl := c.updSlot k fun x => { x with holder := none }

/-- R44: a permanent check failed at a re-judgement, or the deferral expired (R45). -/
def Ctl.refuseDeferred (k : Fin 24) (tag : Octet) (r : Reason) (c : Ctl) : Ctl :=
  (c.clearHolder k).refuse k tag r

/-- R44: still deferred; a different reason goes into the holder and the detail word. -/
def Ctl.keepDeferred (k : Fin 24) (d : Deferred) (r : Reason) (c : Ctl) : Ctl :=
  if r = d.reason then c
  else
    c.updSlot k fun x =>
      { x with
        holder := some { d with reason := r }
        wb := { x.wb with detail := some (joinWord 0 r.code) } }

/-- What the checks of an order give: the first check that fails (R97, R127). -/
inductive Judgement where
  | pass
  | refuse (r : Reason)
  | transient (r : Reason)
  deriving DecidableEq, Repr

/-! ## Queues (R49, R50) -/

/-- The entries waiting in the urgent queue. -/
def State.urgentCount (s : State) : Nat := (s.urgent.map List.length).sum

/-- Free entries of the 32 of the urgent queue. -/
def State.urgentFree (s : State) : Nat := 32 - s.urgentCount

/-- Free entries of the 16 of the bulk queue. -/
def State.bulkFree (s : State) : Nat := 16 - s.bulk.length

/-- The marked words of a slot as queue entries, the first word at word address `base`. -/
def markedEntries : Nat → List (Option Word) → List Entry
  | _, [] => []
  | base, none :: rest => markedEntries (base + 1) rest
  | base, some w :: rest => (BitVec.ofNat 22 base, w) :: markedEntries (base + 1) rest

/-- Words to be written at consecutive addresses. -/
def entriesAt (base : Nat) (ws : List Word) : List Entry := markedEntries base (ws.map some)

/-- A group joins the urgent queue. -/
def State.placeUrgent (s : State) (g : List Entry) : State := { s with urgent := s.urgent ++ [g] }

/-- Words join the bulk queue in order. -/
def State.placeBulk (s : State) (g : List Entry) : State := { s with bulk := s.bulk ++ g }

/-- The word address of word 0 of a command slot. -/
def State.commandBase (s : State) (k : Fin 24) : Nat := s.regions.command + 6 * k.val

/-- The word address of word 0 of a station slot. -/
def State.stationBase (s : State) (k : Fin 32) : Nat := s.regions.station + 12 * k.val

/-- R41, R46, R48: the marked words of a write-back record enter the urgent queue as one group, and the
marks are cleared. -/
def State.placeSlot (k : Fin 24) (s : State) : State :=
  let x := s.ctl.slot k
  if x.wb.marked then
    { s.placeUrgent (markedEntries (s.commandBase k) x.wb.words) with
      ctl := s.ctl.setSlot k { x with wb := WriteBack.empty } }
  else s

/-- R48: a status latch enters the urgent queue as a group of one entry. -/
def State.placeLatch (k : Fin 32) (s : State) : State :=
  match (s.stationSlot k).latch with
  | none => s
  | some w =>
    (s.placeUrgent [(BitVec.ofNat 22 (s.stationBase k + 11), w)]).setStationSlot k
      { s.stationSlot k with latch := none }

/-- R39, R72: a status value is written into a slot's latch. -/
def State.putLatch (k : Fin 32) (w : Word) (s : State) : State :=
  s.setStationSlot k { s.stationSlot k with latch := some w }

/-! ## The drainer's rotation (R48) -/

/-- The sources: command slots 0 to 23, then status latches 0 to 31. -/
inductive Source where
  | slot (k : Fin 24)
  | latch (k : Fin 32)
  deriving DecidableEq, Repr

def sourceOf (i : Fin 56) : Source :=
  if h : i.val < 24 then .slot ⟨i.val, h⟩ else .latch ⟨i.val - 24, by omega⟩

/-- How many words of a source are marked. -/
def State.sourceWords (s : State) (i : Fin 56) : Nat :=
  match sourceOf i with
  | .slot k => ((s.ctl.slot k).wb.words.filter Option.isSome).length
  | .latch k => if (s.stationSlot k).latch.isSome then 1 else 0

/-- The sources in the order of the rotation, from a position on. -/
def rotation (i : Fin 56) : List (Fin 56) := (List.finRange 56).map fun j => i + j

/-- The first marked source from the drainer's position on. -/
def State.nextSource (s : State) : Option (Fin 56) :=
  (rotation s.drainer).find? fun i => decide (0 < s.sourceWords i)

/-- R48: the drainer goes to the first marked source and waits there (log 26). -/
def State.seek (s : State) : State :=
  match s.nextSource with
  | none => s
  | some i => { s with drainer := i }

/-! ## The shape of an event -/

/-- The outcome type of the machine. -/
abbrev Result := Host.Outcome State Fault Refusal

/-- While the reset input is asserted the part takes no event (log 5). -/
def quiet (f : State → State) (s : State) : Result :=
  if s.resetAsserted then .next s else .next (f s)

/-- An event that can mark a source; the drainer then looks for its source. -/
def event (f : State → State) (s : State) : Result := quiet (fun t => (f t).seek) s

end Sys2Proof.Machine
end

