-- ==== Sys2Proof/Machine/PassAccount.lean ====
section
/-! DEFINITION. The Pass Account (chapter 1): what an event does to a pass record. What the change then
does at the outlets and tip points of the pass is `News`, delivered by Machine/PassEvents.lean. -/

namespace Sys2Proof.Machine

/-- The pass events that a change of a pass record makes (section 1.9). `touched`: some pass event was
made, so the deferred commits of the members are re-judged. -/
structure News where
  full : Bool
  cushion : Bool
  hangup : Bool
  lockout : Bool
  touched : Bool
  deriving DecidableEq, Repr

def News.quiet : News where
  full := false
  cushion := false
  hangup := false
  lockout := false
  touched := false

/-- A pass event without an immediate effect at the members. -/
def News.touch (b : Bool) : News := { News.quiet with touched := b }

def News.join (a b : News) : News where
  full := a.full || b.full
  cushion := a.cushion || b.cushion
  hangup := a.hangup || b.hangup
  lockout := a.lockout || b.lockout
  touched := a.touched || b.touched

/-- One change of a pass record after another in the same event. -/
def andThen (x : Ctl × News) (f : Ctl → Ctl × News) : Ctl × News :=
  let y := f x.1
  (y.1, x.2.join y.2)

/-! ## Fill estimates and class (R7 to R9) -/

/-- R8, on the estimates of the record; the class of the record is the one before. -/
def Pass.classify (k : PassCfg) (r : Pass) : FillClass :=
  if k.fullMark ≤ r.high then .full
  else if r.cls = .full ∧ k.releaseMark ≤ r.high then .full
  else if k.highMark ≤ r.high then .high
  else if r.low < k.cushionMark then .cushion
  else .working

/-- R7: the high-side and low-side fill; unchanged where neither measure is available. -/
def Pass.sides (r : Pass) : Pass :=
  if r.levelValid then
    if r.settled then
      { r with high := max r.levelFill r.inventory, low := min r.levelFill r.inventory }
    else { r with high := r.levelFill, low := r.levelFill }
  else if r.settled then { r with high := r.inventory, low := r.inventory }
  else r

/-- R7, R8: the estimates and the class. -/
def Pass.estimate (k : PassCfg) (r : Pass) : Pass :=
  if r.levelValid || r.settled then
    { r.sides with cls := r.sides.classify k }
  else { r with cls := .unknown }

/-- R10: the difference exceeds the tolerance. -/
def Pass.differs (k : PassCfg) (r : Pass) : Bool :=
  decide (k.tolerance < max r.levelFill r.inventory - min r.levelFill r.inventory)

/-- R10: the evaluation of the disagreement after a recomputation. -/
def Pass.judgeDisagreement (k : PassCfg) (now : Clock) (r : Pass) : Pass :=
  if r.levelValid && r.settled then
    if r.differs k then { r with disagree := some (r.disagree.getD now) }
    else { r with disagree := none, reported := false }
  else { r with disagree := none }

/-- R7 to R10: the recomputation of the fill estimates; `wasBelow` is the below-cushion condition before
the event. -/
def recomputeFrom (e : Env) (p : Fin 4) (wasBelow : Bool) (c : Ctl) : Ctl × News :=
  let k := e.passCfg p
  let r := c.pass p
  let x := (r.estimate k).judgeDisagreement k e.clock
  let c1 := c.setPass p x
  let c2 := if x.cls = r.cls then c1
    else c1.report e .fillClass p.val r.cls.code x.cls.code x.high x.low
  (c2, { full := x.cls == .full && r.cls != .full
         cushion := x.belowCushion k && !wasBelow
         hangup := false
         lockout := false
         touched := x.cls != r.cls || x.belowCushion k != wasBelow })

def recompute (e : Env) (p : Fin 4) (c : Ctl) : Ctl × News :=
  recomputeFrom e p ((c.pass p).belowCushion (e.passCfg p)) c

/-! ## Hang-up (R11 to R14) -/

/-- R14: entry into HANGUP from RUNNING. -/
def enterHangup (e : Env) (p : Fin 4) (cause : HangCause) (c : Ctl) : Ctl × News :=
  let c1 := c.setPass p { c.pass p with state := .hangup, cause := cause }
  let c2 := c1.ownDemand (passSlot p) (BitVec.ofNat 8 PassState.hangup.code)
  (c2.report e .passState p.val PassState.running.code PassState.hangup.code cause.code 0,
    { News.quiet with hangup := true, touched := true })

/-- R11, R12: a debit of `m` dt feeds the accumulator of a RUNNING pass with a valid level. -/
def accumulate (e : Env) (p : Fin 4) (m : Nat) (c : Ctl) : Ctl × News :=
  let r := c.pass p
  if r.state = .running ∧ r.levelValid = true then
    let acc := satAdd 65535 r.accumulator m
    let c1 := c.setPass p { r with accumulator := acc }
    if (e.passCfg p).threshold ≤ acc then enterHangup e p .levelStatic c1 else (c1, News.quiet)
  else (c, News.quiet)

/-- R11: a level report with a valid level moves the reference of a RUNNING pass; `wasValid` is the
valid flag before the report. -/
def Pass.moveReference (k : PassCfg) (wasValid : Bool) (r : Pass) : Pass :=
  if r.state = .running ∧ r.levelValid = true then
    if wasValid then
      if r.reference < r.levelFill then { r with reference := r.levelFill }
      else if r.levelFill + k.fallStep ≤ r.reference then
        { r with reference := r.levelFill, accumulator := 0 }
      else r
    else { r with reference := r.levelFill, accumulator := 0 }
  else r

/-- R11: on entry into RUNNING. -/
def Pass.startReference (r : Pass) : Pass :=
  { r with reference := if r.levelValid then r.levelFill else 0, accumulator := 0 }

/-! ## Wetness, dwell and the restriction (R15 to R19) -/

/-- R15. -/
def Pass.wetEffective (r : Pass) : Bool := r.hostWet || r.sensorWet == .wet

/-- Section 9.4, wet source: HOST 1, SENSOR 2, BOTH 3. -/
def Pass.wetSource (r : Pass) : Nat := flagBit r.hostWet + 2 * flagBit (r.sensorWet == .wet)

/-- R16: some outlet of the pass is in FLOWING. -/
def Ctl.anyFlowing (e : Env) (p : Fin 4) (c : Ctl) : Bool :=
  (e.live.outletsOf p).any fun n => (c.outlet n).state == .flowing

/-- R17: the activation test. -/
def activationTest (e : Env) (p : Fin 4) (c : Ctl) : Ctl × News :=
  let r := c.pass p
  if r.wetActive = false ∧ r.wetEffective = true ∧ (e.passCfg p).wetDwell ≤ r.dwell then
    ((c.setPass p { r with wetActive := true, loosened := 0 }).report e .wetRestrict p.val
      1 r.dwell r.wetSource 0, News.touch true)
  else (c, News.quiet)

/-- R19: the restriction ends; the end cause is LOOSENED 1 or DRY 2. The dwell interval starts afresh
where no outlet is in FLOWING (R16). -/
def endRestriction (e : Env) (p : Fin 4) (cause : Nat) (c : Ctl) : Ctl × News :=
  let r := c.pass p
  let timer := if c.anyFlowing e p then r.dwellTimer else some e.clock
  ((c.setPass p { r with wetActive := false, loosened := 0, dwell := 0, dwellTimer := timer }).report
    e .wetRestrict p.val 2 cause r.loosened 0, News.touch true)

/-- R19: the ending test. Where both cases hold at one test (R4 can bring that about), the spec names no
order of the causes, and the model ends with LOOSENED (log 40). -/
def endingTest (e : Env) (p : Fin 4) (c : Ctl) : Ctl × News :=
  let r := c.pass p
  if r.wetActive then
    if (e.passCfg p).loosening ≤ r.loosened then endRestriction e p 1 c
    else if r.wetEffective then (c, News.quiet)
    else endRestriction e p 2 c
  else (c, News.quiet)

/-- R15: both tests after a change of the host flag or of the sensor field. -/
def wetTests (e : Env) (p : Fin 4) (c : Ctl) : Ctl × News :=
  andThen (activationTest e p c) (endingTest e p)

/-- R18: a debit taken while the restriction is active adds to the loosening mass. -/
def loosen (e : Env) (p : Fin 4) (m : Nat) (c : Ctl) : Ctl × News :=
  let r := c.pass p
  if r.wetActive then
    endingTest e p (c.setPass p { r with loosened := satAdd 65535 r.loosened m })
  else (c, News.quiet)

/-- R15: a report of the moisture qualifier. -/
def sensorReport (e : Env) (p : Fin 4) (w : Wetness) (c : Ctl) : Ctl × News :=
  let r := c.pass p
  if r.sensorWet = w then (c, News.quiet)
  else wetTests e p (c.setPass p { r with sensorWet := w })

/-- R16: an outlet of the pass entered FLOWING. -/
def flowEntered (p : Fin 4) (c : Ctl) : Ctl :=
  c.setPass p { c.pass p with dwell := 0, dwellTimer := none }

/-- R16: an outlet of the pass left FLOWING; the interval starts when it was the last. -/
def flowLeft (e : Env) (p : Fin 4) (c : Ctl) : Ctl :=
  if c.anyFlowing e p then c else c.setPass p { c.pass p with dwellTimer := some e.clock }

/-- R16: the one-second interval expires, the dwell increases and the interval starts again from its
expiry (log 14); the activation test follows. -/
def dwellExpires (e : Env) (p : Fin 4) (since : Clock) (c : Ctl) : Ctl × News :=
  let r := c.pass p
  activationTest e p
    (c.setPass p { r with dwell := satAdd 65535 r.dwell 1, dwellTimer := some (since + 1000) })

/-! ## Inventory (R5, R6, R27) -/

/-- R5: a debit of `m` dt. The order of its parts in the event is log 13. -/
def debit (e : Env) (p : Fin 4) (m : Nat) (c : Ctl) : Ctl × News :=
  let r := c.pass p
  let c1 := c.setPass p { r with inventory := r.inventory - m }
  let c2 := if r.inventory < m then c1.report e .inventoryClamp p.val 2 (m - r.inventory) 0 0 else c1
  let x := if r.inventory - m = r.inventory then (c2, News.quiet) else recompute e p c2
  andThen (andThen x (accumulate e p m)) (loosen e p m)

/-- R5: a credit of `m` dt. -/
def credit (e : Env) (p : Fin 4) (m : Nat) (c : Ctl) : Ctl × News :=
  let r := c.pass p
  let cap := (e.passCfg p).capacity
  let c1 := c.setPass p { r with inventory := min cap (r.inventory + m) }
  let c2 := if cap < r.inventory + m then
      c1.report e .inventoryClamp p.val 1 (min 65535 (r.inventory + m - cap)) 0 0
    else c1
  if min cap (r.inventory + m) = r.inventory then (c2, News.quiet) else recompute e p c2

/-- R6, R27: the inventory is set and settled, and REBASE journaled with its cause (AUTO 1, LEVEL 2,
SET 3). -/
def settleInventory (e : Env) (p : Fin 4) (cause value : Nat) (c : Ctl) : Ctl :=
  let r := c.pass p
  (c.setPass p { r with inventory := value, settled := true }).report e .rebase p.val cause
    r.inventory value 0

/-- R6, R7, R11: a report of the level filter. -/
def levelReport (e : Env) (p : Fin 4) (fill : Nat) (valid : Bool) (c : Ctl) : Ctl × News :=
  let r := c.pass p
  let wasBelow := r.belowCushion (e.passCfg p)
  let c1 := c.setPass p
    (({ r with levelFill := fill, levelValid := valid } : Pass).moveReference (e.passCfg p)
      r.levelValid)
  let c2 := if valid && !r.settled then settleInventory e p 1 fill c1 else c1
  recomputeFrom e p wasBelow c2

/-! ## Disagreement (R10) -/

/-- R10: the timer expires after the hold time; it stops, and DISAGREE is journaled once (log 15). -/
def disagreementExpires (e : Env) (p : Fin 4) (c : Ctl) : Ctl :=
  let r := c.pass p
  let c1 := c.setPass p { r with disagree := none, reported := true }
  if r.reported then c1
  else c1.report e .disagree p.val r.levelFill r.inventory (e.passCfg p).holdTime 0

/-- The disagreement timer of a pass has run for its hold time. -/
def disagreementDue (e : Env) (p : Fin 4) (c : Ctl) : Bool :=
  match (c.pass p).disagree with
  | none => false
  | some since => decide ((e.passCfg p).holdTime * 1000 ≤ elapsed e.clock since)

/-! ## Entry into the pass states by commits (R23 to R25) -/

/-- R23: entry into LOCKOUT. -/
def enterLockout (e : Env) (p : Fin 4) (c : Ctl) : Ctl × News :=
  let r := c.pass p
  ((c.setPass p { r with state := .lockout, cause := .none, grant := false }).report e .passState
      p.val r.state.code PassState.lockout.code 0 0,
    { News.quiet with lockout := true, touched := true })

/-- R24, R25: entry into RUNNING. -/
def enterRunning (e : Env) (p : Fin 4) (c : Ctl) : Ctl × News :=
  let r := c.pass p
  ((c.setPass p { r.startReference with state := .running, cause := .none }).report e .passState
      p.val r.state.code PassState.running.code 0 0,
    News.touch true)

end Sys2Proof.Machine
end

