-- ==== Sys2Proof/Machine/OutletControl.lean ====
section
/-! DEFINITION. The Outlet Controller (chapter 5): stops, order ends, the checks and the execution of a
DRAW, cycle starts, and what a record does at an outlet. Pass events that these make are delivered by
Machine/PassEvents.lean. -/

namespace Sys2Proof.Machine

/-- The states in which an outlet holds an order whose cycles are still running (section 5.2). -/
def OutletState.active : OutletState → Bool
  | .opening | .flowing | .closing | .indexing => true
  | .idle | .stopping | .fault => false

/-- OPENING or FLOWING: the demand in force is OPEN (R94), and the one-outlet limit counts it (R18). -/
def OutletState.drawing : OutletState → Bool
  | .opening | .flowing => true
  | .idle | .closing | .indexing | .stopping | .fault => false

/-- R94: the actuator code of the demand in force, CLOSED 0 or OPEN 1. -/
def OutletState.demand (s : OutletState) : Octet := if s.drawing then 1 else 0

/-- R18: another outlet of the pass is in OPENING or FLOWING. -/
def Ctl.otherDrawing (e : Env) (n : Fin 8) (c : Ctl) : Bool :=
  (e.live.outletsOf (e.outletCfg n).pass).any fun m => m != n && (c.outlet m).state.drawing

/-! ## Stops and ends -/

/-- R114: entry into STOPPING from an active state; from any other state nothing happens. -/
def stopOutlet (e : Env) (n : Fin 8) (reason : EndReason) (c : Ctl) : Ctl :=
  let o := c.outlet n
  if o.state.active then
    let timer := if o.state = .closing then o.timer else some (.close, e.clock)
    let c1 := c.setOutlet n
      { o with state := .stopping, stopReason := some reason, startPending := false, timer := timer }
    let c2 := if o.state.drawing then c1.ownDemand (outletSlot n) 0 else c1
    if o.state = .flowing then flowLeft e (e.outletCfg n).pass c2 else c2
  else c

/-- R108: the order ends. -/
def endOrder (e : Env) (n : Fin 8) (reason : EndReason) (c : Ctl) : Ctl :=
  let o := c.outlet n
  (c.setOutlet n
    { o with
      state := .idle, tag := none, latchTarget := none, latchCycles := none, latchOpening := none
      stopAfter := false, grantHeld := false, departureSeen := false, startPending := false
      stopReason := some reason, timer := none }).report e .orderEnd n.val (o.tag.getD 0).toNat
    reason.code o.completed o.deliveredOrder

/-- R119: the CLOSE timer expires. -/
def faultOutlet (e : Env) (n : Fin 8) (c : Ctl) : Ctl :=
  let o := c.outlet n
  (c.setOutlet n
    { o with
      state := .fault, lastFault := .gateNoClose, tag := none, latchTarget := none
      latchCycles := none, latchOpening := none, stopAfter := false, grantHeld := false
      departureSeen := false, startPending := false, timer := none }).report e .outletFault n.val
    (FaultCode.gateNoClose.code + 256 * o.state.code)
    (if o.state = .closing then 0 else stopReasonCode o.stopReason) o.completed o.deliveredOrder

/-! ## DRAW -/

/-- R97, steps 3 to 13 (the two checks of R96 come first). -/
def drawCheck (e : Env) (n : Fin 8) (cm : Commit) (c : Ctl) : Judgement :=
  let p := (e.outletCfg n).pass
  let r := c.pass p
  let o := c.outlet n
  if r.state = .lockout then .refuse .lockout
  else if o.state = .fault then .refuse .outletFault
  else if r.state = .hangup then .refuse .hangup
  else if e.outletFresh n = false ∨ o.lastRecord = none then .refuse .feedbackStale
  else if r.cls = .unknown then .refuse .fillUnknown
  else if r.belowCushion (e.passCfg p) = true ∧ r.grant = false then .refuse .cushion
  else if o.state ≠ .idle then .refuse .busy
  else if r.wetActive = true ∧ c.otherDrawing e n = true then .refuse .busyPass
  else if drawInRange cm.sp = false then .refuse .range
  else if (e.outletQual n).d2.value ≠ .yes then .transient .receiverAbsent
  else if (e.outletQual n).d0.value ≠ .yes then .transient .gateNotClosed
  else .pass

/-- R98: the consumption request; the answer says whether the grant was set. -/
def takeGrant (p : Fin 4) (c : Ctl) : Ctl × Bool :=
  let r := c.pass p
  if r.grant then (c.setPass p { r with grant := false }, true) else (c, false)

/-- R18: a target or an opening lowered to its restricted value while the restriction is active. -/
def lowered (active : Bool) (limit v : Nat) : Nat := if active then min limit v else v

def zeroLoad : LoadRecord where
  weight := 0
  identity := 0
  position := 0

/-- R99: the order starts on the outlet. -/
def startOrder (e : Env) (n : Fin 8) (cm : Commit) (grant : Bool) (c : Ctl) : Ctl :=
  let k := e.passCfg (e.outletCfg n).pass
  let wet := (c.pass (e.outletCfg n).pass).wetActive
  let o := c.outlet n
  let load := o.lastRecord.getD zeroLoad
  let a := cm.sp.a.toNat
  let z := cm.sp.c.toNat
  let target := lowered wet k.restrictedTarget a
  let opening := lowered wet k.restrictedOpening z
  let clamp := clampCode (target != a) (opening != z)
  (c.setOutlet n
    { o with
      state := .opening, tag := some cm.tag, orderedTarget := a, orderedOpening := z
      workingTarget := target, workingOpening := opening, remaining := cm.sp.b.toNat, completed := 0
      latchTarget := none, latchCycles := none, latchOpening := none, stopAfter := false
      departureSeen := false, startPending := false
      grantHeld := grant, snapshot := load.weight, highMark := load.weight, deliveredCycle := 0
      deliveredOrder := 0, startIdentity := load.identity, stopReason := none
      timer := some (.openT, e.clock) }).accept (outletSlot n)
    { a := toWord target, b := cm.sp.b, c := toWord opening } 1 cm.tag
    (if clamp = 0 then .accepted else .clamped) clamp

/-- R98, R99: a DRAW that passed every check. -/
def executeDraw (e : Env) (n : Fin 8) (cm : Commit) (c : Ctl) : Ctl :=
  let g := takeGrant (e.outletCfg n).pass c
  startOrder e n cm g.2 g.1

/-- R44, R100: the deferred DRAW of an outlet is re-judged. -/
def rejudgeDraw (e : Env) (n : Fin 8) (c : Ctl) : Ctl :=
  match (c.slot (outletSlot n)).holder with
  | none => c
  | some d =>
    match drawCheck e n d.commit c with
    | .pass => executeDraw e n d.commit (c.clearHolder (outletSlot n))
    | .refuse r => c.refuseDeferred (outletSlot n) d.commit.tag r
    | .transient r => c.keepDeferred (outletSlot n) d r

/-! ## Cycle start (R107) -/

/-- R107: the cycle begins. -/
def beginCycle (e : Env) (n : Fin 8) (c : Ctl) : Ctl :=
  let k := e.passCfg (e.outletCfg n).pass
  let wet := (c.pass (e.outletCfg n).pass).wetActive
  let o := c.outlet n
  let load := o.lastRecord.getD zeroLoad
  let a := o.latchTarget.getD o.orderedTarget
  let z := o.latchOpening.getD o.orderedOpening
  let b := o.latchCycles.getD o.remaining
  let target := lowered wet k.restrictedTarget a
  let opening := lowered wet k.restrictedOpening z
  (c.setOutlet n
    { o with
      state := .opening, orderedTarget := a, orderedOpening := z, remaining := b
      latchTarget := none, latchCycles := none, latchOpening := none
      workingTarget := target, workingOpening := opening
      snapshot := load.weight, highMark := load.weight, startIdentity := load.identity
      deliveredCycle := 0, startPending := false, timer := some (.openT, e.clock) }).updSlot
    (outletSlot n) fun x =>
      (x.putSetPoints { a := toWord target, b := toWord b, c := toWord opening }).putDemand 1 x.lastTag

/-- R107: the checks of a cycle start, and what follows from them (log 20). -/
def cycleStart (e : Env) (n : Fin 8) (c : Ctl) : Ctl :=
  let p := (e.outletCfg n).pass
  let r := c.pass p
  let o := c.outlet n
  if r.state = .lockout then endOrder e n .lockout c
  else if r.state = .hangup then endOrder e n .hangup c
  else if r.belowCushion (e.passCfg p) = true ∧ r.grant = false ∧ o.grantHeld = false then
    endOrder e n .cushion c
  else if r.wetActive = true ∧ c.otherDrawing e n = true then
    c.setOutlet n { o with startPending := true }
  else beginCycle e n c

/-! ## A record at an outlet (R91, R101 to R106, R118) -/

/-- The states in which a record is weighed (R103), whatever they were entered from (log 37). -/
def OutletState.weighing : OutletState → Bool
  | .opening | .flowing | .closing | .stopping | .fault => true
  | .idle | .indexing => false

/-- R103: the record's load weight against the weight high mark. -/
def weigh (e : Env) (n : Fin 8) (w : Nat) (c : Ctl) : Ctl × News :=
  let o := c.outlet n
  if o.state.weighing = true ∧ o.highMark < w then
    let m := w - o.highMark
    debit e (e.outletCfg n).pass m
      (c.setOutlet n
        { o with
          highMark := w, deliveredCycle := w - o.snapshot
          deliveredOrder :=
            if o.state = .fault then o.deliveredOrder else satAdd 65535 o.deliveredOrder m })
  else (c, News.quiet)

/-- R101: entry into FLOWING. -/
def confirmOpen (e : Env) (n : Fin 8) (c : Ctl) : Ctl :=
  let o := c.outlet n
  let t := if (e.outletQual n).flow.state.qualified = .yes then OutletTimer.cycleDraw else .flowStart
  flowEntered (e.outletCfg n).pass
    (c.setOutlet n { o with state := .flowing, timer := some (t, e.clock) })

/-- R101: the gate position lies within 5 points of the working opening. -/
def nearOpening (position opening : Nat) : Bool :=
  decide (position ≤ opening + 5) && decide (opening ≤ position + 5)

/-- R104: the cycle's draw is complete. -/
def preClose (e : Env) (n : Fin 8) (c : Ctl) : Ctl :=
  let o := c.outlet n
  flowLeft e (e.outletCfg n).pass
    ((c.setOutlet n { o with state := .closing, timer := some (.close, e.clock) }).ownDemand
      (outletSlot n) 0)

/-- R105: the closure of a cycle is confirmed. -/
def closeCycle (e : Env) (n : Fin 8) (c : Ctl) : Ctl :=
  let o := c.outlet n
  let left := o.latchCycles.getD (o.remaining - 1)
  let c1 := c.setOutlet n
    { o with
      completed := satAdd 255 o.completed 1, remaining := left, latchCycles := none, timer := none }
  if left = 0 then endOrder e n .done c1
  else if o.stopAfter then endOrder e n .stopAfter c1
  else c1.setOutlet n
    { c1.outlet n with
      state := .indexing, timer := some (.index, e.clock), departureSeen := false
      startPending := false }

/-- R106: a record in INDEXING. -/
def indexRecord (e : Env) (n : Fin 8) (identity : Nat) (c : Ctl) : Ctl :=
  let o := c.outlet n
  match (e.outletQual n).d2.value with
  | .no => c.setOutlet n { o with departureSeen := true }
  | .yes =>
    if o.departureSeen = true ∨ identity ≠ o.startIdentity then cycleStart e n c else c
  | .unknown => c

/-- What the outlet's state makes of a record after its weighing (log 21). -/
def reactRecord (e : Env) (n : Fin 8) (x : LoadRecord) (c : Ctl) : Ctl :=
  let o := c.outlet n
  match o.state with
  | .opening =>
    if (e.outletQual n).d1.value = .yes ∨ nearOpening x.position o.workingOpening = true then
      confirmOpen e n c
    else c
  | .flowing =>
    if o.workingTarget ≤ o.deliveredCycle + (e.outletCfg n).lead then preClose e n c else c
  | .closing => if (e.outletQual n).d0.value = .yes then closeCycle e n c else c
  | .indexing => indexRecord e n x.identity c
  | .stopping =>
    if (e.outletQual n).d0.value = .yes then
      endOrder e n (o.stopReason.getD .hostClose) c
    else c
  | .idle => c
  | .fault => c

/-- R91: the raw fields are copied, then the record is weighed and acted on. The news of the debit
reach the members after the record's own work (log 12). -/
def outletRecord (e : Env) (n : Fin 8) (x : LoadRecord) (c : Ctl) : Ctl × News :=
  let c1 := c.setOutlet n { c.outlet n with lastRecord := some x }
  let y := weigh e n x.weight c1
  let c2 := reactRecord e n x y.1
  (c2, y.2.join (News.touch ((c.outlet n).state.drawing != (c2.outlet n).state.drawing)))

/-! ## Value, freshness and timer events of one outlet -/

/-- R102: the qualified flow became TRUE. -/
def flowBegins (e : Env) (n : Fin 8) (c : Ctl) : Ctl :=
  let o := c.outlet n
  match o.timer with
  | some (.flowStart, _) =>
    if o.state = .flowing then c.setOutlet n { o with timer := some (.cycleDraw, e.clock) } else c
  | _ => c

/-- R116: the qualified receiver present became FALSE. -/
def receiverLost (e : Env) (n : Fin 8) (c : Ctl) : Ctl :=
  if (c.outlet n).state.drawing then stopOutlet e n .receiverLost c else c

/-- R116: the OUTLET station is no longer FRESH. -/
def feedbackLost (e : Env) (n : Fin 8) (c : Ctl) : Ctl :=
  stopOutlet e n .feedbackLost (c.setOutlet n { c.outlet n with lastRecord := none })

/-- The active timer of an outlet is this one and has run for `limit` ms (R95). -/
def Outlet.timerDue (o : Outlet) (kind : OutletTimer) (limit : Nat) (now : Clock) : Bool :=
  match o.timer with
  | none => false
  | some (k, since) => k == kind && decide (limit ≤ elapsed now since)

/-- R117, R120: a timeout stop sets the last fault code. -/
def timeoutStop (e : Env) (n : Fin 8) (reason : EndReason) (code : FaultCode) (c : Ctl) : Ctl :=
  stopOutlet e n reason (c.setOutlet n { c.outlet n with lastFault := code })

/-! ## The other host orders (R109 to R113) -/

/-- R109: a latched value is the one named, lowered under the restriction (log 16), or the one before. It
stays as lowered if the restriction has ended by the cycle start (log 42). -/
def latch (active : Bool) (limit : Nat) (value before : Option Nat) : Option Nat :=
  match value with
  | none => before
  | some v => some (lowered active limit v)

/-- A value that the restriction lowers. -/
def isLowered (active : Bool) (limit : Nat) (value : Option Nat) : Bool :=
  match value with
  | none => false
  | some v => lowered active limit v != v

/-- The demand in force after the commit, with the set-points of the copy (R96). -/
def acceptOutlet (n : Fin 8) (tag : Octet) (c : Ctl) : Ctl :=
  c.acceptCopy (outletSlot n) (c.outlet n).state.demand tag .accepted 0

/-- R109. -/
def judgeAdjust (e : Env) (n : Fin 8) (cm : Commit) (c : Ctl) : Ctl :=
  let o := c.outlet n
  let k := e.passCfg (e.outletCfg n).pass
  let wet := (c.pass (e.outletCfg n).pass).wetActive
  if o.state.active = false then c.refuse (outletSlot n) cm.tag .wrongState
  else if adjustInRange cm.sp = false then c.refuse (outletSlot n) cm.tag .range
  else
    let clamp := clampCode (isLowered wet k.restrictedTarget (named cm.sp.a))
      (isLowered wet k.restrictedOpening (named cm.sp.c))
    (c.setOutlet n
      { o with
        latchTarget := latch wet k.restrictedTarget (named cm.sp.a) o.latchTarget
        latchCycles := latch false 0 (named cm.sp.b) o.latchCycles
        latchOpening := latch wet k.restrictedOpening (named cm.sp.c) o.latchOpening }).acceptCopy
      (outletSlot n) o.state.demand cm.tag (if clamp = 0 then .accepted else .clamped) clamp

/-- R110. -/
def judgeStopAfter (e : Env) (n : Fin 8) (tag : Octet) (c : Ctl) : Ctl :=
  let o := c.outlet n
  match o.state with
  | .opening | .flowing | .closing =>
    acceptOutlet n tag (c.setOutlet n { o with stopAfter := true })
  | .indexing => acceptOutlet n tag (endOrder e n .stopAfter c)
  | .idle | .stopping | .fault => c.refuse (outletSlot n) tag .wrongState

/-- R111. -/
def judgeClose (e : Env) (n : Fin 8) (tag : Octet) (c : Ctl) : Ctl :=
  let o := c.outlet n
  match o.state with
  | .idle | .stopping => acceptOutlet n tag c
  | .opening | .flowing => acceptOutlet n tag (stopOutlet e n .hostClose c)
  | .closing => acceptOutlet n tag (c.setOutlet n { o with stopAfter := true })
  | .indexing => acceptOutlet n tag (endOrder e n .hostClose c)
  | .fault =>
    if (e.outletQual n).d0.value = .yes then
      acceptOutlet n tag (c.setOutlet n { o with state := .idle })
    else c.refuse (outletSlot n) tag .gateNotClosed

/-- R113. -/
def judgeForceClose (e : Env) (n : Fin 8) (tag : Octet) (c : Ctl) : Ctl :=
  let o := c.outlet n
  match o.state with
  | .idle | .stopping => acceptOutlet n tag c
  | .opening | .flowing | .closing | .indexing => acceptOutlet n tag (stopOutlet e n .forced c)
  | .fault =>
    if (e.outletQual n).d0.value = .yes then
      acceptOutlet n tag (c.setOutlet n { o with state := .idle })
    else acceptOutlet n tag c

/-- R97: a DRAW as it is taken. -/
def judgeDraw (e : Env) (n : Fin 8) (cm : Commit) (c : Ctl) : Ctl :=
  match drawCheck e n cm c with
  | .pass => executeDraw e n cm c
  | .refuse r => c.refuse (outletSlot n) cm.tag r
  | .transient r => c.defer e (outletSlot n) cm r e.live.globalCfg.outletLimit

/-- R96: the judgement of a commit on an outlet slot. -/
def judgeOutlet (e : Env) (n : Fin 8) (cm : Commit) (c : Ctl) : Ctl :=
  if 5 ≤ cm.code.toNat then c.refuse (outletSlot n) cm.tag .badCode
  else if cm.code = 4 then judgeForceClose e n cm.tag c
  else if (e.outletCfg n).present = false then c.refuse (outletSlot n) cm.tag .notConfigured
  else if cm.code = 0 then judgeClose e n cm.tag c
  else if cm.code = 1 then judgeDraw e n cm c
  else if cm.code = 2 then judgeAdjust e n cm c
  else judgeStopAfter e n cm.tag c

end Sys2Proof.Machine
end

