-- ==== Sys2Proof/Machine/TipControl.lean ====
section
/-! DEFINITION. The Tip Point Controller (chapter 6): withdrawal and parking, the checks and the execution
of a PERMIT, the other tip orders, boom events, station events, and crediting. -/

namespace Sys2Proof.Machine

/-- R124: the actuator code of the demand in force, RED_HOLD 0, GREEN_HOLD 1 or RED_FREE 2. -/
def TipState.demand : TipState → Octet
  | .opened => 1
  | .breaking => 2
  | .closed | .parking | .fault => 0

/-- R125: a tip point in the fall relation with `t` is in this state. -/
def Ctl.relatedIn (e : Env) (t : Fin 12) (x : TipState) (c : Ctl) : Bool :=
  (List.finRange 12).any fun u => e.live.related t u && (c.tip u).state == x

/-! ## Changes of state on the part's own account -/

/-- R137, R138: an OPEN tip point goes to CLOSED. -/
def withdrawTip (t : Fin 12) (c : Ctl) : Ctl :=
  if (c.tip t).state = .opened then
    (c.setTip t { c.tip t with state := .closed, remaining := 0 }).ownDemand (tipSlot t) 0
  else c

/-- R133, R134: entry into PARKING, which completes at once where the boom reports at rest. -/
def enterParking (e : Env) (t : Fin 12) (x : Tip) : Tip :=
  if (e.tipQual t).d2.value = .yes then { x with state := .closed, park := .stopped }
  else { x with state := .parking, park := .running e.clock }

/-- R137, R138: a BREAKING tip point goes to PARKING. -/
def parkTip (e : Env) (t : Fin 12) (c : Ctl) : Ctl :=
  if (c.tip t).state = .breaking then
    (c.setTip t (enterParking e t (c.tip t))).ownDemand (tipSlot t) 0
  else c

/-- R134: the qualified boom parked became TRUE. -/
def boomRests (t : Fin 12) (c : Ctl) : Ctl :=
  let x := c.tip t
  match x.state with
  | .parking | .fault => c.setTip t { x with state := .closed, park := .stopped }
  | .closed | .opened | .breaking => c

/-- R136: the qualified boom parked became FALSE. -/
def boomLeaves (e : Env) (t : Fin 12) (c : Ctl) : Ctl :=
  let x := c.tip t
  let moved := c.setTip t { x with state := .parking, remaining := 0, park := .running e.clock }
  match x.state with
  | .opened => (moved.ownDemand (tipSlot t) 0).report e .boomUnparked t.val x.state.code 0 0 0
  | .closed => moved.report e .boomUnparked t.val x.state.code 0 0 0
  | .breaking | .parking | .fault => c

/-- R138: the TIP station left FRESH. -/
def tipLost (e : Env) (t : Fin 12) (c : Ctl) : Ctl :=
  parkTip e t (withdrawTip t (c.setTip t { c.tip t with known := false }))

/-- R133, R138: the TIP station became FRESH. -/
def tipRestored (e : Env) (t : Fin 12) (c : Ctl) : Ctl :=
  let x := c.tip t
  match x.park with
  | .waiting => c.setTip t { x with park := .running e.clock }
  | .stopped | .running _ => c

/-- The park timer of a tip point has run for its limit. -/
def parkDue (e : Env) (t : Fin 12) (c : Ctl) : Bool :=
  match (c.tip t).park with
  | .running since => decide ((e.tipCfg t).parkTimeout * 1000 ≤ elapsed e.clock since)
  | .stopped | .waiting => false

/-- R135: the park timer expires in PARKING. The record carries boom parked as it stands; after a change of the
TIP station (R123, log 18) that can be TRUE (log 53). -/
def parkExpires (e : Env) (t : Fin 12) (c : Ctl) : Ctl :=
  let x := c.tip t
  match x.park with
  | .running since =>
    (c.setTip t { x with state := .fault, park := .stopped }).report e .tipPointFault t.val
      (since.toNat % 65536) (since.toNat / 65536) (e.tipQual t).d2.value.code 0
  | .stopped | .waiting => c

/-! ## PERMIT -/

/-- R127, steps 4 to 14 (the three checks of R126 come first). Step 12 accepts, as the end does. In
PARKING step 13 fails whatever the signal reads (log 17). -/
def permitCheck (e : Env) (t : Fin 12) (c : Ctl) : Judgement :=
  let r := c.pass (e.tipCfg t).pass
  let x := c.tip t
  if r.state = .lockout then .refuse .lockout
  else if x.state = .fault then .refuse .tipPointFault
  else if x.state = .breaking then .refuse .boomFree
  else if r.state = .hangup then .refuse .hangup
  else if e.tipFresh t = false then .refuse .feedbackStale
  else if r.cls = .unknown then .refuse .fillUnknown
  else if r.cls = .full then .refuse .full
  else if c.relatedIn e t .breaking = true then .refuse .fallPath
  else if x.state = .opened then .pass
  else if x.state = .parking ∨ (e.tipQual t).d2.value ≠ .yes then .transient .boomNotParked
  else if (e.tipQual t).d1.value ≠ .yes then .transient .grizzlyOccupied
  else .pass

/-- R128: a PERMIT is executed. -/
def executePermit (t : Fin 12) (cm : Commit) (c : Ctl) : Ctl :=
  (c.setTip t
    { c.tip t with
      state := .opened, remaining := cm.sp.a.toNat, permitCount := cm.sp.a.toNat }).accept (tipSlot t)
    { a := cm.sp.a, b := 0, c := 0 } 1 cm.tag .accepted 0

/-- R44, R128: the deferred PERMIT of a tip point is re-judged. -/
def rejudgePermit (e : Env) (t : Fin 12) (c : Ctl) : Ctl :=
  match (c.slot (tipSlot t)).holder with
  | none => c
  | some d =>
    match permitCheck e t c with
    | .pass => executePermit t d.commit (c.clearHolder (tipSlot t))
    | .refuse r => c.refuseDeferred (tipSlot t) d.commit.tag r
    | .transient r => c.keepDeferred (tipSlot t) d r

/-- R127: a PERMIT as it is taken. -/
def judgePermit (e : Env) (t : Fin 12) (cm : Commit) (c : Ctl) : Ctl :=
  match permitCheck e t c with
  | .pass => executePermit t cm c
  | .refuse r => c.refuse (tipSlot t) cm.tag r
  | .transient r => c.defer e (tipSlot t) cm r e.live.globalCfg.tipLimit

/-! ## The other tip orders -/

/-- R126: the demand in force after the commit, with the set-points of the copy. -/
def acceptTip (t : Fin 12) (tag : Octet) (c : Ctl) : Ctl :=
  c.acceptCopy (tipSlot t) (c.tip t).state.demand tag .accepted 0

/-- R129. -/
def judgeWithdraw (t : Fin 12) (tag : Octet) (c : Ctl) : Ctl :=
  if (c.tip t).state = .opened then
    acceptTip t tag (c.setTip t { c.tip t with state := .closed, remaining := 0 })
  else acceptTip t tag c

/-- R130. -/
def judgeBoomWork (e : Env) (t : Fin 12) (tag : Octet) (c : Ctl) : Ctl :=
  let x := c.tip t
  if (c.pass (e.tipCfg t).pass).state = .lockout then c.refuse (tipSlot t) tag .lockout
  else if x.state = .opened then c.refuse (tipSlot t) tag .tipOpen
  else if x.state = .breaking then acceptTip t tag c
  else if e.tipFresh t = false then c.refuse (tipSlot t) tag .feedbackStale
  else if c.relatedIn e t .opened = true then c.refuse (tipSlot t) tag .fallPath
  else if (e.tipQual t).d0.value ≠ .no then c.refuse (tipSlot t) tag .truckPresent
  else acceptTip t tag (c.setTip t { x with state := .breaking, park := .stopped })

/-- R131. -/
def judgeBoomPark (e : Env) (t : Fin 12) (tag : Octet) (c : Ctl) : Ctl :=
  if (c.tip t).state = .breaking then
    acceptTip t tag (c.setTip t (enterParking e t (c.tip t)))
  else acceptTip t tag c

/-- R126: set-points B and C are 0, and A of a PERMIT is at most 50. -/
def tipSetPointsOk (cm : Commit) : Bool :=
  cm.sp.b == 0 && cm.sp.c == 0 && !(cm.code == 1 && decide (50 < cm.sp.a.toNat))

/-- R126: the judgement of a commit on a tip-point slot; the set-points are judged before R129 asks for nothing
(log 38). -/
def judgeTip (e : Env) (t : Fin 12) (cm : Commit) (c : Ctl) : Ctl :=
  if 4 ≤ cm.code.toNat then c.refuse (tipSlot t) cm.tag .badCode
  else if cm.code ≠ 0 ∧ (e.tipCfg t).present = false then
    c.refuse (tipSlot t) cm.tag .notConfigured
  else if tipSetPointsOk cm = false then c.refuse (tipSlot t) cm.tag .range
  else if cm.code = 0 then judgeWithdraw t cm.tag c
  else if cm.code = 1 then judgePermit e t cm c
  else if cm.code = 2 then judgeBoomWork e t cm.tag c
  else judgeBoomPark e t cm.tag c

/-! ## Crediting (R139, R140) -/

/-- R140: the permission accounting of `n` credited tips of mass `m`. -/
def permitAccounting (e : Env) (t : Fin 12) (n m : Nat) (c : Ctl) : Ctl :=
  let x := c.tip t
  if x.state = .opened then
    if x.remaining = 0 then c
    else if n < x.remaining then c.setTip t { x with remaining := x.remaining - n }
    else
      ((c.setTip t { x with state := .closed, remaining := 0 }).ownDemand (tipSlot t) 0).report e
        .permitUsed t.val x.permitCount (n - x.remaining) 0 0
  else c.report e .tipWithoutPermit t.val x.state.code n m 0

/-- R139: `n` tips are credited, the last with the mass reported, the others at the nominal mass. -/
def creditTips (e : Env) (t : Fin 12) (n mass : Nat) (c : Ctl) : Ctl × News :=
  let p := (e.tipCfg t).pass
  let extra := (n - 1) * (e.passCfg p).nominalTip
  let total := min 65535 (mass + extra)
  let c1 :=
    if n = 1 then c
    else
      (c.setTip t
        { c.tip t with substitutes := (c.tip t).substitutes + BitVec.ofNat 16 (n - 1) }).report e
        .tipSubstituted t.val (n - 1) (min 65535 extra) 0 0
  let c2 := permitAccounting e t n total c1
  let y := credit e p total c2
  (y.1, y.2.join (News.touch ((c.tip t).state != (c2.tip t).state)))

/-- R139: an accepted record with tip counter `counter` and last tip mass `mass`. -/
def tipRecord (e : Env) (t : Fin 12) (counter : Octet) (mass : Nat) (c : Ctl) : Ctl × News :=
  let x := c.tip t
  let c1 := c.setTip t { x with lastCounter := counter, known := true }
  let n := (counter - x.lastCounter).toNat
  if x.known = false ∨ n = 0 then (c1, News.quiet)
  else if (e.tipCfg t).maxJump < n then
    (c1.report e .counterResync t.val x.lastCounter.toNat counter.toNat 0 0, News.quiet)
  else creditTips e t n mass c1

end Sys2Proof.Machine
end

