-- ==== Sys2Proof/Machine/PassEvents.lean ====
section
/-! DEFINITION. What one event at a pass, an outlet or a tip point brings about at the others of the same
pass: pass events (R28, R115, R137), re-judgements (R44, R100, R128), cycle starts that waited (R107),
and the judgement of commits on every slot kind (R22 to R27, R41). -/

namespace Sys2Proof.Machine

/-! ## Re-judgement -/

/-- An outlet whose slot holds a deferred commit or whose cycle start waits. -/
def Ctl.waits (c : Ctl) (n : Fin 8) : Bool :=
  (c.slot (outletSlot n)).holder.isSome || (c.outlet n).startPending

/-- An outlet goes before the first one whose key is not lower. -/
def insertByKey (key : Fin 8 → Nat) (n : Fin 8) : List (Fin 8) → List (Fin 8)
  | [] => [n]
  | m :: rest => if key n ≤ key m then n :: m :: rest else m :: insertByKey key n rest

def sortByKey (key : Fin 8 → Nat) : List (Fin 8) → List (Fin 8)
  | [] => []
  | n :: rest => insertByKey key n (sortByKey key rest)

/-- The waiting cycle start or the deferred DRAW of one outlet. -/
def visitOutlet (e : Env) (c : Ctl) (n : Fin 8) : Ctl :=
  if (c.outlet n).startPending then cycleStart e n c else rejudgeDraw e n c

/-- The outlets that wait, in the order they are taken: two or more of them draw a fresh free order
(log 11). -/
def takingOrder (c : Ctl) (ns : List (Fin 8)) : List (Fin 8) :=
  if 2 ≤ ns.length then sortByKey (fun n => Config.takeOrder c.freeCount n.val) ns else ns

/-- The count of fresh orders drawn goes on where one was drawn. -/
def drawOrder (c : Ctl) (ns : List (Fin 8)) : Ctl :=
  if 2 ≤ ns.length then { c with freeCount := c.freeCount + 1 } else c

/-- R44, R100, R107: every waiting outlet of the pass is taken, and taken again, since what one of them
did is an input event for those taken before it. -/
def settleOutlets (e : Env) (p : Fin 4) (c : Ctl) : Ctl :=
  let ns := (e.live.outletsOf p).filter c.waits
  let order := takingOrder c ns
  order.foldl (visitOutlet e) (order.foldl (visitOutlet e) (drawOrder c ns))

/-- R44, R128: every deferred PERMIT of the pass is re-judged. No outcome reads another one's. -/
def settleTips (e : Env) (p : Fin 4) (c : Ctl) : Ctl :=
  (e.live.tipsOf p).foldl (fun x t => rejudgePermit e t x) c

def settle (e : Env) (p : Fin 4) (c : Ctl) : Ctl := settleTips e p (settleOutlets e p c)

/-! ## Pass events at the members (section 1.9, R115, R137) -/

def closeTips (e : Env) (p : Fin 4) (c : Ctl) : Ctl :=
  (e.live.tipsOf p).foldl (fun x t => withdrawTip t x) c

def parkTips (e : Env) (p : Fin 4) (c : Ctl) : Ctl :=
  (e.live.tipsOf p).foldl (fun x t => parkTip e t x) c

def stopOutlets (e : Env) (p : Fin 4) (reason : EndReason) (c : Ctl) : Ctl :=
  (e.live.outletsOf p).foldl (fun x n => stopOutlet e n reason x) c

/-- R9, R115: outlets in OPENING or FLOWING without the grant. -/
def stopForCushion (e : Env) (p : Fin 4) (c : Ctl) : Ctl :=
  (e.live.outletsOf p).foldl
    (fun x n =>
      if (x.outlet n).state.drawing && !(x.outlet n).grantHeld then stopOutlet e n .cushion x else x)
    c

/-- The pass events of one change of a pass record reach the members. Where one debit begins the
below-cushion condition (R9, R115) and brings the pass into HANGUP (R14), the outlets without the grant stop
with CUSHION, the others with HANGUP, and the deferred DRAWs are re-judged in HANGUP (log 41). -/
def deliver (e : Env) (p : Fin 4) (news : News) (c : Ctl) : Ctl :=
  let c1 := if news.full then closeTips e p c else c
  let c2 := if news.cushion then stopForCushion e p c1 else c1
  let c3 := if news.hangup then closeTips e p (stopOutlets e p .hangup c2) else c2
  let c4 := if news.lockout then parkTips e p (closeTips e p (stopOutlets e p .lockout c3)) else c3
  if news.touched then settle e p c4 else c4

/-- A change of a pass record with its pass events. -/
def withNews (e : Env) (p : Fin 4) (f : Ctl → Ctl × News) (c : Ctl) : Ctl :=
  deliver e p (f c).2 (f c).1

/-! ## Value events at the consumers (R77) -/

/-- The signals of a station that have value events. -/
inductive Signal where
  | d0 | d1 | d2 | flow
  deriving DecidableEq, Repr

/-- R100, R102, R116: a value event at an outlet; `d0` gate closed limit, `d1` gate open limit, `d2`
receiver present. -/
def outletValue (e : Env) (n : Fin 8) (sig : Signal) (v : Tri) (c : Ctl) : Ctl :=
  match sig with
  | .d0 => settleOutlets e (e.outletCfg n).pass c
  | .d1 => c
  | .d2 => settleOutlets e (e.outletCfg n).pass (if v = .no then receiverLost e n c else c)
  | .flow => if v = .yes then flowBegins e n c else c

/-- R128, R134, R136: a value event at a tip point; `d0` truck present, `d1` grizzly clear, `d2` boom
parked. -/
def tipValue (e : Env) (t : Fin 12) (sig : Signal) (v : Tri) (c : Ctl) : Ctl :=
  match sig with
  | .d0 | .flow => c
  | .d1 => settleTips e (e.tipCfg t).pass c
  | .d2 =>
    settleTips e (e.tipCfg t).pass
      (match v with
       | .yes => boomRests t c
       | .no => boomLeaves e t c
       | .unknown => c)

/-- R100, R116: a freshness event at an outlet. -/
def outletFreshness (e : Env) (n : Fin 8) (new : Freshness) (c : Ctl) : Ctl :=
  settleOutlets e (e.outletCfg n).pass (if new = .fresh then c else feedbackLost e n c)

/-- R128, R138: a freshness event at a tip point. -/
def tipFreshness (e : Env) (t : Fin 12) (old new : Freshness) (c : Ctl) : Ctl :=
  settleTips e (e.tipCfg t).pass
    (if new = .fresh then tipRestored e t c else if old = .fresh then tipLost e t c else c)

/-! ## Timer events of outlets -/

/-- R117, R100: a timeout stop, and the outlets of the pass that waited on this one. -/
def timeoutEvent (e : Env) (n : Fin 8) (reason : EndReason) (code : FaultCode) (c : Ctl) : Ctl :=
  settleOutlets e (e.outletCfg n).pass (timeoutStop e n reason code c)

/-- R117: the FLOW_START expiry also hands the chute no-flow report over. -/
def noFlowTimeout (e : Env) (n : Fin 8) (c : Ctl) : Ctl :=
  let c1 := timeoutStop e n .noFlow .noFlow c
  settleOutlets e (e.outletCfg n).pass
    (c1.setOutlet n { c1.outlet n with
        noFlowReports := (c1.outlet n).noFlowReports ++ [(e.outletCfg n).pass] })

/-- R13: the oldest report of an outlet is taken by the pass it was handed to. -/
def takeNoFlow (e : Env) (n : Fin 8) (c : Ctl) : Ctl :=
  match (c.outlet n).noFlowReports with
  | [] => c
  | p :: rest =>
    let c1 := c.setOutlet n { c.outlet n with noFlowReports := rest }
    if (c.pass p).state = .running then withNews e p (enterHangup e p .chuteNoFlow) c1 else c1

/-! ## Pass commits (R22 to R27) -/

/-- R22: an accepted pass commit. -/
def acceptPass (p : Fin 4) (cm : Commit) (c : Ctl) : Ctl :=
  c.accept (passSlot p) { a := cm.sp.a, b := 0, c := 0 }
    (BitVec.ofNat 8 (c.pass p).state.code) cm.tag .accepted 0

/-- R23. -/
def judgeLockout (e : Env) (p : Fin 4) (cm : Commit) (c : Ctl) : Ctl :=
  if (c.pass p).state = .lockout then acceptPass p cm c
  else acceptPass p cm (withNews e p (enterLockout e p) c)

/-- R24. -/
def judgeRun (e : Env) (p : Fin 4) (cm : Commit) (c : Ctl) : Ctl :=
  match (c.pass p).state with
  | .lockout => acceptPass p cm (withNews e p (enterRunning e p) c)
  | .running => acceptPass p cm c
  | .hangup => c.refuse (passSlot p) cm.tag .wrongState

/-- R25. -/
def judgeReleaseHangup (e : Env) (p : Fin 4) (cm : Commit) (c : Ctl) : Ctl :=
  match (c.pass p).state with
  | .hangup => acceptPass p cm (withNews e p (enterRunning e p) c)
  | .lockout | .running => c.refuse (passSlot p) cm.tag .wrongState

/-- R26: DECLARE_WET (`wet` true) and CLEAR_WET. -/
def judgeWet (e : Env) (p : Fin 4) (wet : Bool) (cm : Commit) (c : Ctl) : Ctl :=
  if (c.pass p).hostWet = wet then acceptPass p cm c
  else
    acceptPass p cm
      (withNews e p (fun x => wetTests e p (x.setPass p { x.pass p with hostWet := wet })) c)

/-- R20, R26. -/
def judgeEmptyOut (e : Env) (p : Fin 4) (cm : Commit) (c : Ctl) : Ctl :=
  if (c.pass p).state = .lockout then c.refuse (passSlot p) cm.tag .lockout
  else if (c.pass p).grant then acceptPass p cm c
  else
    acceptPass p cm
      (withNews e p (fun x => (x.setPass p { x.pass p with grant := true }, News.touch true)) c)

/-- R27. -/
def judgeRebase (e : Env) (p : Fin 4) (cm : Commit) (c : Ctl) : Ctl :=
  if (c.pass p).levelValid then
    acceptPass p cm
      (withNews e p (fun x => recompute e p (settleInventory e p 2 (x.pass p).levelFill x)) c)
  else c.refuse (passSlot p) cm.tag .levelInvalid

/-- R27. -/
def judgeSetInventory (e : Env) (p : Fin 4) (cm : Commit) (c : Ctl) : Ctl :=
  if (e.passCfg p).capacity < cm.sp.a.toNat then c.refuse (passSlot p) cm.tag .range
  else
    acceptPass p cm
      (withNews e p (fun x => recompute e p (settleInventory e p 3 cm.sp.a.toNat x)) c)

/-- R22: the judgement of a commit on a pass slot. -/
def judgePass (e : Env) (p : Fin 4) (cm : Commit) (c : Ctl) : Ctl :=
  if 8 ≤ cm.code.toNat then c.refuse (passSlot p) cm.tag .badCode
  else if (e.passCfg p).present = false then c.refuse (passSlot p) cm.tag .notConfigured
  else if cm.sp.b ≠ 0 ∨ cm.sp.c ≠ 0 then c.refuse (passSlot p) cm.tag .range
  else if cm.code = 0 then judgeLockout e p cm c
  else if cm.code = 1 then judgeRun e p cm c
  else if cm.code = 2 then judgeReleaseHangup e p cm c
  else if cm.code = 3 then judgeWet e p true cm c
  else if cm.code = 4 then judgeWet e p false cm c
  else if cm.code = 5 then judgeEmptyOut e p cm c
  else if cm.code = 6 then judgeRebase e p cm c
  else judgeSetInventory e p cm c

/-! ## A commit at its owner (R41) -/

/-- An outlet's commit, and the outlets of its pass where it moved a state or the grant they read
(R100). -/
def commitOutlet (e : Env) (n : Fin 8) (cm : Commit) (c : Ctl) : Ctl :=
  let p := (e.outletCfg n).pass
  let c1 := judgeOutlet e n cm c
  if (c.outlet n).state.drawing = (c1.outlet n).state.drawing ∧ (c.pass p).grant = (c1.pass p).grant
  then c1
  else settleOutlets e p c1

/-- A tip point's commit, and the tip points of its pass where it moved a state they read (R125). -/
def commitTip (e : Env) (t : Fin 12) (cm : Commit) (c : Ctl) : Ctl :=
  let c1 := judgeTip e t cm c
  if (c.tip t).state = (c1.tip t).state then c1 else settleTips e (e.tipCfg t).pass c1

/-- R41, step 4. -/
def judgeCommit (e : Env) (k : Fin 24) (cm : Commit) (c : Ctl) : Ctl :=
  match ownerOf k with
  | .outlet n => commitOutlet e n cm c
  | .tip t => commitTip e t cm c
  | .pass p => judgePass e p cm c

end Sys2Proof.Machine
end

