-- ==== Sys2Proof/Machine/Qualify.lean ====
section
/-! DEFINITION. The Signal Qualifiers (chapter 4): the agreement filters, the flow qualifier, the level
filter and the moisture qualifier, and what they hand to the consumers of a station. -/

namespace Sys2Proof.Machine

/-! ## One qualifier, one sample -/

/-- A discrete reading as a qualified value. -/
def Tri.ofBool (b : Bool) : Tri := if b then .yes else .no

/-- R79. -/
def Filter.sample (depth : Nat) (raw : Bool) (f : Filter) : Filter :=
  let run := if f.candidate = some raw then min depth (f.run + 1) else 1
  { value := if run = depth then Tri.ofBool raw else f.value, candidate := some raw, run := run }

/-- R81: the move from NO_FLOW. -/
def flowFromRest (k : StationCfg) (level : Nat) (arrival : Clock) : FlowQualifier :=
  if level < k.onThreshold then { state := .noFlow, rise := none, dropout := none }
  else if k.minOn = 0 then { state := .flow, rise := none, dropout := none }
  else { state := .rising, rise := some arrival, dropout := none }

/-- R81. -/
def FlowQualifier.sample (k : StationCfg) (level : Nat) (arrival : Clock) (f : FlowQualifier) :
    FlowQualifier :=
  match f.state with
  | .unknown | .noFlow => flowFromRest k level arrival
  | .rising =>
    if level < k.onThreshold then { state := .noFlow, rise := none, dropout := none }
    else if elapsed arrival (f.rise.getD arrival) < k.minOn then f
    else { state := .flow, rise := none, dropout := none }
  | .flow =>
    if k.offThreshold ≤ level then f
    else if k.dropout = 0 then { state := .noFlow, rise := none, dropout := none }
    else { state := .dropping, rise := none, dropout := some arrival }
  | .dropping =>
    if k.offThreshold ≤ level then { state := .flow, rise := none, dropout := none } else f

/-- R86: the level fill of a filtered distance, for the pass that names the station. -/
def levelFillOf (pass : Option PassCfg) (distance : Option Nat) : Nat :=
  match pass, distance with
  | some k, some f =>
    if k.emptyDistance ≤ f / 16 then 0
    else min k.capacity ((k.emptyDistance - f / 16) * k.dtPerCm)
  | _, _ => 0

/-- R85: the filtered distance after an update with the distance `s`. -/
def smooth (shift s : Nat) (f : Option Nat) : Nat :=
  match f with
  | none => 16 * s
  | some x => ((x : Int) + Int.tdiv (16 * (s : Int) - (x : Int)) ((2 : Int) ^ shift)).toNat

/-- R85, R86: an update. -/
def LevelFilter.update (k : StationCfg) (pass : Option PassCfg) (s : Nat) (f : LevelFilter) :
    LevelFilter :=
  let distance := smooth k.shift s f.distance
  let updates := min 64 (f.updates + 1)
  { distance := some distance, good := 0, updates := updates, poor := 0
    valid := decide (k.validity ≤ updates), fill := levelFillOf pass (some distance) }

/-- R84: a sample; the flag says whether a report is made (R87). -/
def LevelFilter.sample (k : StationCfg) (pass : Option PassCfg) (s q : Nat) (f : LevelFilter) :
    LevelFilter × Bool :=
  if q < k.qualityFloor then
    if k.poorLimit ≤ f.poor + 1 then (LevelFilter.reset, f.distance.isSome)
    else ({ f with poor := f.poor + 1 }, false)
  else if f.distance = none ∨ k.interval ≤ f.good + 1 then (f.update k pass s, true)
  else ({ f with good := f.good + 1, poor := 0 }, false)

/-- R88: the runs after a reading. -/
def Moisture.count (k : StationCfg) (reading : Nat) (m : Moisture) : Moisture :=
  if k.wetThreshold ≤ reading then
    { m with wetRun := min k.moistureCount (m.wetRun + 1), dryRun := 0 }
  else if reading < k.dryThreshold then
    { m with wetRun := 0, dryRun := min k.moistureCount (m.dryRun + 1) }
  else { m with wetRun := 0, dryRun := 0 }

/-- R88. -/
def Moisture.sample (k : StationCfg) (reading : Nat) (m : Moisture) : Moisture :=
  let x := m.count k reading
  if x.wetRun = k.moistureCount then { x with state := .wet }
  else if x.dryRun = k.moistureCount then { x with state := .dry }
  else x

/-! ## Handing on to the consumers -/

/-- R77: a value event of a station reaches its consumer. -/
def State.valueEvent (i : Fin 32) (sig : Signal) (v : Tri) (s : State) : State :=
  match (s.live.stationCfg i).kind with
  | some .outlet =>
    match s.live.outletOfStation i with
    | none => s
    | some n => s.onCtl fun e c => outletValue e n sig v c
  | some .tip =>
    match s.live.tipOfStation i with
    | none => s
    | some t => s.onCtl fun e c => tipValue e t sig v c
  | _ => s

/-- R87: a report of the level filter as it stands. -/
def State.reportLevel (i : Fin 32) (s : State) : State :=
  match s.live.passOfStation i with
  | none => s
  | some p =>
    s.onCtl fun e c =>
      withNews e p (levelReport e p (s.qual i).level.fill (s.qual i).level.valid) c

/-- R88: a report of the moisture qualifier as it stands. -/
def State.reportMoisture (i : Fin 32) (s : State) : State :=
  match s.live.passOfStation i with
  | none => s
  | some p => s.onCtl fun e c => withNews e p (sensorReport e p (s.qual i).moisture.state) c

/-- The pass entry that a LEVEL station's fill is worked from (R86). -/
def Live.levelPass (l : Live) (i : Fin 32) : Option PassCfg :=
  (l.passOfStation i).map l.passCfg

/-- The filter of a discrete signal. -/
def Qualifiers.filter (q : Qualifiers) : Signal → Filter
  | .d0 => q.d0
  | .d1 => q.d1
  | .d2 | .flow => q.d2

def Qualifiers.setFilter (q : Qualifiers) (sig : Signal) (f : Filter) : Qualifiers :=
  match sig with
  | .d0 => { q with d0 := f }
  | .d1 => { q with d1 := f }
  | .d2 | .flow => { q with d2 := f }

/-- R79: a filter takes a sample, and a change of its value is an event. -/
def State.filterSample (i : Fin 32) (sig : Signal) (raw : Bool) (s : State) : State :=
  let f := (s.qual i).filter sig
  let f' := f.sample (s.live.stationCfg i).depth raw
  let s1 := s.setQual i ((s.qual i).setFilter sig f')
  if f'.value = f.value then s1 else s1.valueEvent i sig f'.value

/-- R78, step 1: the three discrete filters, on bits 0, 1 and 2 of the flag word (R166). -/
def State.discreteSample (i : Fin 32) (flags : Word) (s : State) : State :=
  ((s.filterSample i .d0 (flags.getLsbD 0)).filterSample i .d1 (flags.getLsbD 1)).filterSample i .d2
    (flags.getLsbD 2)

/-- R78, step 2. -/
def State.flowSample (i : Fin 32) (level : Nat) (s : State) : State :=
  let f := (s.qual i).flow
  let f' := f.sample (s.live.stationCfg i) level s.clock
  let s1 := s.setQual i { s.qual i with flow := f' }
  if f'.state.qualified = f.state.qualified then s1
  else s1.valueEvent i .flow f'.state.qualified

/-- R78, step 3: distance and echo quality. -/
def State.levelSample (i : Fin 32) (distance quality : Nat) (s : State) : State :=
  let y := (s.qual i).level.sample (s.live.stationCfg i) (s.live.levelPass i) distance quality
  let s1 := s.setQual i { s.qual i with level := y.1 }
  if y.2 then s1.reportLevel i else s1

/-- R78, step 3: the moisture reading. -/
def State.moistureSample (i : Fin 32) (reading : Nat) (s : State) : State :=
  let m := (s.qual i).moisture
  let m' := m.sample (s.live.stationCfg i) reading
  let s1 := s.setQual i { s.qual i with moisture := m' }
  if m'.state = m.state then s1 else s1.reportMoisture i

/-- R78, step 4: an accepted record reaches its outlet. -/
def State.outletTakes (i : Fin 32) (pl : Payload) (s : State) : State :=
  match s.live.outletOfStation i with
  | none => s
  | some n =>
    s.onCtl fun e c => withNews e (e.outletCfg n).pass (outletRecord e n (loadRecord pl)) c

/-- R78, step 4: an accepted record reaches its tip point. -/
def State.tipTakes (i : Fin 32) (pl : Payload) (s : State) : State :=
  match s.live.tipOfStation i with
  | none => s
  | some t =>
    s.onCtl fun e c =>
      withNews e (e.tipCfg t).pass (tipRecord e t (lowOctet pl[1]) pl[2].toNat) c

/-- R74, R78, R166: the delivery of an accepted record. -/
def State.deliverRecord (i : Fin 32) (pl : Payload) (s : State) : State :=
  match (s.live.stationCfg i).kind with
  | some .outlet =>
    ((s.discreteSample i pl[1]).flowSample i (lowOctet pl[2]).toNat).outletTakes i pl
  | some .tip => (s.discreteSample i pl[0]).tipTakes i pl
  | some .level =>
    (s.levelSample i pl[0].toNat (lowOctet pl[1]).toNat).moistureSample i (lowOctet pl[2]).toNat
  | none => s

/-! ## Clearing (R89, R90) -/

/-- The reports that a clearing of a LEVEL station's qualifiers makes; `q` is what they held. -/
def State.reportCleared (i : Fin 32) (q : Qualifiers) (s : State) : State :=
  let s1 := if q.level.distance.isSome then s.reportLevel i else s
  if q.moisture.state = .unknown then s1 else s1.reportMoisture i

/-- R89: the qualifiers give up their state on a loss of freshness. -/
def State.clearQualifiers (i : Fin 32) (s : State) : State :=
  (s.setQual i Qualifiers.reset).reportCleared i (s.qual i)

/-- A value event UNKNOWN for a value that was known (R90). -/
def State.forgetValue (i : Fin 32) (sig : Signal) (before : Tri) (s : State) : State :=
  if before = .unknown then s else s.valueEvent i sig .unknown

/-- R90: a change of a qualifier parameter. -/
def State.resetQualifiers (i : Fin 32) (s : State) : State :=
  let q := s.qual i
  let s1 := s.setQual i Qualifiers.reset
  ((((s1.forgetValue i .d0 q.d0.value).forgetValue i .d1 q.d1.value).forgetValue i .d2
    q.d2.value).forgetValue i .flow q.flow.state.qualified).reportCleared i q

/-! ## The dropout timer (R82) -/

/-- The dropout timer of a station has run for its tolerance. -/
def State.dropoutDue (i : Fin 32) (s : State) : Bool :=
  match (s.qual i).flow.dropout with
  | none => false
  | some since => decide ((s.live.stationCfg i).dropout ≤ elapsed s.clock since)

/-- R82: on expiry the flow qualifier goes to NO_FLOW. -/
def State.dropoutExpires (i : Fin 32) (s : State) : State :=
  (s.setQual i
    { s.qual i with flow := { state := .noFlow, rise := none, dropout := none } }).valueEvent i .flow
    .no

end Sys2Proof.Machine
end

