-- ==== Sys2Proof/Machine/Tracker.lean ====
section
/-! DEFINITION. The Sequence Tracker (chapter 3): the check machine, the order machine, the counters, the
judgement of a record, freshness events and the late timer. -/

namespace Sys2Proof.Machine

/-! ## Counters (R75) -/

/-- The ten event counters, in the order of section 9.6. -/
inductive Counter where
  | corrected | uncorrectable | duplicates | sequenceErrors | lost | withheld | misinserted | late
  | torn | misaddressed
  deriving DecidableEq, Repr

def Counter.index : Counter → Fin 10
  | .corrected => 0
  | .uncorrectable => 1
  | .duplicates => 2
  | .sequenceErrors => 3
  | .lost => 4
  | .withheld => 5
  | .misinserted => 6
  | .late => 7
  | .torn => 8
  | .misaddressed => 9

/-- R75: an increase of an event counter; bit 1 + index is its rollover flag. -/
def Station.bump (k : Counter) (n : Nat) (x : Station) : Station :=
  let sum := x.events[k.index].toNat + n
  { x with
    events := x.events.set k.index.val (BitVec.ofNat 8 sum) k.index.isLt
    rollover :=
      if 255 < sum then x.rollover ||| ((1 : BitVec 11) <<< (k.index.val + 1)) else x.rollover }

/-- R75: the accepted counter; bit 0 is its rollover flag. -/
def Station.countAccepted (x : Station) : Station :=
  { x with
    accepted := x.accepted + 1
    rollover := if x.accepted = 65535 then x.rollover ||| 1 else x.rollover }

/-- R76. -/
def Station.clearCounters (x : Station) : Station :=
  { x with accepted := 0, events := Vector.replicate 10 0, rollover := 0 }

/-! ## The two machines -/

/-- R62, R63: the check machine; the answer is the valid octet, or none. -/
def Station.checkOctet (o : Octet) (x : Station) : Station × Option Octet :=
  match classifyOctet o with
  | .noError => ({ x with check := .correcting }, some o)
  | .single bit =>
    match x.check with
    | .correcting =>
      ({ x.bump .corrected 1 with check := .detecting }, some (invertBit o bit))
    | .detecting => (x.bump .uncorrectable 1, none)
  | .double => ({ x.bump .uncorrectable 1 with check := .detecting }, none)

/-- An accept (section 3.5, R69). -/
def Station.accept (h : Bool) (c : BitVec 3) (arrival : Clock) (x : Station) : Station :=
  { x.countAccepted with
    order := .locked, last := c, held := none, late := some arrival, healthy := h }

/-- A discard that takes the order state to HUNT (R64, R66, R67). -/
def Station.toHunt (x : Station) : Station := { x with order := .hunt, held := none, late := none }

/-- A discard that starts a trial from `c` (R64, R66, R67). -/
def Station.toTrial (c : BitVec 3) (x : Station) : Station :=
  { x with order := .trial, last := c, held := none, late := none }

/-- R66: the valid inputs in SKIP. -/
def Station.skipValid (h : Bool) (c : BitVec 3) (arrival : Clock) (x : Station) : Station × Bool :=
  let held := x.held.getD 0
  if c - held = 1 then
    (((x.bump .lost ((held - x.last).toNat - 1)).bump .withheld 1).accept h c arrival, true)
  else if c - x.last = 1 then ((x.bump .misinserted 1).accept h c arrival, true)
  else (x.toTrial c, false)

/-- R64 to R68: the order machine on a valid octet; the flag says accept. -/
def Station.orderValid (h : Bool) (c : BitVec 3) (arrival : Clock) (x : Station) : Station × Bool :=
  let d := c - x.last
  match x.order with
  | .hunt => (x.toTrial c, false)
  | .trial => if d = 1 then (x.accept h c arrival, true) else (x.toTrial c, false)
  | .locked =>
    if d = 1 then (x.accept h c arrival, true)
    else if d = 0 then (x.bump .duplicates 1, false)
    else ({ x.bump .sequenceErrors 1 with order := .skip, held := some c }, false)
  | .skip => x.skipValid h c arrival
  | .doubt =>
    if d = 1 then ((x.bump .misinserted 1).accept h c arrival, true)
    else if d = 2 then ((x.bump .lost 1).accept h c arrival, true)
    else (x.toTrial c, false)
  | .late =>
    if d = 0 then (x.bump .duplicates 1, false)
    else ((x.bump .lost (d.toNat - 1)).accept h c arrival, true)

/-- R64 to R68: the order machine on an invalid octet. -/
def Station.orderInvalid (x : Station) : Station :=
  match x.order with
  | .hunt | .trial | .skip | .doubt => x.toHunt
  | .locked => { x.bump .sequenceErrors 1 with order := .doubt }
  | .late => x

/-- R58, step 3. -/
def Station.orderOctet (o : Option Octet) (arrival : Clock) (x : Station) : Station × Bool :=
  match o with
  | none => (x.orderInvalid, false)
  | some v => x.orderValid (octetHealthy v) (octetCount v) arrival

/-! ## Freshness events (R73) -/

/-- Section 9.4: the causes of a freshness event. -/
inductive FreshnessCause where
  | accept | discard | late | config
  deriving DecidableEq, Repr

def FreshnessCause.code : FreshnessCause → Nat
  | .accept => 1
  | .discard => 2
  | .late => 3
  | .config => 4

/-- R73: the consumer of an OUTLET or TIP station is handed the new freshness. -/
def State.tellConsumer (i : Fin 32) (old new : Freshness) (s : State) : State :=
  match (s.live.stationCfg i).kind with
  | some .outlet =>
    match s.live.outletOfStation i with
    | none => s
    | some n => s.onCtl fun e c => outletFreshness e n new c
  | some .tip =>
    match s.live.tipOfStation i with
    | none => s
    | some t => s.onCtl fun e c => tipFreshness e t old new c
  | _ => s

/-- R73, R89: a change of freshness is journaled and handed to the qualifiers, then to the consumer. -/
def State.freshnessEvent (i : Fin 32) (old : Freshness) (cause : FreshnessCause) (s : State) :
    State :=
  let x := s.station i
  if x.freshness = old then s
  else
    let s1 := s.onCtl fun e c =>
      c.report e .freshness i.val old.code x.freshness.code x.order.code cause.code
    let s2 := if old = .fresh then s1.clearQualifiers i else s1
    s2.tellConsumer i old x.freshness

/-! ## The judgement of a record (R58, R59, R38) -/

/-- R38: the release of a slot, a group of 12 entries, which also clears the status latch. -/
def State.release (k : Fin 32) (pl : Payload) (closing status : Word) (s : State) : State :=
  (s.placeUrgent (entriesAt (s.stationBase k) (pl.toList ++ [closing, status]))).setStationSlot k
    { s.stationSlot k with latch := none }

/-- R58, step 4: the answer to the Slot Store. -/
def State.answerRecord (i k : Fin 32) (pl : Payload) (closing : Word) (accepted : Bool) (old : Word)
    (s : State) : State :=
  let status := (s.station i).status
  if accepted then s.release k pl closing status
  else if status = old then s
  else s.putLatch k status

/-- R58: the entry `i` judges a complete record of slot `k`. -/
def State.judgeRecord (i k : Fin 32) (pl : Payload) (closing : Word) (s : State) : State :=
  let x := s.station i
  if (highOctet closing).toNat = i.val then
    let y := x.checkOctet (lowOctet closing)
    let z := y.1.orderOctet y.2 s.clock
    let word := joinWord (highOctet closing) (y.2.getD (lowOctet closing))
    let s1 := (s.setStation i z.1).answerRecord i k pl word z.2 x.status
    let s2 := s1.freshnessEvent i x.freshness (if z.2 then .accept else .discard)
    if z.2 && z.1.freshness == .fresh then s2.deliverRecord i pl else s2
  else s.setStation i (x.bump .misaddressed 1)

/-! ## The late timer (R69, R70) -/

/-- The late timer of a station has run for its limit. -/
def State.lateDue (i : Fin 32) (s : State) : Bool :=
  match (s.station i).late with
  | none => false
  | some since => decide ((s.live.stationCfg i).lateLimit ≤ elapsed s.clock since)

/-- The station slot that a station's entry names. -/
def Live.slotOf (l : Live) (i : Fin 32) : Fin 32 := Fin.ofNat 32 (l.stationCfg i).slot

/-- R70. -/
def Station.fallLate (x : Station) : Station :=
  { x.bump .late 1 with order := .late, held := none, late := none }

/-- R70: the late timer expires. -/
def State.lateExpires (i : Fin 32) (s : State) : State :=
  let x := s.station i
  let s1 := s.setStation i x.fallLate
  (s1.putLatch (s.live.slotOf i) x.fallLate.status).freshnessEvent i x.freshness .late

end Sys2Proof.Machine
end

