-- ==== Sys2Proof/Machine/Slots.lean ====
section
/-! DEFINITION. The Slot Store (chapter 2): staging, the taking of a closing word and of a demand word,
supersession, and the write that waited for urgent room. -/

namespace Sys2Proof.Machine

/-! ## Staging (R36, R40) -/

/-- R36. -/
def State.stagePayload (k : Fin 32) (w : Fin 10) (v : Word) (s : State) : State :=
  s.setStationSlot k
    { s.stationSlot k with staging := (s.stationSlot k).staging.set w.val (some v) w.isLt }

/-- R36, R37: the buffer is emptied. -/
def State.emptyStaging (k : Fin 32) (s : State) : State :=
  s.setStationSlot k { s.stationSlot k with staging := Vector.replicate 10 none }

/-- R40: word 0 is A, 1 is B, 2 is C. -/
def Staged.put (w : Fin 3) (v : Word) (x : Staged) : Staged :=
  if w = 0 then { x with a := some v } else if w = 1 then { x with b := some v }
  else { x with c := some v }

/-- R40. -/
def State.stageSetPoint (k : Fin 24) (w : Fin 3) (v : Word) (s : State) : State :=
  { s with ctl := s.ctl.updSlot k fun x => { x with staged := x.staged.put w v } }

/-! ## A closing word (R37) -/

/-- All ten marks are set. -/
def StationSlot.complete (x : StationSlot) : Bool := x.staging.toList.all Option.isSome

/-- The ten payload values. -/
def StationSlot.payload (x : StationSlot) : Payload := x.staging.map fun v => v.getD 0

/-- R37: a closing word is taken, and the record dealt with. -/
def State.takeClosing (k : Fin 32) (closing : Word) (s : State) : State :=
  match s.live.stationOfSlot k with
  | none => s.emptyStaging k
  | some i =>
    if (s.stationSlot k).complete then
      (s.emptyStaging k).judgeRecord i k (s.stationSlot k).payload closing
    else (s.emptyStaging k).setStation i ((s.station i).bump .torn 1)

/-! ## A demand word (R41, R46) -/

/-- R41, step 1: the commit record of a demand word. -/
def CommandSlot.formCommit (demand : Word) (x : CommandSlot) : Commit where
  code := lowOctet demand
  tag := highOctet demand
  sp :=
    { a := x.staged.a.getD x.copy.a
      b := x.staged.b.getD x.copy.b
      c := x.staged.c.getD x.copy.c }

/-- R41, step 2. -/
def State.clearStaged (k : Fin 24) (s : State) : State :=
  { s with ctl := s.ctl.updSlot k fun x => { x with staged := Staged.empty } }

/-- R41, step 3, and R46: a deferred commit is superseded, as a group of its own. -/
def State.supersede (k : Fin 24) (s : State) : State :=
  match (s.ctl.slot k).holder with
  | none => s
  | some d =>
    ({ s with
       ctl := s.ctl.updSlot k fun x =>
         { x.putVerdict .superseded d.commit.tag 0 with holder := none } }).placeSlot k

/-- R41: a demand word is taken: commit record, staging cleared, supersession, hand-over, drain. -/
def State.takeCommit (k : Fin 24) (demand : Word) (s : State) : State :=
  let cm := (s.ctl.slot k).formCommit demand
  (((s.clearStaged k).supersede k).onCtl fun e c => judgeCommit e k cm c).placeSlot k

/-! ## Writes that wait for urgent room (R29, R37, R41) -/

/-- The transaction is complete. -/
def State.ready (s : State) : State := { s with port := none, busReady := true }

/-- The port takes a transaction and withholds ready. -/
def State.hold (t : Txn) (s : State) : State := { s with port := some t, busReady := false }

/-- R48: a stretched closing or demand write is taken once 12 entries are free. -/
def State.takeStretched (s : State) : State :=
  match s.port with
  | none => s
  | some t =>
    if s.urgentFree < 12 then s
    else
      match t.purpose with
      | .closing k => (s.takeClosing k t.data).ready
      | .demand k => (s.takeCommit k t.data).ready
      | .read | .passes | .readIndex _ => s

end Sys2Proof.Machine
end

