-- ==== Sys2Proof/Machine/Bus.lean ====
section
/-! DEFINITION. The Upstream Port and the Region Decoder (R29 to R37, R40, R41, R146): every command of the
upstream bus. A transaction is presented only while the port holds none (log 4). -/

namespace Sys2Proof.Machine

/-! ## Classification (R30 to R32) -/

/-- The guarded regions, with slot and word where there are slots. -/
inductive Region where
  | station (slot : Fin 32) (word : Nat)
  | command (slot : Fin 24) (word : Nat)
  | control (word : Nat)
  | ring
  | mirror
  | ordinary
  deriving DecidableEq, Repr

/-- An address lies in the `len` words from `base`. -/
def inRegion (base len a : Nat) : Bool := decide (base ≤ a) && decide (a < base + len)

/-- R32: the region of an address, with the slot and the word of it that the address names. -/
def Regions.find (r : Regions) (addr : Addr) : Region :=
  let a := addr.toNat
  if inRegion r.station 384 a then
    .station (Fin.ofNat 32 ((a - r.station) / 12)) ((a - r.station) % 12)
  else if inRegion r.command 144 a then
    .command (Fin.ofNat 24 ((a - r.command) / 6)) ((a - r.command) % 6)
  else if inRegion r.control 2 a then .control (a - r.control)
  else if inRegion r.ring (8 * r.records) a then .ring
  else if inRegion r.mirror 408 a then .mirror
  else .ordinary

/-- How a write is treated. -/
inductive Treatment where
  | passes
  | refused
  /-- staged, closed, committed or checked: the row of the table for that word takes it -/
  | taken
  deriving DecidableEq, Repr

/-- R30, R32: the treatment in RUN. -/
def Region.treat (lanes : BitVec 2) (who : Initiator) : Region → Treatment
  | .ordinary => .passes
  | .ring => .refused
  | .mirror => .refused
  | .station _ word =>
    if lanes = 3 ∧ who = .scanner ∧ word ≤ 10 then .taken else .refused
  | .command _ word =>
    if lanes = 3 ∧ who = .controller ∧ word ≤ 3 then .taken else .refused
  | .control word =>
    if lanes = 3 ∧ who = .controller ∧ word = 1 then .taken else .refused

/-- R31, R32: the treatment of a write. -/
def State.treatment (s : State) (addr : Addr) (tag lanes : BitVec 2) : Treatment :=
  if s.partState = .run then (s.regions.find addr).treat lanes (Initiator.ofTag tag) else .refused

/-! ## The command that a bus write is (R32, section 9.3) -/

/-- The commit that a demand word is: its code is an order of the slot's kind, or a bad one (R167). -/
def demandCommand (k : Fin 24) (demand : Word) : Instr :=
  let code := lowOctet demand
  let tag := highOctet demand
  match ownerOf k, code.toNat with
  | .outlet n, 0 => .close n tag
  | .outlet n, 1 => .draw n tag
  | .outlet n, 2 => .adjust n tag
  | .outlet n, 3 => .stopAfter n tag
  | .outlet n, 4 => .forceClose n tag
  | .tip t, 0 => .withdraw t tag
  | .tip t, 1 => .permit t tag
  | .tip t, 2 => .boomWork t tag
  | .tip t, 3 => .boomPark t tag
  | .pass p, 0 => .lockout p tag
  | .pass p, 1 => .run p tag
  | .pass p, 2 => .releaseHangup p tag
  | .pass p, 3 => .declareWet p tag
  | .pass p, 4 => .clearWet p tag
  | .pass p, 5 => .emptyOut p tag
  | .pass p, 6 => .rebaseFromLevel p tag
  | .pass p, 7 => .setInventory p tag
  | _, _ => .commitBadCode k code tag

/-- R32: a taken write of a word of a station slot: the payload words are staged, word 10 closes. -/
def stationCommand (k : Fin 32) (word : Nat) (data : Word) : Instr :=
  if h : word < 10 then .stationPayloadWrite k ⟨word, h⟩ data else .closingWordWrite k data

/-- R32: a taken write of a word of a command slot: the set-points are staged, word 3 commits. -/
def slotCommand (k : Fin 24) (word : Nat) (data : Word) : Instr :=
  if h : word < 3 then .setpointWrite k ⟨word, h⟩ data else demandCommand k data

/-- R31, R32: the row of the table that a write on the upstream bus is, by part state, region, slot,
word, initiator and lanes. -/
def State.busWrite (s : State) (addr : Addr) (tag lanes : BitVec 2) (data : Word) : Instr :=
  match s.treatment addr tag lanes, s.regions.find addr with
  | .passes, _ => .passThroughWrite addr tag lanes data
  | .taken, .station k word => stationCommand k word data
  | .taken, .command k word => slotCommand k word data
  | .taken, .control _ => .readIndexWrite data
  | _, _ => .refusedWrite addr tag lanes data

/-! ## The shape of a bus command -/

/-- R29: the port takes a transaction only while it holds none. -/
def State.present (f : State → State) (s : State) : State := if s.port.isSome then s else f s

/-- R31: outside RUN a write is refused and completed at once. -/
def State.inRun (f : State → State) (s : State) : State :=
  if s.partState = .run then f s else s.ready

/-- A SCANNER write of a station slot's closing word. -/
def State.closingTxn (s : State) (k : Fin 32) (v : Word) : Txn where
  addr := BitVec.ofNat 22 (s.stationBase k + 10)
  write := true
  tag := 1
  lanes := 3
  data := v
  purpose := .closing k

/-- A CONTROLLER write of a command slot's demand word. -/
def State.demandTxn (s : State) (k : Fin 24) (v : Word) : Txn where
  addr := BitVec.ofNat 22 (s.commandBase k + 3)
  write := true
  tag := 0
  lanes := 3
  data := v
  purpose := .demand k

/-- R37: a closing word, taken or stretched. -/
def State.closingWrite (k : Fin 32) (v : Word) (s : State) : State :=
  (s.hold (s.closingTxn k v)).takeStretched

/-- R41: a demand word, taken or stretched. -/
def State.demandWrite (k : Fin 24) (v : Word) (s : State) : State :=
  (s.hold (s.demandTxn k v)).takeStretched

/-- R146: the Journal Writer admits the value. -/
def State.admits (s : State) (v : Nat) : Bool :=
  let n := s.regions.records
  let j := s.ctl.journal
  decide (v < n) && decide ((v + n - j.r) % n ≤ (j.w + n - j.r) % n)

/-- R35, R146. -/
def State.readIndexWrite (v : Word) (s : State) : State :=
  if s.admits v.toNat then
    s.hold
      { addr := BitVec.ofNat 22 (s.regions.control + 1), write := true, tag := 0, lanes := 3
        data := v, purpose := .readIndex true }
  else
    ({ s with
       ctl := { s.ctl with
         journal := { s.ctl.journal with badIndex := s.ctl.journal.badIndex + 1 } } }).ready

/-! ## The commands -/

/-- UPSTREAM_READ (R29, R34): the read waits for its grant. -/
def execUpstreamRead (addr : Addr) (tag lanes : BitVec 2) (s : State) : Result :=
  quiet (State.present fun t =>
    t.hold { addr := addr, write := false, tag := tag, lanes := lanes, data := 0, purpose := .read }) s

/-- PASS_THROUGH_WRITE (R32): a write that passes waits for its grant. -/
def execPassThroughWrite (addr : Addr) (tag lanes : BitVec 2) (data : Word) (s : State) : Result :=
  quiet (State.present fun t =>
    if t.treatment addr tag lanes = .passes then
      t.hold
        { addr := addr, write := true, tag := tag, lanes := lanes, data := data, purpose := .passes }
    else t) s

/-- REFUSED_WRITE (R33): a refused write is completed at once. -/
def execRefusedWrite (addr : Addr) (tag lanes : BitVec 2) (_data : Word) (s : State) : Result :=
  quiet (State.present fun t =>
    if t.treatment addr tag lanes = .refused then t.ready else t) s

/-- STATION_PAYLOAD_WRITE (R36). -/
def execStationPayloadWrite (k : Fin 32) (w : Fin 10) (v : Word) (s : State) : Result :=
  quiet (State.present (State.inRun fun t => (t.stagePayload k w v).ready)) s

/-- CLOSING_WORD_WRITE (R37). -/
def execClosingWordWrite (k : Fin 32) (v : Word) (s : State) : Result :=
  event (State.present (State.inRun (State.closingWrite k v))) s

/-- SETPOINT_WRITE (R40). -/
def execSetpointWrite (k : Fin 24) (w : Fin 3) (v : Word) (s : State) : Result :=
  quiet (State.present (State.inRun fun t => (t.stageSetPoint k w v).ready)) s

/-- READ_INDEX_WRITE (R35, R146). -/
def execReadIndexWrite (v : Word) (s : State) : Result :=
  quiet (State.present (State.inRun (State.readIndexWrite v))) s

/-- A commit: the demand word with this order code and tag. -/
def commitWrite (k : Fin 24) (code tag : Octet) (s : State) : Result :=
  event (State.present (State.inRun (State.demandWrite k (joinWord tag code)))) s

end Sys2Proof.Machine
end

