-- ==== Sys2Proof/Machine/Commits.lean ====
section
/-! DEFINITION. The commits (section 9.3): each order of each slot kind as the demand write that commits
it. The set-points are the staged ones and those of the slot's copy (R41). -/

namespace Sys2Proof.Machine

/-- R167, section 9.3: a code outside the list of the slot's kind. -/
def orderCodeBad (k : Fin 24) (code : Octet) : Bool :=
  match ownerOf k with
  | .outlet _ => decide (5 ≤ code.toNat)
  | .tip _ => decide (4 ≤ code.toNat)
  | .pass _ => decide (8 ≤ code.toNat)

/-- COMMIT_BAD_CODE (R167): a code outside the slot kind's list; with a code of the list the event is
not this one (log 1). -/
def execCommitBadCode (k : Fin 24) (code tag : Octet) (s : State) : Result :=
  if orderCodeBad k code then commitWrite k code tag s else .next s

/-- CLOSE (R111). -/
def execClose (n : Fin 8) (tag : Octet) (s : State) : Result := commitWrite (outletSlot n) 0 tag s

/-- DRAW (R97). -/
def execDraw (n : Fin 8) (tag : Octet) (s : State) : Result := commitWrite (outletSlot n) 1 tag s

/-- ADJUST (R109). -/
def execAdjust (n : Fin 8) (tag : Octet) (s : State) : Result := commitWrite (outletSlot n) 2 tag s

/-- STOP_AFTER (R110). -/
def execStopAfter (n : Fin 8) (tag : Octet) (s : State) : Result :=
  commitWrite (outletSlot n) 3 tag s

/-- FORCE_CLOSE (R113). -/
def execForceClose (n : Fin 8) (tag : Octet) (s : State) : Result :=
  commitWrite (outletSlot n) 4 tag s

/-- WITHDRAW (R129). -/
def execWithdraw (t : Fin 12) (tag : Octet) (s : State) : Result := commitWrite (tipSlot t) 0 tag s

/-- PERMIT (R127). -/
def execPermit (t : Fin 12) (tag : Octet) (s : State) : Result := commitWrite (tipSlot t) 1 tag s

/-- BOOM_WORK (R130). -/
def execBoomWork (t : Fin 12) (tag : Octet) (s : State) : Result := commitWrite (tipSlot t) 2 tag s

/-- BOOM_PARK (R131). -/
def execBoomPark (t : Fin 12) (tag : Octet) (s : State) : Result := commitWrite (tipSlot t) 3 tag s

/-- LOCKOUT (R23). -/
def execLockout (p : Fin 4) (tag : Octet) (s : State) : Result := commitWrite (passSlot p) 0 tag s

/-- RUN (R24). -/
def execRun (p : Fin 4) (tag : Octet) (s : State) : Result := commitWrite (passSlot p) 1 tag s

/-- RELEASE_HANGUP (R25). -/
def execReleaseHangup (p : Fin 4) (tag : Octet) (s : State) : Result :=
  commitWrite (passSlot p) 2 tag s

/-- DECLARE_WET (R26). -/
def execDeclareWet (p : Fin 4) (tag : Octet) (s : State) : Result :=
  commitWrite (passSlot p) 3 tag s

/-- CLEAR_WET (R26). -/
def execClearWet (p : Fin 4) (tag : Octet) (s : State) : Result := commitWrite (passSlot p) 4 tag s

/-- EMPTY_OUT (R26). -/
def execEmptyOut (p : Fin 4) (tag : Octet) (s : State) : Result := commitWrite (passSlot p) 5 tag s

/-- REBASE_FROM_LEVEL (R27). -/
def execRebaseFromLevel (p : Fin 4) (tag : Octet) (s : State) : Result :=
  commitWrite (passSlot p) 6 tag s

/-- SET_INVENTORY (R27). -/
def execSetInventory (p : Fin 4) (tag : Octet) (s : State) : Result :=
  commitWrite (passSlot p) 7 tag s

end Sys2Proof.Machine
end

