-- ==== Sys2Proof/Machine/Port.lean ====
section
/-! DEFINITION. The Memory Port, the drainer and the stages of SAFING (R34, R48 to R51, R157). -/

namespace Sys2Proof.Machine

/-! ## The stages of SAFING (R157) -/

/-- R157: the set-point words that the first stage reads, in slot order. -/
def Live.safingReads (l : Live) : List (Fin 24 × Fin 3) :=
  ((List.finRange 24).filter fun k => l.slotConfigured k).flatMap fun k => [(k, 0), (k, 1), (k, 2)]

/-- R157: the safe write-back record of a configured slot: demand 0 with tag 0, verdict NONE with tag 0,
detail 0. -/
def CommandSlot.safe (x : CommandSlot) : CommandSlot :=
  { x.putDemand 0 0 with
    wb := { (x.putDemand 0 0).wb with verdict := some 0, detail := some 0 } }

/-- R157: the safe write-back records of the configured slots. -/
def Ctl.safeSlots (l : Live) (c : Ctl) : Ctl :=
  ((List.finRange 24).filter fun k => l.slotConfigured k).foldl
    (fun x k => x.updSlot k CommandSlot.safe) c

/-- R157: the status latches of the configured stations' slots take STALE with HUNT. -/
def State.safeLatches (s : State) : State :=
  ((List.finRange 32).filter fun i => (s.live.stationCfg i).present).foldl
    (fun x i => x.putLatch (s.live.slotOf i) (statusWord .stale .hunt)) s

/-- R157: the second stage of SAFING begins with its safe writes. -/
def State.safeWrites (s : State) : State :=
  ({ s with ctl := s.ctl.safeSlots s.live, safing := .writes }.safeLatches).placeBulk
    (entriesAt s.regions.control [0, 0])

/-- R157: the reads still to perform, or the second stage where there is none. -/
def State.beginSafing (reads : List (Fin 24 × Fin 3)) (s : State) : State :=
  match reads with
  | [] => s.safeWrites
  | (k, w) :: rest => { s with safing := .reads k w rest }

/-- R40: a set-point of the copy. -/
def SetPoints.put (w : Fin 3) (v : Word) (x : SetPoints) : SetPoints :=
  if w = 0 then { x with a := v } else if w = 1 then { x with b := v } else { x with c := v }

/-- R157: one set-point word is read into its slot's copy. -/
def State.readSetPoint (k : Fin 24) (w : Fin 3) (rest : List (Fin 24 × Fin 3)) (s : State) : State :=
  let v := Memory.readWord s.mem (BitVec.ofNat 22 (s.commandBase k + w.val))
  ({ s with ctl := s.ctl.updSlot k fun x => { x with copy := x.copy.put w v } }).beginSafing rest

/-! ## The arbiter (R51) -/

/-- R51 (a): the transaction in hand needs memory. -/
def Purpose.needsMemory : Purpose → Bool
  | .read | .passes | .readIndex _ => true
  | .closing _ | .demand _ => false

/-- R51 (a): the upstream transaction waits for a grant. -/
def State.upstreamWaits (s : State) : Bool :=
  match s.port with
  | none => false
  | some t => t.purpose.needsMemory

/-- The requester that the port is granted to. -/
inductive Grant where
  | upstream | urgent | bulk | none
  deriving DecidableEq, Repr

/-- R51: the choice. -/
def State.choose (s : State) : Grant :=
  if s.urgent ≠ [] ∧ 4 ≤ s.urgentWait then .urgent
  else if s.bulk ≠ [] ∧ 16 ≤ s.bulkWait then .bulk
  else if s.upstreamWaits then .upstream
  else if s.urgent ≠ [] then .urgent
  else if s.bulk ≠ [] then .bulk
  else .none

/-- R51: the bulk guard made the choice. -/
def State.starving (s : State) : Bool :=
  decide (¬(s.urgent ≠ [] ∧ 4 ≤ s.urgentWait) ∧ s.bulk ≠ [] ∧ 16 ≤ s.bulkWait)

/-- R51: a wait count after a grant. -/
def waitAfter (waiting granted : Bool) (count : Nat) : Nat :=
  if waiting && !granted then min 16 (count + 1) else 0

/-- R51: the counts after a grant to `g`. -/
def State.countGrant (g : Grant) (s : State) : State :=
  { s with
    urgentWait := waitAfter (!s.urgent.isEmpty) (g == .urgent) s.urgentWait
    bulkWait := waitAfter (!s.bulk.isEmpty) (g == .bulk) s.bulkWait
    starvation := if s.starving then s.starvation + 1 else s.starvation }

/-- R51 (a), R34, R146: the upstream transaction is performed. -/
def State.performUpstream (s : State) : State :=
  match s.port with
  | none => s
  | some t =>
    match t.purpose with
    | .read => { s.ready with busData := Memory.readWord s.mem t.addr }
    | .passes => { s.ready with mem := Memory.writeLanes t.addr t.lanes t.data s.mem }
    | .readIndex take =>
      { s.ready with
        mem := Memory.writeWord t.addr t.data s.mem
        ctl :=
          if take then { s.ctl with journal := { s.ctl.journal with r := t.data.toNat } } else s.ctl }
    | .closing _ | .demand _ => s

/-- R49: the whole head group is written, and the stretched write that waited for its room is taken
(R48). -/
def State.performUrgent (s : State) : State :=
  match s.urgent with
  | [] => s
  | g :: rest => ({ s with urgent := rest, mem := Memory.writeEntries g s.mem }).takeStretched

/-- R50: the head word of the bulk queue is written. -/
def State.performBulk (s : State) : State :=
  match s.bulk with
  | [] => s
  | w :: rest => { s with bulk := rest, mem := Memory.writeWord w.1 w.2 s.mem }

/-- R51: one grant. -/
def State.grant (s : State) : State :=
  match s.safing with
  | .reads k w rest => if s.upstreamWaits then s.performUpstream else s.readSetPoint k w rest
  | .off | .writes =>
    match s.choose with
    | .upstream => (s.countGrant .upstream).performUpstream
    | .urgent => (s.countGrant .urgent).performUrgent
    | .bulk => (s.countGrant .bulk).performBulk
    | .none => s

/-! ## The drainer (R48) -/

/-- A source goes to the urgent queue. -/
def State.placeSource (i : Fin 56) (s : State) : State :=
  match sourceOf i with
  | .slot k => s.placeSlot k
  | .latch k => s.placeLatch k

/-- R48: the drainer places the group of the source it waits at, if the room is there. -/
def State.drain (s : State) : State :=
  match s.nextSource with
  | none => s
  | some i =>
    if s.sourceWords i ≤ s.urgentFree then { s.placeSource i with drainer := i + 1 }
    else { s with drainer := i }

/-! ## The end of SAFING (R157) -/

/-- No write-back record and no status latch is marked. -/
def State.unmarked (s : State) : Bool := s.nextSource.isNone

/-- R157: the second stage is over. -/
def State.safingDone (s : State) : Bool :=
  s.partState == .safing && s.safing == .writes && s.urgent.isEmpty && s.bulk.isEmpty && s.unmarked

/-- R149: a publication begins. -/
def State.beginPublication (s : State) : State :=
  { s with
    mirror := { s.mirror with cursor := some .opening, due := false, base := s.regions.mirror } }

/-- R157, R149: START is requested, the part enters RUN, and the Mirror Publisher starts. -/
def State.enterRun (s : State) : State :=
  let s1 := s.onCtl fun e c =>
    c.report e .start 255 s.identity.toNat s.loadStatus.code.code s.startCause.code
      s.live.globalCfg.unit
  { s1 with
    partState := .run, safing := .off
    mirror := { s1.mirror with timer := some s1.clock } }.beginPublication

/-! ## The commands -/

/-- SAFING_SETPOINT_READ (R157): one set-point word is read while no upstream read waits (log 23). -/
def execSafingSetpointRead (s : State) : Result :=
  event (fun t =>
    match t.safing with
    | .reads k w rest => if t.upstreamWaits then t else t.readSetPoint k w rest
    | .off | .writes => t) s

/-- SAFING_END (R157). -/
def execSafingEnd (s : State) : Result := event (fun t => if t.safingDone then t.enterRun else t) s

/-- ARBITER_GRANT (R51). -/
def execArbiterGrant (s : State) : Result := event State.grant s

/-- DRAINER_PLACE_GROUP (R48). -/
def execDrainerPlaceGroup (s : State) : Result := event State.drain s

end Sys2Proof.Machine
end

