-- ==== Sys2Proof/Machine/Reports.lean ====
section
/-! DEFINITION. The Journal Writer's writing and the Mirror Publisher (chapter 7). -/

namespace Sys2Proof.Machine

/-! ## The journal (R145, R148) -/

/-- R141: the unread count. -/
def State.unread (s : State) : Nat :=
  let n := s.regions.records
  (s.ctl.journal.w + n - s.ctl.journal.r) % n

/-- R145: the ring has two free positions. -/
def State.ringFree (s : State) : Bool := decide (s.unread + 2 ≤ s.regions.records)

/-- R145: the bulk queue has room for a record and its write index. -/
def State.recordRoom (s : State) : Bool := decide (9 ≤ s.bulkFree)

/-- R142, section 9.5: the eight words of a record. -/
def JournalRecord.words (serial : Word) (x : JournalRecord) : List Word :=
  [serial, toWord (x.kind.code + 256 * x.subject), x.stamp.extractLsb' 0 16,
    x.stamp.extractLsb' 16 16, x.d0, x.d1, x.d2, x.d3]

/-- R145, steps 1 to 3. -/
def State.writeRecord (x : JournalRecord) (s : State) : State :=
  let j := s.ctl.journal
  let next := (j.w + 1) % s.regions.records
  ({ s with
     ctl := { s.ctl with journal := { j with serial := j.serial + 1, w := next } } }).placeBulk
    (entriesAt (s.regions.ring + 8 * j.w) (x.words j.serial)
      ++ entriesAt s.regions.control [toWord next])

/-- R145, step 4. -/
def State.dropHead (s : State) : State :=
  { s with ctl := { s.ctl with journal := { s.ctl.journal with list := s.ctl.journal.list.tail } } }

/-- R145: the GAP record. -/
def State.gapRecord (s : State) : JournalRecord where
  kind := .gap
  subject := 255
  stamp := s.clock
  d0 := toWord s.ctl.journal.lost
  d1 := 0
  d2 := 0
  d3 := 0

def State.clearLost (s : State) : State :=
  { s with ctl := { s.ctl with journal := { s.ctl.journal with lost := 0 } } }

/-- R145, R148, R165: a record can be written: the part is in RUN (records requested between the
acceptance of a RELOAD and its taking effect are discarded, and so are those pending then: log 46), no
zero words wait, and both conditions of R145 hold. -/
def State.recordsGo (s : State) : Bool :=
  s.partState == .run && s.ctl.journal.zeroDue.isEmpty && s.ringFree && s.recordRoom

/-- R145: the head of the pending list is written. -/
def State.writeHead (s : State) : State :=
  match s.ctl.journal.list with
  | [] => s
  | x :: _ =>
    if s.ctl.journal.lost = 0 ∧ s.recordsGo = true then (s.writeRecord x).dropHead else s

/-- R145: a GAP record is written in place of the head. -/
def State.writeGap (s : State) : State :=
  if 0 < s.ctl.journal.lost ∧ s.recordsGo = true then (s.writeRecord s.gapRecord).clearLost else s

/-- R148: the two zero words of a new control region. -/
def State.placeZeros (s : State) : State :=
  match s.ctl.journal.zeroDue with
  | [] => s
  | base :: rest =>
    if 2 ≤ s.bulkFree then
      ({ s with ctl := { s.ctl with journal := { s.ctl.journal with zeroDue := rest } } }).placeBulk
        (entriesAt base [0, 0])
    else s

/-! ## The mirror (R149 to R151) -/

/-- R145, R148, R150: the journal has words that wait only for bulk room. -/
def State.journalWaits (s : State) : Bool :=
  !s.ctl.journal.zeroDue.isEmpty
    || ((!s.ctl.journal.list.isEmpty || decide (0 < s.ctl.journal.lost)) && s.ringFree)

/-- R151, section 9.6: header words 1 to 7. -/
def State.headerWords (s : State) : List Word :=
  [toWord s.partState.code, s.identity, toWord s.ctl.journal.lost, s.ctl.journal.badIndex,
    s.clock.extractLsb' 0 16, s.clock.extractLsb' 16 16, s.starvation]

/-- A pass record; a pass that is not configured holds the values of R3. -/
def State.passRecord (p : Fin 4) (s : State) : List Word :=
  passWords (s.live.passCfg p) (s.ctl.pass p)

/-- The qualifiers of a station by its number. -/
def State.qualAt (i : Nat) (s : State) : Qualifiers := s.env.qualAt i

/-- An outlet record; an outlet that is not configured is published with the values of R92 (log 36). -/
def State.outletRecordWords (n : Fin 8) (s : State) : List Word :=
  let k := s.live.outletCfg n
  if k.present then
    outletWords (s.ctl.outlet n) (s.qualAt k.station) (s.qualAt k.station).flow.state.qualified
  else outletWords Outlet.reset Qualifiers.reset .unknown

/-- A tip-point record; a tip point that is not configured holds the values of R122. -/
def State.tipRecordWords (t : Fin 12) (s : State) : List Word :=
  let k := s.live.tipCfg t
  if k.present then tipWords (s.ctl.tip t) (s.qualAt k.station)
  else tipWords Tip.reset Qualifiers.reset

/-- A station record. -/
def State.stationRecord (i : Fin 32) (s : State) : List Word := stationWords (s.station i)

/-- The generation after the increase that its opening and closing words carry (R150). -/
def State.nextGeneration (s : State) : Word := s.mirror.generation + 1

/-- R150: a group's offset in the mirror region, and its words sampled now. -/
def State.groupWords (g : MirrorGroup) (s : State) : Nat × List Word :=
  match g with
  | .opening => (0, [s.nextGeneration])
  | .header => (1, s.headerWords)
  | .pass p => (8 + 8 * p.val, s.passRecord p)
  | .outlet n => (40 + 8 * n.val, s.outletRecordWords n)
  | .tip t => (104 + 4 * t.val, s.tipRecordWords t)
  | .station i => (152 + 8 * i.val, s.stationRecord i)
  | .closing => (0, [s.nextGeneration])

/-- R150: the group after this one; none after the closing word. -/
def MirrorGroup.next : MirrorGroup → Option MirrorGroup
  | .opening => some .header
  | .header => some (.pass 0)
  | .pass p => if h : p.val + 1 < 4 then some (.pass ⟨p.val + 1, h⟩) else some (.outlet 0)
  | .outlet n => if h : n.val + 1 < 8 then some (.outlet ⟨n.val + 1, h⟩) else some (.tip 0)
  | .tip t => if h : t.val + 1 < 12 then some (.tip ⟨t.val + 1, h⟩) else some (.station 0)
  | .station i => if h : i.val + 1 < 32 then some (.station ⟨i.val + 1, h⟩) else some .closing
  | .closing => none

/-- R150: the opening and the closing word take the generation they carry. -/
def MirrorGroup.isGeneration : MirrorGroup → Bool
  | .opening | .closing => true
  | .header | .pass _ | .outlet _ | .tip _ | .station _ => false

/-- R149: the cursor moves on; a publication that was due begins where this one ends. -/
def State.advanceCursor (g : MirrorGroup) (s : State) : State :=
  match g.next with
  | some n => { s with mirror := { s.mirror with cursor := some n } }
  | none =>
    if s.mirror.due then s.beginPublication
    else { s with mirror := { s.mirror with cursor := none } }

/-- R150: a group is placed. -/
def State.placeGroup (g : MirrorGroup) (s : State) : State :=
  let y := s.groupWords g
  let generation := if g.isGeneration then s.nextGeneration else s.mirror.generation
  (({ s with mirror := { s.mirror with generation := generation } }).placeBulk
    (entriesAt (s.mirror.base + y.1) y.2)).advanceCursor g

/-- R150: the publisher places its next group where the conditions hold. -/
def State.publish (s : State) : State :=
  match s.mirror.cursor with
  | none => s
  | some g =>
    if s.partState = .run ∧ (s.groupWords g).2.length ≤ s.bulkFree ∧ s.journalWaits = false then
      s.placeGroup g
    else s

/-- R149: the period timer has run for the mirror period. -/
def State.periodDue (s : State) : Bool :=
  match s.mirror.timer with
  | none => false
  | some since => decide (s.live.globalCfg.mirrorPeriod ≤ elapsed s.clock since)

/-- R149: the period timer expires and starts again from its expiry (log 14). -/
def State.periodExpires (s : State) : State :=
  match s.mirror.timer with
  | none => s
  | some since =>
    let s1 : State :=
      { s with
        mirror := { s.mirror with
          timer := some (since + BitVec.ofNat 32 s.live.globalCfg.mirrorPeriod) } }
    if s.mirror.cursor = none then s1.beginPublication
    else { s1 with mirror := { s1.mirror with due := true } }

/-! ## The attention line (R147) -/

/-- R144, R145, R148: a record waits for nothing but its own command: the ring has two free positions and
the bulk queue has room for it behind the zero words that are due (log 45). -/
def State.recordDue (s : State) : Bool :=
  (!s.ctl.journal.list.isEmpty || decide (0 < s.ctl.journal.lost)) && s.ringFree
    && decide (9 + 2 * s.ctl.journal.zeroDue.length ≤ s.bulkFree)

/-- R147: the attention output, computed from what it follows from (log 29). The rule counts a record as
unread from the event in which R145 writes it, so one that is due counts too (log 45). -/
def State.attention (s : State) : Bool :=
  s.resetAsserted || s.partState != .run || decide (0 < s.unread) || s.recordDue

/-! ## The commands -/

/-- JOURNAL_RECORD_WRITE (R145). -/
def execJournalRecordWrite (s : State) : Result := quiet State.writeHead s

/-- GAP_RECORD_WRITE (R145). -/
def execGapRecordWrite (s : State) : Result := quiet State.writeGap s

/-- JOURNAL_CONTROL_ZERO_PLACE (R148). -/
def execJournalControlZeroPlace (s : State) : Result := quiet State.placeZeros s

/-- MIRROR_GROUP_PLACE (R150). -/
def execMirrorGroupPlace (s : State) : Result := quiet State.publish s

/-- MIRROR_PERIOD_EXPIRY (R149). -/
def execMirrorPeriodExpiry (s : State) : Result :=
  quiet (fun t => if t.periodDue then t.periodExpires else t) s

end Sys2Proof.Machine
end

