-- ==== Sys2Proof/Machine/ConfigBlock.lean ====
section
/-! DEFINITION. The Configuration Block: the load checks (R154, R155, R168), the end of the configuration
read (R156), and the application of an accepted WRITE_CONFIG (R164). -/

namespace Sys2Proof.Machine

/-! ## The load checks -/

/-- The code of a failing check, with the entry at which it failed where there is one. -/
abbrev Failure := LoadCode × Option (EntryKind × Nat)

/-- `lo ≤ v ≤ hi`. -/
def within (lo hi v : Nat) : Bool := decide (lo ≤ v) && decide (v ≤ hi)

/-- R155: a base is a multiple of 16 and its region lies in the word space. -/
def regionFits (base len : Nat) : Bool :=
  base % 16 == 0 && decide (base ≤ 4194303) && decide (base + len ≤ 4194304)

/-- R155: two regions share no word. -/
def apart (x y : Nat × Nat) : Bool :=
  x.2 == 0 || y.2 == 0 || decide (x.1 + x.2 ≤ y.1) || decide (y.1 + y.2 ≤ x.1)

/-- Base and length of the five regions. -/
def GlobalCfg.areas (g : GlobalCfg) : List (Nat × Nat) :=
  [(g.stationBase, 384), (g.commandBase, 144), (g.controlBase, 2), (g.ringBase, 8 * g.journalSize),
    (g.mirrorBase, 408)]

/-- R155: the region check. -/
def GlobalCfg.regionsOk (g : GlobalCfg) : Bool :=
  g.areas.all (fun x => regionFits x.1 x.2) && decide (g.areas.Pairwise fun x y => apart x y = true)

/-- A station number names a present station of this kind. -/
def Live.stationIs (l : Live) (i : Nat) (kind : StationKind) : Bool :=
  if h : i < 32 then (l.stationCfg ⟨i, h⟩).present && (l.stationCfg ⟨i, h⟩).kind == some kind
  else false

/-- The members of a list of bits. -/
def bitCount {w : Nat} (b : BitVec w) : Nat := ((List.range w).filter b.getLsbD).length

/-- R155: the references of a present pass entry. -/
def Live.passRefsOk (l : Live) (p : Fin 4) : Bool :=
  let k := l.passCfg p
  !k.present ||
    (l.stationIs k.levelStation .level
      && ((List.finRange 4).all fun q =>
        q == p || !(l.passCfg q).present || (l.passCfg q).levelStation != k.levelStation)
      && decide (bitCount k.outletList ≤ 3) && decide (bitCount k.tipList ≤ 4)
      && ((List.finRange 8).all fun n =>
        !k.outletList.getLsbD n.val || !(l.outletCfg n).present || (l.outletCfg n).pass == p)
      && (List.finRange 12).all fun t =>
        !k.tipList.getLsbD t.val || !(l.tipCfg t).present || (l.tipCfg t).pass == p)

/-- R155: the references of a present outlet entry. -/
def Live.outletRefsOk (l : Live) (n : Fin 8) : Bool :=
  let k := l.outletCfg n
  !k.present ||
    ((l.passCfg k.pass).present && l.stationIs k.station .outlet
      && (l.passCfg k.pass).outletList.getLsbD n.val
      && (List.finRange 8).all fun m =>
        m == n || !(l.outletCfg m).present || (l.outletCfg m).station != k.station)

/-- R155: the references of a present tip-point entry. -/
def Live.tipRefsOk (l : Live) (t : Fin 12) : Bool :=
  let k := l.tipCfg t
  !k.present ||
    ((l.passCfg k.pass).present && l.stationIs k.station .tip
      && (l.passCfg k.pass).tipList.getLsbD t.val
      && ((List.finRange 12).all fun u =>
        u == t || !(l.tipCfg u).present || (l.tipCfg u).station != k.station)
      && decide (bitCount k.fallSet ≤ 3) && !k.fallSet.getLsbD t.val
      && (List.finRange 12).all fun u =>
        !k.fallSet.getLsbD u.val || !(l.tipCfg u).present || (l.tipCfg u).pass == k.pass)

/-- R155: no two present stations name the same station slot. -/
def Live.stationRefsOk (l : Live) (i : Fin 32) : Bool :=
  !(l.stationCfg i).present ||
    (List.finRange 32).all fun j =>
      j == i || !(l.stationCfg j).present || (l.stationCfg j).slot != (l.stationCfg i).slot

/-- R154, check 7. -/
def PassCfg.marksOk (k : PassCfg) : Bool :=
  !k.present ||
    (decide (k.cushionMark < k.highMark) && decide (k.highMark < k.fullMark)
      && decide (k.fullMark ≤ k.capacity) && decide (k.releaseMark < k.fullMark))

/-- R154, check 8. -/
def GlobalCfg.rangesOk (g : GlobalCfg) : Bool :=
  within 0 30 g.unit && within 64 4096 g.journalSize && within 50 5000 g.mirrorPeriod
    && within 0 10000 g.outletLimit && within 0 10000 g.tipLimit

def PassCfg.rangesOk (k : PassCfg) : Bool :=
  !k.present ||
    (within 100 60000 k.capacity && within 1 65535 k.emptyDistance && within 1 65535 k.dtPerCm
      && within 1 600 k.holdTime && within 1 65535 k.threshold && within 1 65535 k.fallStep
      && within 60 65535 k.wetDwell && within 1 10 k.openingCode && within 1 250 k.targetCode
      && within 1 65535 k.loosening)

def OutletCfg.rangesOk (k : OutletCfg) : Bool :=
  !k.present ||
    (within 0 500 k.lead && within 1000 60000 k.openTimeout && within 1000 60000 k.closeTimeout
      && within 500 30000 k.flowStartTimeout && within 5 600 k.cycleDrawTimeout
      && within 5 1800 k.indexTimeout)

def TipCfg.rangesOk (k : TipCfg) : Bool :=
  !k.present || (within 1 16 k.maxJump && within 1 120 k.parkTimeout)

/-- R168: the fields that the kind does not use are not checked. -/
def StationCfg.rangesOk (k : StationCfg) : Bool :=
  !k.present ||
    (within 0 31 k.slot && within 20 5000 k.lateLimit &&
      match k.kind with
      | none => false
      | some .tip => within 1 4 k.depth
      | some .outlet =>
        within 1 4 k.depth && within 1 255 k.onThreshold && within 0 254 k.offThreshold
          && decide (k.offThreshold < k.onThreshold) && within 0 10000 k.minOn
          && within 0 10000 k.dropout
      | some .level =>
        within 1 32 k.poorLimit && within 1 16 k.interval && within 1 6 k.shift
          && within 1 64 k.validity && decide (k.dryThreshold ≤ k.wetThreshold)
          && within 1 16 k.moistureCount)

/-- The first entry of a kind at which a check fails. -/
def failAt {n : Nat} (code : LoadCode) (kind : EntryKind) (ok : Fin n → Bool) : Option Failure :=
  ((List.finRange n).find? fun i => !ok i).map fun i => (code, some (kind, i.val))

/-- R154, check 6. -/
def Live.refsFailure (l : Live) : Option Failure :=
  (((failAt .badReference .pass l.passRefsOk).or (failAt .badReference .outlet l.outletRefsOk)).or
    (failAt .badReference .tipPoint l.tipRefsOk)).or
    (failAt .badReference .station l.stationRefsOk)

/-- R154, check 8, in the order of the image. -/
def Live.rangeFailure (l : Live) : Option Failure :=
  ((((failAt (n := 1) .badRange .global fun _ => l.globalCfg.rangesOk).or
    (failAt .badRange .pass fun p => (l.passCfg p).rangesOk)).or
    (failAt .badRange .outlet fun n => (l.outletCfg n).rangesOk)).or
    (failAt .badRange .tipPoint fun t => (l.tipCfg t).rangesOk)).or
    (failAt .badRange .station fun i => (l.stationCfg i).rangesOk)

/-- R154, checks 4 (the global entry) to 8: the first that fails, with its entry (log 22). -/
def Live.failure (l : Live) : Option Failure :=
  if l.globalCfg.present = false then some (.badFormat, some (.global, 0))
  else if l.globalCfg.regionsOk = false then some (.badRegion, some (.global, 0))
  else
    (l.refsFailure.or (failAt .badMarks .pass fun p => (l.passCfg p).marksOk)).or l.rangeFailure

/-- R154: the checks of a load. -/
def imageFailure (image : List Octet) : Option Failure :=
  if payloadWord image 2 ≠ 1834 then some (.badLength, none)
  else if natToOctets 4 (crc32 (image.take 1830)).toNat ≠ image.drop 1830 then some (.badCheck, none)
  else if payloadWord image 0 ≠ 1 then some (.badFormat, none)
  else (imageLive image).failure

/-! ## The end of the configuration read (R156) -/

/-- R16: the dwell interval of each configured pass starts. -/
def Ctl.startDwell (l : Live) (now : Clock) (c : Ctl) : Ctl :=
  ((List.finRange 4).filter fun p => (l.passCfg p).present).foldl
    (fun x p => x.setPass p { x.pass p with dwellTimer := some now }) c

/-- R156: a bad image, or none. -/
def State.badLoad (f : Failure) (s : State) : State :=
  { s with
    partState := .unconfigured, loading := false, loadStatus := { code := f.1, entry := f.2 } }

/-- R156: a good image; SAFING begins. -/
def State.goodLoad (image : List Octet) (s : State) : State :=
  let l := imageLive image
  { s with
    partState := .safing, loading := false, live := l, identity := payloadWord image 4
    loadStatus := { code := .ok, entry := none }, bases := some l.regions
    ctl := s.ctl.startDwell l s.clock }.beginSafing l.safingReads

/-- R156: the read completes; an image of another length is no completion (log 32). -/
def State.completeLoad (image : Option (List Octet)) (s : State) : State :=
  match image with
  | none => s.badLoad (.noImage, none)
  | some octets =>
    if octets.length = 1834 then
      match imageFailure octets with
      | some f => s.badLoad f
      | none => s.goodLoad octets
    else s

/-- CONFIG_LOAD_COMPLETE (R156). -/
def execConfigLoadComplete (image : Option (List Octet)) (s : State) : Result :=
  event (fun t => if t.partState = .starting ∧ t.loading = true then t.completeLoad image else t) s

/-! ## A changed entry (R163) -/

/-- The entry of a kind and index; the index is in range. -/
def Live.entry (l : Live) (kind : EntryKind) (i : Nat) : RawEntry :=
  match kind with
  | .global => l.global
  | .pass => l.passes.toList.getD i 0
  | .outlet => l.outlets.toList.getD i 0
  | .tipPoint => l.tips.toList.getD i 0
  | .station => l.stations.toList.getD i 0

/-- The table with one entry replaced. -/
def Live.replace (l : Live) (kind : EntryKind) (i : Nat) (x : RawEntry) : Live :=
  match kind with
  | .global => { l with global := x }
  | .pass => { l with passes := l.passes.setIfInBounds i x }
  | .outlet => { l with outlets := l.outlets.setIfInBounds i x }
  | .tipPoint => { l with tips := l.tips.setIfInBounds i x }
  | .station => { l with stations := l.stations.setIfInBounds i x }

/-- R163: a pass that the entry affects, read in one of the two tables; an entry that is not present
names no pass (log 39). -/
def Live.affectsPass (l : Live) (kind : EntryKind) (i : Nat) (p : Fin 4) : Bool :=
  match kind with
  | .global => true
  | .pass => p.val == i
  | .outlet => (List.finRange 8).any fun n =>
      n.val == i && (l.outletCfg n).present && (l.outletCfg n).pass == p
  | .tipPoint => (List.finRange 12).any fun t =>
      t.val == i && (l.tipCfg t).present && (l.tipCfg t).pass == p
  | .station =>
    ((l.passCfg p).present && (l.passCfg p).levelStation == i)
      || ((l.outletsOf p).any fun n => (l.outletCfg n).station == i)
      || (l.tipsOf p).any fun t => (l.tipCfg t).station == i

/-- R163: an outlet that the entry affects, read in one of the two tables. -/
def Live.affectsOutlet (l : Live) (kind : EntryKind) (i : Nat) (n : Fin 8) : Bool :=
  match kind with
  | .global => true
  | .pass => (List.finRange 4).any fun p =>
      p.val == i && (l.passCfg p).present && (l.passCfg p).outletList.getLsbD n.val
  | .outlet => n.val == i
  | .tipPoint => false
  | .station => (l.outletCfg n).present && (l.outletCfg n).station == i

/-- R163, check 2 holds: every pass affected is in LOCKOUT. -/
def State.lockedOut (s : State) (new : Live) (kind : EntryKind) (i : Nat) : Bool :=
  (List.finRange 4).all fun p =>
    !(s.live.affectsPass kind i p || new.affectsPass kind i p) || (s.ctl.pass p).state == .lockout

/-- R163, check 3 holds: no outlet affected is in STOPPING. -/
def State.noneStopping (s : State) (new : Live) (kind : EntryKind) (i : Nat) : Bool :=
  (List.finRange 8).all fun n =>
    !(s.live.affectsOutlet kind i n || new.affectsOutlet kind i n)
      || (s.ctl.outlet n).state != .stopping

/-- R163, check 4: the station region or the command region moves. The base octets are compared whatever the
present flag of the entry written says (log 52). -/
def Live.slotsMove (old new : Live) : Bool :=
  old.globalCfg.stationBase != new.globalCfg.stationBase
    || old.globalCfg.commandBase != new.globalCfg.commandBase

/-! ## Applying a change (R164) -/

/-- R148: the journal region or its size changed. -/
def geometryChanged (old new : GlobalCfg) : Bool :=
  old.journalSize != new.journalSize || old.ringBase != new.ringBase
    || old.controlBase != new.controlBase

/-- R148: an admitted read index write in hand is performed without r taken from it. R148 speaks of that write
alone; a pass-through write in hand keeps the way it was classified when it was presented (R32), and is
performed, though the new regions may cover its word (log 51). -/
def Txn.dropIndex (t : Txn) : Txn :=
  match t.purpose with
  | .readIndex _ => { t with purpose := .readIndex false }
  | .read | .passes | .closing _ | .demand _ => t

/-- R148. -/
def State.restartJournal (control : Nat) (s : State) : State :=
  let j := s.ctl.journal
  { s with
    port := s.port.map Txn.dropIndex
    ctl := { s.ctl with journal := { j with w := 0, r := 0, zeroDue := j.zeroDue ++ [control] } } }

/-- R164, GLOBAL; the live table is the new one. -/
def State.applyGlobal (old : GlobalCfg) (s : State) : State :=
  let new := s.live.globalCfg
  let s1 := { s with bases := some s.live.regions }
  let s2 := if geometryChanged old new then s1.restartJournal new.controlBase else s1
  if old.mirrorPeriod = new.mirrorPeriod then s2
  else { s2 with mirror := { s2.mirror with timer := some s2.clock } }

/-- R86: the level fill of a LEVEL station's filter is worked again. -/
def State.refill (i : Fin 32) (s : State) : State :=
  let q := s.qual i
  s.setQual i
    { q with level := { q.level with fill := levelFillOf (s.live.levelPass i) q.level.distance } }

/-- The station with this number, if it names one. -/
def stationIndex (i : Nat) : Option (Fin 32) := if h : i < 32 then some ⟨i, h⟩ else none

def State.refillAt (i : Nat) (s : State) : State :=
  match stationIndex i with
  | none => s
  | some j => s.refill j

/-- R4, step 1: an inventory above the new capacity. -/
def clampInventory (e : Env) (p : Fin 4) (c : Ctl) : Ctl :=
  let r := c.pass p
  let cap := (e.passCfg p).capacity
  if cap < r.inventory then
    (c.setPass p { r with inventory := cap }).report e .inventoryClamp p.val 1 (r.inventory - cap) 0 0
  else c

/-- R4, step 2: the level and sensor wet fields from the qualifiers of the station now named. -/
def Pass.takeStation (moved : Bool) (q : Qualifiers) (r : Pass) : Pass :=
  let x := { r with levelFill := q.level.fill, levelValid := q.level.valid
                    sensorWet := q.moisture.state }
  if moved then { x with reference := q.level.fill, accumulator := 0 } else x

/-- R4: a running disagreement timer against the new hold time, at every change of the entry (log 47). -/
def measureDisagreement (e : Env) (p : Fin 4) (c : Ctl) : Ctl :=
  if disagreementDue e p c then disagreementExpires e p c else c

/-- R4: a configured pass is brought into line with its new entry; `old` is the entry before. R4 does not order
the measuring of a running disagreement timer against the recomputation, which can stop it (R10); the model
recomputes first (log 47). A new LEVEL station whose level is valid already makes no report (R86), so an
inventory unsettled stays so until the next report or commit (log 49), and the class known meanwhile can return
to UNKNOWN, against R94 and R124, over an outlet in OPENING or FLOWING, which draws on, and over an OPEN tip
point, which stays OPEN (log 50). -/
def realignPass (old : PassCfg) (p : Fin 4) (e : Env) (c : Ctl) : Ctl :=
  let k := e.passCfg p
  let wasBelow := (c.pass p).belowCushion old
  let c1 := clampInventory e p c
  let c2 := c1.setPass p
    ((c1.pass p).takeStation (old.levelStation != k.levelStation) (e.qualAt k.levelStation))
  let c3 := withNews e p (recomputeFrom e p wasBelow) c2
  withNews e p (wetTests e p) (measureDisagreement e p c3)

/-- R4: the values of R3, and the dwell interval started where the pass is now configured (R16);
level and moisture come with the next reports (log 30). No demand is written for the pass slot: R21 has the
word of a configured slot hold the state code, and no rule writes it at this event (log 48). -/
def restartPass (p : Fin 4) (e : Env) (c : Ctl) : Ctl :=
  c.setPass p
    { Pass.reset with dwellTimer := if (e.passCfg p).present then some e.clock else none }

/-- R164, PASS. -/
def State.applyPass (old : PassCfg) (p : Fin 4) (s : State) : State :=
  let new := s.live.passCfg p
  let s1 := if old.present then s.refillAt old.levelStation else s
  let s2 := if new.present then s1.refillAt new.levelStation else s1
  if old.present && new.present then s2.onCtl (realignPass old p)
  else if old.present || new.present then s2.onCtl (restartPass p)
  else s2

/-- R93: the values of R92, but the last fault code and the reports handed over (log 19, log 28). -/
def Outlet.restart (o : Outlet) : Outlet :=
  { Outlet.reset with lastFault := o.lastFault, noFlowReports := o.noFlowReports }

/-- R93. No demand is written for the slot of an outlet now configured (log 48). -/
def applyOutlet (old : OutletCfg) (n : Fin 8) (e : Env) (c : Ctl) : Ctl :=
  let new := e.outletCfg n
  if old.present && new.present then
    if old.station = new.station then c
    else c.setOutlet n { c.outlet n with lastRecord := none }
  else if old.present || new.present then c.setOutlet n (c.outlet n).restart
  else c

/-- R123: the TIP station changed. -/
def dropKnown (t : Fin 12) (changed : Bool) (c : Ctl) : Ctl :=
  if changed then c.setTip t { c.tip t with known := false } else c

/-- R123: a running park timer against a park timeout that changed. One due against a timeout left as it was is
an event of its own, PARK_TIMEOUT. -/
def measurePark (changed : Bool) (e : Env) (t : Fin 12) (c : Ctl) : Ctl :=
  if changed && parkDue e t c then settleTips e (e.tipCfg t).pass (parkExpires e t c) else c

/-- R123; a tip point now configured waits in PARKING for its next events, and a changed TIP station that is
FRESH or reports the boom parked already is no event for one that stays configured (log 18). No demand is
written for the slot of one now configured (log 48). -/
def applyTip (old : TipCfg) (t : Fin 12) (e : Env) (c : Ctl) : Ctl :=
  let new := e.tipCfg t
  if old.present && new.present then
    measurePark (old.parkTimeout != new.parkTimeout) e t (dropKnown t (old.station != new.station) c)
  else if old.present || new.present then c.setTip t Tip.reset
  else c

/-- R57, R90: a qualifier parameter of the station's kind changed. -/
def StationCfg.parametersChanged (old new : StationCfg) : Bool :=
  match new.kind with
  | none => false
  | some .tip => old.depth != new.depth
  | some .outlet =>
    old.depth != new.depth || old.onThreshold != new.onThreshold
      || old.offThreshold != new.offThreshold || old.minOn != new.minOn
      || old.dropout != new.dropout
  | some .level =>
    old.qualityFloor != new.qualityFloor || old.poorLimit != new.poorLimit
      || old.interval != new.interval || old.shift != new.shift || old.validity != new.validity
      || old.wetThreshold != new.wetThreshold || old.dryThreshold != new.dryThreshold
      || old.moistureCount != new.moistureCount

/-- R56: the latch of a slot held before or now takes STALE with HUNT. -/
def State.staleLatch (k : StationCfg) (s : State) : State :=
  if k.present then s.putLatch (Fin.ofNat 32 k.slot) (statusWord .stale .hunt) else s

/-- R56, R89, R90: the entry returns to its reset values, and its qualifiers with it. -/
def State.restartStation (old : StationCfg) (i : Fin 32) (s : State) : State :=
  let before := (s.station i).freshness
  let s1 := ((s.setStation i Station.reset).staleLatch old).staleLatch (s.live.stationCfg i)
  let s2 := s1.freshnessEvent i before .config
  s2.setQual i Qualifiers.reset

/-- R164, STATION (log 31 for the order of the late limit and the parameters). -/
def State.applyStation (old : StationCfg) (i : Fin 32) (s : State) : State :=
  let new := s.live.stationCfg i
  if old.present = new.present ∧ old.kind = new.kind ∧ old.slot = new.slot then
    if new.present then
      let s1 := if old.lateLimit ≠ new.lateLimit ∧ s.lateDue i = true then s.lateExpires i else s
      if old.parametersChanged new then s1.resetQualifiers i else s1
    else s
  else s.restartStation old i

/-- R164, step 2: the block that holds state for the entry takes the change; `old` is the table
before. -/
def State.applyEntry (old : Live) (kind : EntryKind) (i : Nat) (s : State) : State :=
  match kind with
  | .global => s.applyGlobal old.globalCfg
  | .pass => if h : i < 4 then s.applyPass (old.passCfg ⟨i, h⟩) ⟨i, h⟩ else s
  | .outlet =>
    if h : i < 8 then s.onCtl (applyOutlet (old.outletCfg ⟨i, h⟩) ⟨i, h⟩) else s
  | .tipPoint =>
    if h : i < 12 then s.onCtl (applyTip (old.tipCfg ⟨i, h⟩) ⟨i, h⟩) else s
  | .station => if h : i < 32 then s.applyStation (old.stationCfg ⟨i, h⟩) ⟨i, h⟩ else s

/-- R164: an accepted WRITE_CONFIG is applied, and CONFIG_CHANGE requested. -/
def State.applyConfig (kind : EntryKind) (i : Nat) (entry : RawEntry) (identity : Word) (s : State) :
    State :=
  let s1 := { s with live := s.live.replace kind i entry, identity := identity }
  (s1.applyEntry s.live kind i).onCtl fun e c =>
    c.report e .configChange 255 kind.code i identity.toNat 0

end Sys2Proof.Machine
end

