-- ==== Sys2Proof/Machine/ResetControl.lean ====
section
/-! DEFINITION. The full reset and the effect of a reload (R52, R158, R165). -/

namespace Sys2Proof.Machine

/-- R52: a read in hand is completed with the word that memory returns, a write without reaching memory. -/
def State.completeHeld (s : State) : State :=
  match s.port with
  | none => s
  | some t => if t.write then s.ready else { s.ready with busData := Memory.readWord s.mem t.addr }

/-- R158: every block at its reset values. Image memory is kept (R52), and so are the bus outputs, the
queue of waiting commands and the model's own count. -/
def State.cleared (s : State) : State :=
  { State.reset with
    mem := s.mem, busReady := s.busReady, busData := s.busData, pending := s.pending
    ctl := { Ctl.reset with freeCount := s.ctl.freeCount } }

/-- R158: the reset input is asserted; the read of the image begins at its end. -/
def State.fullReset (s : State) : State :=
  if s.resetAsserted then s
  else { s.completeHeld.cleared with resetAsserted := true, loading := false }

/-- R158: the end of the full reset: every block at its reset values, the clock 0, the load begun. -/
def State.fullResetEnd (s : State) : State :=
  if s.resetAsserted then s.cleared else s

/-- R158: the reload takes effect; the link keeps its counters. -/
def State.reloadEffect (s : State) : State :=
  { s.completeHeld.cleared with
    startCause := .reload
    link := { s.link with rx := .waiting, tx := none } }

/-- FULL_RESET (R158). -/
def execFullReset (s : State) : Result := .next s.fullReset

/-- FULL_RESET_END (R158). -/
def execFullResetEnd (s : State) : Result := .next s.fullResetEnd

end Sys2Proof.Machine
end

