-- ==== Sys2Proof/Machine/LinkControl.lean ====
section
/-! DEFINITION. The Maintenance Link (R159 to R165, section 9.8): the receiver, the dropping of frames, and
every request with its response. -/

namespace Sys2Proof.Machine

/-! ## The receiver (R159) -/

def State.setLink (f : Link → Link) (s : State) : State := { s with link := f s.link }

/-- An event of the frame being received. -/
def State.inFrame (f : State → State) (s : State) : State := if s.link.rx = .inFrame then f s else s

/-- R159: the judgement of the bits between two delimiters, in the order of the rule. No data bit at all is
a frame of no octets; 1 to 7 bits are a length error (log 43). A frame of more than 68 octets was dropped at
its 69th octet, where the receiver went to WAITING; the bits are given up to the closing delimiter, which
the waiting receiver takes as an opening, so it is IN_FRAME again. -/
def Link.judgeFrame (bits : List Bool) (k : Link) : Link :=
  let data := zeroDelete 0 bits
  let octets := bitsToOctets 69 data
  if data = [] then k
  else if data.length % 8 ≠ 0 ∨ octets.length < 4 ∨ 68 < octets.length then
    { k with lengthError := k.lengthError + 1 }
  else if crc16 octets ≠ 0 then { k with checkError := k.checkError + 1 }
  else k

/-! ## Frames by their unit octet (R160) -/

/-- R160: a frame is taken; IDENTIFY is also taken under unit 31. -/
def State.takes (s : State) (unit : Octet) (isIdentify : Bool) : Bool :=
  if unit = 31 then isIdentify
  else decide (s.partState ≠ .run) || unit.toNat == s.live.globalCfg.unit

/-- R159: a payload has at most 64 octets, or the frame would have been dropped. -/
def fitsFrame (payload : List Octet) : Bool := decide (payload.length ≤ 64)

/-- R160, R161: a taken request is handled, or dropped and counted while the link is in transmission. -/
def State.request (unit : Octet) (isIdentify : Bool) (payload : List Octet) (f : State → State)
    (s : State) : State :=
  s.inFrame fun t =>
    if t.takes unit isIdentify && fitsFrame payload then
      if t.link.tx.isSome then t.setLink fun k => { k with busy := k.busy + 1 } else f t
    else t

/-! ## Responses (R160, R161) -/

/-- R160: a response, with its check. The code of the response to an unknown code of 0x80 or above wraps
(log 44). -/
def responseOctets (unit code : Octet) (status : Status) (payload : List Octet) : List Octet :=
  withCheck ([unit, code + 0x80, status.code] ++ payload)

/-- R161: the response goes into transmission. -/
def State.respond (unit code : Octet) (status : Status) (payload : List Octet) (s : State) : State :=
  s.setLink fun k =>
    { k with tx := some { octets := responseOctets unit code status payload, reload := false } }

/-- R162: the part-state column for the requests that RUN alone answers. -/
def State.answerInRun (unit code : Octet) (f : State → State) (s : State) : State :=
  match s.partState with
  | .run => f s
  | .starting | .safing => s.respond unit code .busy []
  | .unconfigured => s.respond unit code .badRequest []

/-- R162: a payload of the wrong length is answered before the part state is read. -/
def State.withLength (unit code : Octet) (len : Nat) (payload : List Octet) (f : State → State)
    (s : State) : State :=
  if payload.length = len then f s else s.respond unit code .badLength []

/-- R162, section 9.8: the known request codes are 1 to 6. -/
def requestUnknown (code : Octet) : Bool := code == 0 || decide (6 < code.toNat)

/-- An octet of a payload. -/
def octetAt (payload : List Octet) (i : Nat) : Octet := payload.getD i 0

/-! ## IDENTIFY, READ_CONFIG, READ_STATUS, CLEAR_COUNTERS (R162) -/

/-- The unit number, 255 outside RUN. -/
def State.unitNumber (s : State) : Octet :=
  if s.partState = .run then BitVec.ofNat 8 s.live.globalCfg.unit else 255

/-- Section 9.8: kind and index of the failing entry, 255 where there is none. -/
def failingOctets (x : Option (EntryKind × Nat)) : List Octet :=
  match x with
  | none => [255, 255]
  | some y => [BitVec.ofNat 8 y.1.code, BitVec.ofNat 8 y.2]

/-- Section 9.8: the payload of IDENTIFY. -/
def State.identification (s : State) : List Octet :=
  [0x20, 0x41, lowOctet s.identity, highOctet s.identity, BitVec.ofNat 8 s.loadStatus.code.code]
    ++ failingOctets s.loadStatus.entry
    ++ [BitVec.ofNat 8 s.partState.code, s.unitNumber]

/-- R162: the entry that a request names. -/
def namedEntry (payload : List Octet) : Option (EntryKind × Nat) :=
  match EntryKind.ofCode (octetAt payload 0) with
  | none => none
  | some kind =>
    if (octetAt payload 1).toNat < kind.count then some (kind, (octetAt payload 1).toNat) else none

def State.answerReadConfig (unit : Octet) (payload : List Octet) (s : State) : State :=
  match namedEntry payload with
  | none => s.respond unit 2 .badEntry []
  | some x => s.respond unit 2 .ok (entryOctets (s.live.entry x.1 x.2) ++ wordOctets [s.identity])

/-- Section 9.8: the records of READ_STATUS. -/
def State.statusWords (kind : Octet) (i : Nat) (s : State) : Option (List Word) :=
  match kind.toNat with
  | 0 => if i = 0 then some (s.mirror.generation :: s.headerWords) else none
  | 1 => if h : i < 4 then some (s.passRecord ⟨i, h⟩) else none
  | 2 => if h : i < 8 then some (s.outletRecordWords ⟨i, h⟩) else none
  | 3 => if h : i < 12 then some (s.tipRecordWords ⟨i, h⟩) else none
  | 4 => if h : i < 32 then some (s.stationRecord ⟨i, h⟩) else none
  | 5 => if i = 0 then some [s.link.abort, s.link.lengthError, s.link.checkError, s.link.busy]
    else none
  | _ => none

def State.answerReadStatus (unit : Octet) (payload : List Octet) (s : State) : State :=
  match s.statusWords (octetAt payload 0) (octetAt payload 1).toNat with
  | none => s.respond unit 4 .badEntry []
  | some ws => s.respond unit 4 .ok (wordOctets ws)

/-- R76: the stations named, one or all of them (255). -/
def State.clearStations (which : Nat) (s : State) : State :=
  { s with
    stations := Vector.ofFn fun i : Fin 32 =>
      if which = 255 ∨ i.val = which then (s.station i).clearCounters else s.station i }

def State.answerClearCounters (unit : Octet) (payload : List Octet) (s : State) : State :=
  let which := (octetAt payload 0).toNat
  if 31 < which ∧ which ≠ 255 then s.respond unit 5 .badEntry []
  else (s.clearStations which).respond unit 5 .ok []

/-! ## WRITE_CONFIG and RELOAD (R163, R165) -/

/-- Section 9.8: the payload of a BAD_VALUE response. -/
def failureOctets (f : Failure) : List Octet := BitVec.ofNat 8 f.1.code :: failingOctets f.2

/-- R163: the checks of a WRITE_CONFIG on a named entry, and its application. -/
def State.changeEntry (unit : Octet) (kind : EntryKind) (i : Nat) (entry : RawEntry)
    (identity : Word) (s : State) : State :=
  let new := s.live.replace kind i entry
  if s.lockedOut new kind i = false then s.respond unit 3 .notLockedOut []
  else if s.noneStopping new kind i = false then s.respond unit 3 .busy []
  else if s.live.slotsMove new then
    s.respond unit 3 .badValue (failureOctets (.badRegion, some (.global, 0)))
  else
    match new.failure with
    | some f => s.respond unit 3 .badValue (failureOctets f)
    | none => (s.applyConfig kind i entry identity).respond unit 3 .ok (wordOctets [identity])

def State.answerWriteConfig (unit : Octet) (payload : List Octet) (s : State) : State :=
  match namedEntry payload with
  | none => s.respond unit 3 .badEntry []
  | some x =>
    s.changeEntry unit x.1 x.2 (entryOfOctets ((payload.drop 2).take 32)) (payloadWord payload 34)

/-- R165: every configured pass is in LOCKOUT. -/
def State.allLockedOut (s : State) : Bool :=
  (List.finRange 4).all fun p => !(s.live.passCfg p).present || (s.ctl.pass p).state == .lockout

/-- R165: a write that the Upstream Port holds is completed as refused. -/
def State.refuseHeldWrite (s : State) : State :=
  match s.port with
  | none => s
  | some t => if t.write then s.ready else s

/-- R165: a RELOAD is accepted; it takes effect at the end of the response. -/
def State.acceptReload (unit : Octet) (s : State) : State :=
  ({ s.refuseHeldWrite with partState := .starting }).setLink fun k =>
    { k with tx := some { octets := responseOctets unit 6 .ok [], reload := true } }

def State.answerReload (unit : Octet) (s : State) : State :=
  match s.partState with
  | .run => if s.allLockedOut then s.acceptReload unit else s.respond unit 6 .notLockedOut []
  | .starting | .safing => s.respond unit 6 .busy []
  | .unconfigured => s.acceptReload unit

/-! ## The line (R161) -/

/-- R161: the bits that the response puts on the output, delimiters included; none: the output is held
at 1. -/
def State.txLine (s : State) : Option (List Bool) := s.link.tx.map fun r => lineFrame r.octets

/-! ## The commands -/

/-- FRAME_OPENING_DELIMITER (R159). -/
def execFrameOpeningDelimiter (s : State) : Result :=
  quiet (State.setLink fun k => { k with rx := .inFrame }) s

/-- FRAME_ABORT (R159). -/
def execFrameAbort (s : State) : Result :=
  quiet (State.inFrame (State.setLink fun k => { k with abort := k.abort + 1, rx := .waiting })) s

/-- FRAME_DROPPED (R159). -/
def execFrameDropped (bits : List Bool) (s : State) : Result :=
  quiet (State.inFrame (State.setLink (Link.judgeFrame bits))) s

/-- FRAME_DROPPED_AT_69TH_OCTET (R159). -/
def execFrameDroppedAt69thOctet (s : State) : Result :=
  quiet (State.inFrame (State.setLink fun k =>
    { k with lengthError := k.lengthError + 1, rx := .waiting })) s

/-- FRAME_DROPPED_BUSY (R161): a frame to be taken whose closing delimiter arrives in transmission. -/
def execFrameDroppedBusy (unit code : Octet) (payload : List Octet) (s : State) : Result :=
  quiet (State.request unit (code == 1) payload id) s

/-- FRAME_IGNORED (R160): an ignored frame makes no response and is not counted. -/
def execFrameIgnored (_unit _code : Octet) (_payload : List Octet) (s : State) : Result :=
  quiet id s

/-- UNKNOWN_REQUEST (R162). -/
def execUnknownRequest (unit code : Octet) (payload : List Octet) (s : State) : Result :=
  quiet (fun t =>
    if requestUnknown code then
      t.request unit false payload (State.respond unit code .badRequest [])
    else t) s

/-- IDENTIFY (R162); in RUN the response to unit 31 carries the configured unit number (R160). -/
def execIdentify (unit : Octet) (payload : List Octet) (s : State) : Result :=
  quiet (State.request unit true payload fun t =>
    let u := if t.partState = .run then t.unitNumber else unit
    t.withLength u 1 0 payload (State.respond u 1 .ok t.identification)) s

/-- READ_CONFIG (R162). -/
def execReadConfig (unit : Octet) (payload : List Octet) (s : State) : Result :=
  quiet (State.request unit false payload
    (State.withLength unit 2 2 payload
      (State.answerInRun unit 2 (State.answerReadConfig unit payload)))) s

/-- WRITE_CONFIG (R163). -/
def execWriteConfig (unit : Octet) (payload : List Octet) (s : State) : Result :=
  event (State.request unit false payload
    (State.withLength unit 3 36 payload
      (State.answerInRun unit 3 (State.answerWriteConfig unit payload)))) s

/-- READ_STATUS (R162). -/
def execReadStatus (unit : Octet) (payload : List Octet) (s : State) : Result :=
  quiet (State.request unit false payload
    (State.withLength unit 4 2 payload
      (State.answerInRun unit 4 (State.answerReadStatus unit payload)))) s

/-- CLEAR_COUNTERS (R76). -/
def execClearCounters (unit : Octet) (payload : List Octet) (s : State) : Result :=
  quiet (State.request unit false payload
    (State.withLength unit 5 1 payload
      (State.answerInRun unit 5 (State.answerClearCounters unit payload)))) s

/-- RELOAD (R165). -/
def execReload (unit : Octet) (payload : List Octet) (s : State) : Result :=
  quiet (State.request unit false payload
    (State.withLength unit 6 0 payload (State.answerReload unit))) s

/-- R161: the response ends, and a reload takes effect (R158). -/
def State.endResponse (s : State) : State :=
  match s.link.tx with
  | none => s
  | some r => if r.reload then s.reloadEffect else s.setLink fun k => { k with tx := none }

/-- RESPONSE_END (R161). -/
def execResponseEnd (s : State) : Result := quiet State.endResponse s

end Sys2Proof.Machine
end

