-- ==== Sys2Proof/Machine/Timers.lean ====
section
/-! DEFINITION. The Timebase and the expiries of the timers (R1, R10, R13, R16, R45, R70, R82, R117, R119,
R135). An expiry is taken once its limit has passed; before that the command changes nothing (log 1,
log 3). -/

namespace Sys2Proof.Machine

/-- MS_TICK (R1). -/
def execMsTick (s : State) : Result := quiet (fun t => { t with clock := t.clock + 1 }) s

/-- R16: the one-second interval of a configured pass has passed. -/
def dwellDue (e : Env) (p : Fin 4) (c : Ctl) : Option Clock :=
  match (c.pass p).dwellTimer with
  | none => none
  | some since =>
    if (e.passCfg p).present = true ∧ 1000 ≤ elapsed e.clock since then some since else none

def dwellEvent (p : Fin 4) (e : Env) (c : Ctl) : Ctl :=
  match dwellDue e p c with
  | none => c
  | some since => withNews e p (dwellExpires e p since) c

/-- DWELL_INTERVAL_EXPIRY (R16). -/
def execDwellIntervalExpiry (p : Fin 4) (s : State) : Result := event (State.onCtl (dwellEvent p)) s

def disagreementEvent (p : Fin 4) (e : Env) (c : Ctl) : Ctl :=
  if (e.passCfg p).present && disagreementDue e p c then disagreementExpires e p c else c

/-- DISAGREEMENT_EXPIRY (R10). -/
def execDisagreementExpiry (p : Fin 4) (s : State) : Result :=
  event (State.onCtl (disagreementEvent p)) s

/-- CHUTE_NO_FLOW_REPORT (R13). -/
def execChuteNoFlowReport (n : Fin 8) (s : State) : Result :=
  event (State.onCtl fun e c => takeNoFlow e n c) s

/-- R45: the deferral of a slot has run for its limit. -/
def deferralEvent (k : Fin 24) (e : Env) (c : Ctl) : Ctl :=
  match (c.slot k).holder with
  | none => c
  | some d =>
    if d.limit ≤ elapsed e.clock d.since then c.refuseDeferred k d.commit.tag d.reason else c

/-- DEFERRAL_EXPIRY (R45). -/
def execDeferralExpiry (k : Fin 24) (s : State) : Result := event (State.onCtl (deferralEvent k)) s

/-- LATE_TIMER_EXPIRY (R70). -/
def execLateTimerExpiry (i : Fin 32) (s : State) : Result :=
  event (fun t => if t.lateDue i then t.lateExpires i else t) s

/-- DROPOUT_EXPIRY (R82). -/
def execDropoutExpiry (i : Fin 32) (s : State) : Result :=
  event (fun t => if t.dropoutDue i then t.dropoutExpires i else t) s

def openTimeoutEvent (n : Fin 8) (e : Env) (c : Ctl) : Ctl :=
  if (c.outlet n).timerDue .openT (e.outletCfg n).openTimeout e.clock then
    timeoutEvent e n .gateNoOpen .gateNoOpen c
  else c

/-- OPEN_TIMEOUT (R117). -/
def execOpenTimeout (n : Fin 8) (s : State) : Result := event (State.onCtl (openTimeoutEvent n)) s

def flowStartTimeoutEvent (n : Fin 8) (e : Env) (c : Ctl) : Ctl :=
  if (c.outlet n).timerDue .flowStart (e.outletCfg n).flowStartTimeout e.clock then
    noFlowTimeout e n c
  else c

/-- FLOW_START_TIMEOUT (R117). -/
def execFlowStartTimeout (n : Fin 8) (s : State) : Result :=
  event (State.onCtl (flowStartTimeoutEvent n)) s

def cycleDrawTimeoutEvent (n : Fin 8) (e : Env) (c : Ctl) : Ctl :=
  if (c.outlet n).timerDue .cycleDraw ((e.outletCfg n).cycleDrawTimeout * 1000) e.clock then
    timeoutEvent e n .drawTimeout .drawTimeout c
  else c

/-- CYCLE_DRAW_TIMEOUT (R117). -/
def execCycleDrawTimeout (n : Fin 8) (s : State) : Result :=
  event (State.onCtl (cycleDrawTimeoutEvent n)) s

def indexTimeoutEvent (n : Fin 8) (e : Env) (c : Ctl) : Ctl :=
  if (c.outlet n).timerDue .index ((e.outletCfg n).indexTimeout * 1000) e.clock then
    endOrder e n .indexTimeout c
  else c

/-- INDEX_TIMEOUT (R117). -/
def execIndexTimeout (n : Fin 8) (s : State) : Result := event (State.onCtl (indexTimeoutEvent n)) s

def closeTimeoutEvent (n : Fin 8) (e : Env) (c : Ctl) : Ctl :=
  if (c.outlet n).timerDue .close (e.outletCfg n).closeTimeout e.clock then faultOutlet e n c else c

/-- CLOSE_TIMEOUT (R119). -/
def execCloseTimeout (n : Fin 8) (s : State) : Result := event (State.onCtl (closeTimeoutEvent n)) s

/-- R135, R128: the expiry, and the deferred PERMITs that read the state it leaves. -/
def parkTimeoutEvent (t : Fin 12) (e : Env) (c : Ctl) : Ctl :=
  if parkDue e t c then settleTips e (e.tipCfg t).pass (parkExpires e t c) else c

/-- PARK_TIMEOUT (R135). -/
def execParkTimeout (t : Fin 12) (s : State) : Result := event (State.onCtl (parkTimeoutEvent t)) s

end Sys2Proof.Machine
end

