-- ==== Sys2Proof/Machine/Dispatch.lean ====
section
/-! DEFINITION. One arm per command. -/

namespace Sys2Proof.Machine

def exec (i : Instr) (s : State) : Host.Outcome State Fault Refusal :=
  match i with
  | .fullReset => Sys2Proof.Machine.execFullReset s
  | .fullResetEnd => Sys2Proof.Machine.execFullResetEnd s
  | .msTick => Sys2Proof.Machine.execMsTick s
  | .configLoadComplete image => Sys2Proof.Machine.execConfigLoadComplete image s
  | .safingSetpointRead => Sys2Proof.Machine.execSafingSetpointRead s
  | .safingEnd => Sys2Proof.Machine.execSafingEnd s
  | .upstreamRead addr tag lanes => Sys2Proof.Machine.execUpstreamRead addr tag lanes s
  | .passThroughWrite addr tag lanes data => Sys2Proof.Machine.execPassThroughWrite addr tag lanes data s
  | .refusedWrite addr tag lanes data => Sys2Proof.Machine.execRefusedWrite addr tag lanes data s
  | .stationPayloadWrite slot word value => Sys2Proof.Machine.execStationPayloadWrite slot word value s
  | .closingWordWrite slot value => Sys2Proof.Machine.execClosingWordWrite slot value s
  | .setpointWrite slot word value => Sys2Proof.Machine.execSetpointWrite slot word value s
  | .commitBadCode slot code tag => Sys2Proof.Machine.execCommitBadCode slot code tag s
  | .close outlet tag => Sys2Proof.Machine.execClose outlet tag s
  | .draw outlet tag => Sys2Proof.Machine.execDraw outlet tag s
  | .adjust outlet tag => Sys2Proof.Machine.execAdjust outlet tag s
  | .stopAfter outlet tag => Sys2Proof.Machine.execStopAfter outlet tag s
  | .forceClose outlet tag => Sys2Proof.Machine.execForceClose outlet tag s
  | .withdraw tip tag => Sys2Proof.Machine.execWithdraw tip tag s
  | .permit tip tag => Sys2Proof.Machine.execPermit tip tag s
  | .boomWork tip tag => Sys2Proof.Machine.execBoomWork tip tag s
  | .boomPark tip tag => Sys2Proof.Machine.execBoomPark tip tag s
  | .lockout pass tag => Sys2Proof.Machine.execLockout pass tag s
  | .run pass tag => Sys2Proof.Machine.execRun pass tag s
  | .releaseHangup pass tag => Sys2Proof.Machine.execReleaseHangup pass tag s
  | .declareWet pass tag => Sys2Proof.Machine.execDeclareWet pass tag s
  | .clearWet pass tag => Sys2Proof.Machine.execClearWet pass tag s
  | .emptyOut pass tag => Sys2Proof.Machine.execEmptyOut pass tag s
  | .rebaseFromLevel pass tag => Sys2Proof.Machine.execRebaseFromLevel pass tag s
  | .setInventory pass tag => Sys2Proof.Machine.execSetInventory pass tag s
  | .readIndexWrite value => Sys2Proof.Machine.execReadIndexWrite value s
  | .arbiterGrant => Sys2Proof.Machine.execArbiterGrant s
  | .drainerPlaceGroup => Sys2Proof.Machine.execDrainerPlaceGroup s
  | .journalRecordWrite => Sys2Proof.Machine.execJournalRecordWrite s
  | .gapRecordWrite => Sys2Proof.Machine.execGapRecordWrite s
  | .journalControlZeroPlace => Sys2Proof.Machine.execJournalControlZeroPlace s
  | .mirrorGroupPlace => Sys2Proof.Machine.execMirrorGroupPlace s
  | .mirrorPeriodExpiry => Sys2Proof.Machine.execMirrorPeriodExpiry s
  | .dwellIntervalExpiry pass => Sys2Proof.Machine.execDwellIntervalExpiry pass s
  | .disagreementExpiry pass => Sys2Proof.Machine.execDisagreementExpiry pass s
  | .chuteNoFlowReport outlet => Sys2Proof.Machine.execChuteNoFlowReport outlet s
  | .deferralExpiry slot => Sys2Proof.Machine.execDeferralExpiry slot s
  | .lateTimerExpiry station => Sys2Proof.Machine.execLateTimerExpiry station s
  | .dropoutExpiry station => Sys2Proof.Machine.execDropoutExpiry station s
  | .openTimeout outlet => Sys2Proof.Machine.execOpenTimeout outlet s
  | .flowStartTimeout outlet => Sys2Proof.Machine.execFlowStartTimeout outlet s
  | .cycleDrawTimeout outlet => Sys2Proof.Machine.execCycleDrawTimeout outlet s
  | .indexTimeout outlet => Sys2Proof.Machine.execIndexTimeout outlet s
  | .closeTimeout outlet => Sys2Proof.Machine.execCloseTimeout outlet s
  | .parkTimeout tip => Sys2Proof.Machine.execParkTimeout tip s
  | .frameAbort => Sys2Proof.Machine.execFrameAbort s
  | .frameDropped bits => Sys2Proof.Machine.execFrameDropped bits s
  | .frameDroppedBusy unit code payload => Sys2Proof.Machine.execFrameDroppedBusy unit code payload s
  | .frameIgnored unit code payload => Sys2Proof.Machine.execFrameIgnored unit code payload s
  | .unknownRequest unit code payload => Sys2Proof.Machine.execUnknownRequest unit code payload s
  | .identify unit payload => Sys2Proof.Machine.execIdentify unit payload s
  | .readConfig unit payload => Sys2Proof.Machine.execReadConfig unit payload s
  | .writeConfig unit payload => Sys2Proof.Machine.execWriteConfig unit payload s
  | .readStatus unit payload => Sys2Proof.Machine.execReadStatus unit payload s
  | .clearCounters unit payload => Sys2Proof.Machine.execClearCounters unit payload s
  | .reload unit payload => Sys2Proof.Machine.execReload unit payload s
  | .responseEnd => Sys2Proof.Machine.execResponseEnd s
  | .frameOpeningDelimiter => Sys2Proof.Machine.execFrameOpeningDelimiter s
  | .frameDroppedAt69thOctet => Sys2Proof.Machine.execFrameDroppedAt69thOctet s

end Sys2Proof.Machine
end

