-- ==== Sys2Proof/Safety.lean ====
section
/-! DEFINITION. The terms that claims use: when the part takes a command, how a commit is answered, what
stays the same, and the invariants that a safe run keeps. -/

namespace Sys2Proof.Machine

/-! ## When a command is taken -/

/-- The bus can present a write that is handled: no reset, RUN, and no transaction held (R29, R31). -/
abbrev State.takesWrites (s : State) : Prop :=
  s.resetAsserted = false ∧ s.port = none ∧ s.partState = .run

/-- The urgent queue also has the 12 free entries of R37 and R41. -/
abbrev State.takesCommits (s : State) : Prop := s.takesWrites ∧ 12 ≤ s.urgentFree

/-- A request frame ends, is to be taken, and finds no response in transmission (R159 to R161). -/
abbrev State.takesRequest (s : State) (unit : Octet) (payload : List Octet) : Prop :=
  s.resetAsserted = false ∧ s.link.rx = .inFrame ∧ s.link.tx = none ∧ payload.length ≤ 64
    ∧ unit ≠ 31 ∧ (s.partState = .run → unit.toNat = s.live.globalCfg.unit)

/-! ## How a commit is answered (R41, R42, R46) -/

/-- The commit record that a demand write forms. -/
def State.commitOf (s : State) (k : Fin 24) (code tag : Octet) : Commit :=
  (s.ctl.slot k).formCommit (joinWord tag code)

/-- The marks that a commit finds once a deferred commit has been superseded. -/
def State.marksLeft (s : State) (k : Fin 24) : WriteBack :=
  if (s.ctl.slot k).holder.isSome then WriteBack.empty else (s.ctl.slot k).wb

/-- R46: the group of a superseded commit, if there is one. -/
def State.supersededGroups (s : State) (k : Fin 24) : List (List Entry) :=
  match (s.ctl.slot k).holder with
  | none => []
  | some d =>
    [markedEntries (s.commandBase k)
      { (s.ctl.slot k).wb with
        verdict := some (joinWord d.commit.tag Verdict.superseded.code), detail := some 0 }.words]

/-- R42: the six words of an accepted or clamped commit. -/
def State.acceptedGroup (s : State) (k : Fin 24) (sp : SetPoints) (code tag : Octet) (v : Verdict)
    (detail : Octet) : List Entry :=
  entriesAt (s.commandBase k)
    [sp.a, sp.b, sp.c, joinWord tag code, joinWord tag v.code, joinWord 0 detail]

/-- R42: the words of a refused or deferred commit: what was marked, with verdict and detail. -/
def State.verdictGroup (s : State) (k : Fin 24) (tag : Octet) (v : Verdict) (r : Reason) :
    List Entry :=
  markedEntries (s.commandBase k)
    { s.marksLeft k with
      verdict := some (joinWord tag v.code), detail := some (joinWord 0 r.code) }.words

/-- The commit write is complete, and `g` is the last group placed. -/
def State.answered (s t : State) (k : Fin 24) (g : List Entry) : Prop :=
  t.port = none ∧ t.busReady = true ∧ t.urgent = s.urgent ++ s.supersededGroups k ++ [g]

/-- Accepted or clamped: the record goes out whole, staging is emptied, the copy and the tag move on. -/
def State.acceptedWith (s t : State) (k : Fin 24) (sp : SetPoints) (code tag : Octet) (v : Verdict)
    (detail : Octet) : Prop :=
  s.answered t k (s.acceptedGroup k sp code tag v detail) ∧
    t.ctl.slot k =
      { staged := Staged.empty, copy := sp, wb := WriteBack.empty, lastTag := tag, holder := none }

/-- Refused: the verdict and the reason go out; no pass, outlet, tip point or journal entry changes. -/
def State.refusedWith (s t : State) (k : Fin 24) (tag : Octet) (r : Reason) : Prop :=
  s.answered t k (s.verdictGroup k tag .refused r) ∧
    t.ctl =
      s.ctl.setSlot k
        { s.ctl.slot k with staged := Staged.empty, wb := WriteBack.empty, holder := none }

/-- Deferred at the present clock value (R43). -/
def State.deferredWith (s t : State) (k : Fin 24) (cm : Commit) (r : Reason) (limit : Nat) : Prop :=
  s.answered t k (s.verdictGroup k cm.tag .deferred r) ∧
    t.ctl =
      s.ctl.setSlot k
        { s.ctl.slot k with
          staged := Staged.empty, wb := WriteBack.empty
          holder := some { commit := cm, since := s.clock, reason := r, limit := limit } }

/-- The reason of the first check of a table that fails. -/
def firstFailing (checks : List (Bool × Reason)) : Option Reason :=
  (checks.find? fun x => x.1).map fun x => x.2

/-! ## Frames over commands -/

/-- The slot of a commit command. -/
def commitSlot : Instr → Option (Fin 24)
  | .commitBadCode k _ _ => some k
  | .close n _ | .draw n _ | .adjust n _ | .stopAfter n _ | .forceClose n _ => some (outletSlot n)
  | .withdraw t _ | .permit t _ | .boomWork t _ | .boomPark t _ => some (tipSlot t)
  | .lockout p _ | .run p _ | .releaseHangup p _ | .declareWet p _ | .clearWet p _ | .emptyOut p _
  | .rebaseFromLevel p _ | .setInventory p _ => some (passSlot p)
  | _ => none

/-- The demand word of a commit command: its order code (section 9.3) under its tag. -/
def commitWord : Instr → Option Word
  | .commitBadCode _ code tag => some (joinWord tag code)
  | .close _ tag | .withdraw _ tag | .lockout _ tag => some (joinWord tag 0)
  | .draw _ tag | .permit _ tag | .run _ tag => some (joinWord tag 1)
  | .adjust _ tag | .boomWork _ tag | .releaseHangup _ tag => some (joinWord tag 2)
  | .stopAfter _ tag | .boomPark _ tag | .declareWet _ tag => some (joinWord tag 3)
  | .forceClose _ tag | .clearWet _ tag => some (joinWord tag 4)
  | .emptyOut _ tag => some (joinWord tag 5)
  | .rebaseFromLevel _ tag => some (joinWord tag 6)
  | .setInventory _ tag => some (joinWord tag 7)
  | _ => none

/-- `i` is the first member of its kind that a check finds bad. -/
abbrev firstBad {n : Nat} (ok : Fin n → Bool) (i : Fin n) : Prop :=
  ok i = false ∧ ∀ j, j < i → ok j = true

/-- The timer expiries and reports that only the controllers take. -/
def isControllerEvent : Instr → Bool
  | .dwellIntervalExpiry _ | .disagreementExpiry _ | .chuteNoFlowReport _ | .deferralExpiry _
  | .openTimeout _ | .flowStartTimeout _ | .cycleDrawTimeout _ | .indexTimeout _ | .closeTimeout _
  | .parkTimeout _ => true
  | _ => false

/-- No byte of image memory differs outside the words stored. -/
def Memory.sameOutside (words : List Entry) (m m' : List Host.Cell) : Prop :=
  ∀ a, (∀ e ∈ words, a ≠ 2 * e.1.toNat ∧ a ≠ 2 * e.1.toNat + 1) →
    Memory.read m' a = Memory.read m a

/-! ## Invariants -/

/-- Image memory keeps its canonical form. -/
def State.memoryCanonical (s : State) : Prop := Memory.wf s.mem

/-- R49, R50, R51, R144: the queues, the pending list and the wait counts keep their bounds. The bounds
of the bulk queue rest on what the stages of the start-up have placed so far (R156, R157). -/
structure State.QueuesBounded (s : State) : Prop where
  urgent : s.urgentCount ≤ 32
  bulk : s.bulk.length ≤ 16
  list : s.ctl.journal.list.length ≤ 8
  urgentWait : s.urgentWait ≤ 16
  bulkWait : s.bulkWait ≤ 16
  loading : s.loading = true →
    s.partState = .starting ∧ s.safing = .off ∧ s.bulk = [] ∧ s.bases = none
      ∧ s.ctl.journal.zeroDue = []
  reading : ∀ k w rest, s.safing = .reads k w rest →
    s.partState = .safing ∧ s.ctl.journal.zeroDue = [] ∧ (s.bulk = [] ∨ s.bulk.length = 9)

/-- The tip point is OPEN or BREAKING. -/
def TipState.given : TipState → Bool
  | .opened | .breaking => true
  | .closed | .parking | .fault => false

/-- R14, R23, R125, R127, R130: what keeps trucks, breakers and a hung pass apart. -/
structure State.FallPathsClear (s : State) : Prop where
  /-- a tip point that is not configured is neither OPEN nor BREAKING -/
  configured : ∀ t, (s.ctl.tip t).state.given = true → (s.live.tipCfg t).present = true
  /-- OPEN only over a RUNNING pass -/
  openRunning : ∀ t, (s.ctl.tip t).state = .opened →
    (s.ctl.pass (s.live.tipCfg t).pass).state = .running
  /-- BREAKING never over a pass in LOCKOUT -/
  breakingAllowed : ∀ t, (s.ctl.tip t).state = .breaking →
    (s.ctl.pass (s.live.tipCfg t).pass).state ≠ .lockout
  /-- no tip point is OPEN while one in its fall relation is BREAKING -/
  fallPath : ∀ t u, s.live.related t u = true → (s.ctl.tip t).state = .breaking →
    (s.ctl.tip u).state ≠ .opened
  /-- while the image is read no tip point is configured -/
  loading : s.loading = true →
    s.partState = .starting ∧ ∀ t, (s.live.tipCfg t).present = false

/-- R155: the station that a present pass names as its LEVEL station is of kind LEVEL. -/
abbrev Live.LevelsNamed (l : Live) : Prop :=
  ∀ i p, l.passOfStation i = some p → (l.stationCfg i).kind = some .level

/-- R14, R23, R115: an order runs only on a configured outlet of a RUNNING pass. -/
structure State.OrdersRun (s : State) : Prop where
  active : ∀ n, (s.ctl.outlet n).state.active = true →
    (s.live.outletCfg n).present = true ∧
      (s.ctl.pass (s.live.outletCfg n).pass).state = .running
  /-- while the image is read no outlet is configured -/
  loading : s.loading = true →
    s.partState = .starting ∧ ∀ n, (s.live.outletCfg n).present = false

end Sys2Proof.Machine
end

