-- ==== Sys2Proof/WellFormed.lean ====
section
/-! DEFINITION. What a command must satisfy beyond the types of its operands to be one that the
outside can give. The machine gives every command a meaning, well formed or not (log 1, log 32). -/

namespace Sys2Proof

/-- R153, R156: a read that answers gives 1 834 octets. -/
def imageLengthOk (image : Option (List Octet)) : Bool :=
  match image with
  | none => true
  | some octets => octets.length == 1834

/-- R160: a frame's payload is 0 to 64 octets. -/
def payloadOk (payload : List Octet) : Bool :=
  decide (payload.length ≤ 64)

/-- The number of order codes of a command slot (section 9.3): outlet 0 to 4, tip point 0 to 3, pass
0 to 7. -/
def orderCodes (slot : Fin 24) : Nat :=
  if slot.val < 8 then 5 else if slot.val < 20 then 4 else 8

/-- R167: a code outside the slot kind's list. -/
def badCodeOk (slot : Fin 24) (code : Octet) : Bool :=
  decide (orderCodes slot ≤ code.toNat)

/-- R162: the request codes 1 to 6 are known (section 9.8). -/
def unknownCodeOk (code : Octet) : Bool :=
  code == 0 || decide (6 < code.toNat)

/-- R159: between delimiters no run of six 1 bits stands on the line (six end a frame, seven abort it). -/
def lineBitsOk : Nat → List Bool → Bool
  | _, [] => true
  | n, true :: rest => decide (n < 5) && lineBitsOk (n + 1) rest
  | _, false :: rest => lineBitsOk 0 rest

def Instr.wellFormed : Instr → Bool
  | .configLoadComplete image => imageLengthOk image
  | .commitBadCode slot code _ => badCodeOk slot code
  | .frameDropped bits => lineBitsOk 0 bits
  | .frameDroppedBusy _ _ payload => payloadOk payload
  | .frameIgnored _ _ payload => payloadOk payload
  | .unknownRequest _ code payload => unknownCodeOk code && payloadOk payload
  | .identify _ payload => payloadOk payload
  | .readConfig _ payload => payloadOk payload
  | .writeConfig _ payload => payloadOk payload
  | .readStatus _ payload => payloadOk payload
  | .clearCounters _ payload => payloadOk payload
  | .reload _ payload => payloadOk payload
  | .fullReset | .fullResetEnd | .msTick | .safingSetpointRead | .safingEnd
  | .upstreamRead .. | .passThroughWrite .. | .refusedWrite .. | .stationPayloadWrite ..
  | .closingWordWrite .. | .setpointWrite .. | .close .. | .draw .. | .adjust .. | .stopAfter ..
  | .forceClose .. | .withdraw .. | .permit .. | .boomWork .. | .boomPark .. | .lockout .. | .run ..
  | .releaseHangup .. | .declareWet .. | .clearWet .. | .emptyOut .. | .rebaseFromLevel ..
  | .setInventory .. | .readIndexWrite .. | .arbiterGrant | .drainerPlaceGroup
  | .journalRecordWrite | .gapRecordWrite | .journalControlZeroPlace | .mirrorGroupPlace
  | .mirrorPeriodExpiry | .dwellIntervalExpiry .. | .disagreementExpiry .. | .chuteNoFlowReport ..
  | .deferralExpiry .. | .lateTimerExpiry .. | .dropoutExpiry .. | .openTimeout ..
  | .flowStartTimeout .. | .cycleDrawTimeout .. | .indexTimeout .. | .closeTimeout ..
  | .parkTimeout .. | .frameAbort | .responseEnd | .frameOpeningDelimiter
  | .frameDroppedAt69thOctet => true

end Sys2Proof
end

