-- ==== Sys2Proof/Certificates/Slice0/Obligations.lean ====
section
/-! DEFINITION. The statements for the provers, in the order of OBLIGATIONS.json: the queue and resets,
start-up, the bus, the memory side, records, commits, timers, the link, and the whole machine. -/

open Sys2Proof Sys2Proof.Machine

/-! ## The queue, the resets and the clock -/

/-- A step executes the command at the front of the queue on the state with the rest of the queue, and
the part idles on an empty queue (the queue is the model's: log 2). -/
def Obligations.StepRunsFrontCommand : Prop :=
  ∀ (c : Instr) (rest : List Instr) (s : State),
    step { s with pending := c :: rest } = exec c { s with pending := rest } ∧
    step { s with pending := [] } = .next { s with pending := [] }

/-- No command stops the part: every one answers a next state and leaves the waiting queue alone (a command
whose event cannot happen has no effect: log 1). -/
def Obligations.EveryCommandCompletes : Prop :=
  ∀ (c : Instr) (s : State), ∃ t, exec c s = .next t ∧ t.pending = s.pending

/-- R3, R55, R92, R122, R141, R144, R158: what a full reset, and a reload at the end of its response (R158),
set in the records of every pass, station, outlet and tip point, and that no journal record is pending after
either (R141, R144). That no chute no-flow report waits and that the permit count is 0 is the model's
(log 10, log 28). -/
def Obligations.ResetAndReloadSetRecords : Prop :=
  ∀ s t : State,
    ((s.resetAsserted = false ∧ exec .fullReset s = .next t) ∨
      (s.resetAsserted = true ∧ exec .fullResetEnd s = .next t) ∨
      (s.resetAsserted = false ∧ (∃ octets, s.link.tx = some { octets := octets, reload := true })
        ∧ exec .responseEnd s = .next t)) →
    (∀ p, t.ctl.pass p =
      { state := .lockout, inventory := 0, settled := false, levelFill := 0, levelValid := false
        high := 0, low := 0, cls := .unknown, accumulator := 0, reference := 0, cause := .none
        hostWet := false, sensorWet := .unknown, wetActive := false, dwell := 0, dwellTimer := none
        loosened := 0, grant := false, disagree := none, reported := false }) ∧
    (∀ i, t.station i =
      { check := .correcting, order := .hunt, last := 0, held := none, late := none, healthy := false
        accepted := 0, events := Vector.replicate 10 0, rollover := 0 } ∧
      (t.station i).freshness = .stale) ∧
    (∀ n, t.ctl.outlet n =
      { state := .idle, tag := none, orderedTarget := 0, orderedOpening := 0, workingTarget := 0
        workingOpening := 0, remaining := 0, completed := 0, latchTarget := none, latchCycles := none
        latchOpening := none, stopAfter := false, grantHeld := false, snapshot := 0, highMark := 0
        deliveredCycle := 0, deliveredOrder := 0, startIdentity := 0, departureSeen := false
        startPending := false, lastRecord := none, stopReason := none, lastFault := .none
        timer := none, noFlowReports := [] }) ∧
    (∀ x, t.ctl.tip x =
      { state := .parking, remaining := 0, permitCount := 0, park := .waiting, lastCounter := 0
        known := false, substitutes := 0 }) ∧
    t.ctl.journal.list = []

/-- R1, R52, R147, R152, R158, R159: the assertion of the reset input completes the transaction held, clears
the blocks, the configuration table (R152) and the link (R159), asserts the attention line (R147) and keeps
image memory; its release leaves the part in STARTING with the clock at 0. A millisecond adds 1 to the clock,
which wraps, and changes nothing else. The octets of the table beside the present flags (log 8) and the last
tag 0 of a slot (log 9) are the model's. The attention line is asserted outside RUN, and in RUN while a record
is unread, or is written but for its own command (the latter is the model's: log 45). -/
def Obligations.ResetAndClock : Prop :=
  (∀ s : State,
     (s.resetAsserted = false →
       ∃ t, exec .fullReset s = .next t ∧ t.resetAsserted = true ∧ t.mem = s.mem ∧ t.port = none ∧
         t.urgent = [] ∧ t.bulk = [] ∧ t.ctl.slots = Vector.replicate 24 CommandSlot.reset ∧
         t.stationSlots = Vector.replicate 32 StationSlot.reset ∧ t.live = Live.reset ∧
         t.bases = none ∧ t.link = Link.reset ∧ t.attention = true ∧
         (∀ x, s.port = some x → t.busReady = true ∧
           (x.write = false → t.busData = Memory.readWord s.mem x.addr))) ∧
     (s.resetAsserted = true →
       ∃ t, exec .fullResetEnd s = .next t ∧ t.resetAsserted = false ∧ t.clock = 0 ∧
         t.partState = .starting ∧ t.loading = true ∧ t.startCause = .fullReset ∧ t.mem = s.mem ∧
         t.port = none ∧ t.urgent = [] ∧ t.bulk = [] ∧ t.live = Live.reset ∧ t.bases = none)) ∧
  (∀ s : State, s.resetAsserted = false →
     exec .msTick s = .next { s with clock := s.clock + 1 } ∧
     (s.clock = 4294967295 → s.clock + 1 = 0)) ∧
  (∀ s : State,
     let j := s.ctl.journal
     let n := s.regions.records
     let unread := (j.w + n - j.r) % n
     let due := (j.list ≠ [] ∨ 0 < j.lost) ∧ unread + 2 ≤ n ∧
       s.bulk.length + 9 + 2 * j.zeroDue.length ≤ 16
     (s.resetAsserted = true ∨ s.partState ≠ .run → s.attention = true) ∧
     (s.resetAsserted = false → s.partState = .run → (s.attention = true ↔ 0 < unread ∨ due)))

/-! ## Start-up -/

/-- R16, R156, R157: no image, or one that fails a check of R154, leaves the part UNCONFIGURED with the
finding, and nothing else changes but the drainer's position, which is the model's (log 26); a good image
becomes the live table with its identity and regions, the dwell interval of every configured pass starts
(R16), and SAFING begins with its first read, or where no slot is configured with its safe writes (R157). An
image has 1 834 octets (log 32). -/
def Obligations.LoadCompletes : Prop :=
  (∀ s : State, s.resetAsserted = false → s.partState = .starting → s.loading = true →
     exec (.configLoadComplete none) s = .next
       ({ s with
          partState := .unconfigured, loading := false
          loadStatus := { code := .noImage, entry := none } } : State).seek ∧
     ∀ (image : List Octet) (f : Failure), image.length = 1834 → imageFailure image = some f →
       exec (.configLoadComplete (some image)) s = .next
         ({ s with
            partState := .unconfigured, loading := false
            loadStatus := { code := f.1, entry := f.2 } } : State).seek) ∧
  (∀ (s : State) (image : List Octet), s.resetAsserted = false → s.partState = .starting →
     s.loading = true → image.length = 1834 → imageFailure image = none →
     ∃ t, exec (.configLoadComplete (some image)) s = .next t ∧ t.partState = .safing ∧
       t.loading = false ∧ t.live = imageLive image ∧ t.identity = payloadWord image 4 ∧
       t.loadStatus = { code := .ok, entry := none } ∧ t.bases = some (imageLive image).regions ∧
       t.mem = s.mem ∧ t.urgent = s.urgent ∧
       (∀ p, (t.ctl.pass p).dwellTimer =
         if ((imageLive image).passCfg p).present then some s.clock
         else (s.ctl.pass p).dwellTimer) ∧
       (∀ k w rest, (imageLive image).safingReads = (k, w) :: rest → t.safing = .reads k w rest ∧
         t.bulk = s.bulk) ∧
       ((imageLive image).safingReads = [] → t.safing = .writes ∧
         t.bulk = s.bulk ++ entriesAt (imageLive image).regions.control [0, 0]))

/-- R154, R155: the checks of the length, the check, the format number, the global entry, the regions, the
references, the marks and the ranges are made in this order, and the first that fails gives the code; an
image in which no check fails has a global entry, regions and marks in order. What the regions and the
references (R155), the marks and the ranges ask of an entry is written out. The entry that a failure is
reported at is the model's reading (log 22). -/
def Obligations.LoadChecksInOrder : Prop :=
  (∀ image : List Octet,
    let g := globalCfg (imageEntry image 0)
    (payloadWord image 2 ≠ 1834 → imageFailure image = some (.badLength, none)) ∧
    (payloadWord image 2 = 1834 →
      (natToOctets 4 (crc32 (image.take 1830)).toNat ≠ image.drop 1830 →
        imageFailure image = some (.badCheck, none)) ∧
      (natToOctets 4 (crc32 (image.take 1830)).toNat = image.drop 1830 →
        (payloadWord image 0 ≠ 1 → imageFailure image = some (.badFormat, none)) ∧
        (payloadWord image 0 = 1 →
          (g.present = false → imageFailure image = some (.badFormat, some (.global, 0))) ∧
          (g.present = true → g.regionsOk = false →
            imageFailure image = some (.badRegion, some (.global, 0))) ∧
          (imageFailure image = none →
            g.present = true ∧ g.regionsOk = true ∧
            (∀ p, ((imageLive image).passCfg p).present = true →
              ((imageLive image).passCfg p).cushionMark < ((imageLive image).passCfg p).highMark ∧
              ((imageLive image).passCfg p).highMark < ((imageLive image).passCfg p).fullMark ∧
              ((imageLive image).passCfg p).fullMark ≤ ((imageLive image).passCfg p).capacity ∧
              ((imageLive image).passCfg p).releaseMark < ((imageLive image).passCfg p).fullMark)))))) ∧
  (∀ image : List Octet,
    let l := imageLive image
    let marksOk (p : Fin 4) : Bool :=
      let k := l.passCfg p
      decide (k.present = true → k.cushionMark < k.highMark ∧ k.highMark < k.fullMark ∧
        k.fullMark ≤ k.capacity ∧ k.releaseMark < k.fullMark)
    let fails (code : LoadCode) (kind : EntryKind) (i : Nat) :=
      imageFailure image = some (code, some (kind, i))
    payloadWord image 2 = 1834 → natToOctets 4 (crc32 (image.take 1830)).toNat = image.drop 1830 →
    payloadWord image 0 = 1 → l.globalCfg.present = true → l.globalCfg.regionsOk = true →
    (∀ i, firstBad l.passRefsOk i → fails .badReference .pass i.val) ∧
    ((∀ i, l.passRefsOk i = true) →
      (∀ i, firstBad l.outletRefsOk i → fails .badReference .outlet i.val) ∧
      ((∀ i, l.outletRefsOk i = true) →
        (∀ i, firstBad l.tipRefsOk i → fails .badReference .tipPoint i.val) ∧
        ((∀ i, l.tipRefsOk i = true) →
          (∀ i, firstBad l.stationRefsOk i → fails .badReference .station i.val) ∧
          ((∀ i, l.stationRefsOk i = true) →
            (∀ i, firstBad marksOk i → fails .badMarks .pass i.val) ∧
            ((∀ i, marksOk i = true) →
              (l.globalCfg.rangesOk = false → fails .badRange .global 0) ∧
              (l.globalCfg.rangesOk = true →
                (∀ i, firstBad (fun p => (l.passCfg p).rangesOk) i → fails .badRange .pass i.val) ∧
                ((∀ i, (l.passCfg i).rangesOk = true) →
                  (∀ i, firstBad (fun n => (l.outletCfg n).rangesOk) i →
                    fails .badRange .outlet i.val) ∧
                  ((∀ i, (l.outletCfg i).rangesOk = true) →
                    (∀ i, firstBad (fun t => (l.tipCfg t).rangesOk) i →
                      fails .badRange .tipPoint i.val) ∧
                    ((∀ i, (l.tipCfg i).rangesOk = true) →
                      (∀ i, firstBad (fun j => (l.stationCfg j).rangesOk) i →
                        fails .badRange .station i.val) ∧
                      ((∀ i, (l.stationCfg i).rangesOk = true) →
                        imageFailure image = none))))))))))) ∧
  (∀ l : Live,
    let named (i : Nat) (kind : StationKind) :=
      ∃ j : Fin 32, j.val = i ∧ (l.stationCfg j).present = true ∧ (l.stationCfg j).kind = some kind
    (∀ p, l.passRefsOk p = true ↔ ((l.passCfg p).present = true →
      named (l.passCfg p).levelStation .level ∧
      (∀ q, q ≠ p → (l.passCfg q).present = true →
        (l.passCfg q).levelStation ≠ (l.passCfg p).levelStation) ∧
      bitCount (l.passCfg p).outletList ≤ 3 ∧ bitCount (l.passCfg p).tipList ≤ 4 ∧
      (∀ n : Fin 8, (l.passCfg p).outletList.getLsbD n.val = true → (l.outletCfg n).present = true →
        (l.outletCfg n).pass = p) ∧
      (∀ t : Fin 12, (l.passCfg p).tipList.getLsbD t.val = true → (l.tipCfg t).present = true →
        (l.tipCfg t).pass = p))) ∧
    (∀ n, l.outletRefsOk n = true ↔ ((l.outletCfg n).present = true →
      (l.passCfg (l.outletCfg n).pass).present = true ∧ named (l.outletCfg n).station .outlet ∧
      (l.passCfg (l.outletCfg n).pass).outletList.getLsbD n.val = true ∧
      ∀ m, m ≠ n → (l.outletCfg m).present = true →
        (l.outletCfg m).station ≠ (l.outletCfg n).station)) ∧
    (∀ t, l.tipRefsOk t = true ↔ ((l.tipCfg t).present = true →
      (l.passCfg (l.tipCfg t).pass).present = true ∧ named (l.tipCfg t).station .tip ∧
      (l.passCfg (l.tipCfg t).pass).tipList.getLsbD t.val = true ∧
      (∀ u, u ≠ t → (l.tipCfg u).present = true → (l.tipCfg u).station ≠ (l.tipCfg t).station) ∧
      bitCount (l.tipCfg t).fallSet ≤ 3 ∧ (l.tipCfg t).fallSet.getLsbD t.val = false ∧
      (∀ u : Fin 12, (l.tipCfg t).fallSet.getLsbD u.val = true → (l.tipCfg u).present = true →
        (l.tipCfg u).pass = (l.tipCfg t).pass))) ∧
    (∀ i, l.stationRefsOk i = true ↔ ((l.stationCfg i).present = true →
      ∀ j, j ≠ i → (l.stationCfg j).present = true → (l.stationCfg j).slot ≠ (l.stationCfg i).slot))) ∧
  (∀ g : GlobalCfg,
    let area : Fin 5 → Nat × Nat :=
      fun i => #v[(g.stationBase, 384), (g.commandBase, 144), (g.controlBase, 2),
        (g.ringBase, 8 * g.journalSize), (g.mirrorBase, 408)].get i
    (g.regionsOk = true ↔
      (∀ i, (area i).1 % 16 = 0 ∧ (area i).1 ≤ 4194303 ∧ (area i).1 + (area i).2 ≤ 4194304) ∧
      ∀ i j, i ≠ j → ∀ w, ¬((area i).1 ≤ w ∧ w < (area i).1 + (area i).2 ∧
        (area j).1 ≤ w ∧ w < (area j).1 + (area j).2))) ∧
  (∀ (g : GlobalCfg) (p : PassCfg) (n : OutletCfg) (t : TipCfg) (x : StationCfg),
    let between (lo v hi : Nat) := lo ≤ v ∧ v ≤ hi
    (g.rangesOk = true ↔ g.unit ≤ 30 ∧ between 64 g.journalSize 4096 ∧
      between 50 g.mirrorPeriod 5000 ∧ g.outletLimit ≤ 10000 ∧ g.tipLimit ≤ 10000) ∧
    (p.rangesOk = true ↔ (p.present = true →
      between 100 p.capacity 60000 ∧ between 1 p.emptyDistance 65535 ∧ between 1 p.dtPerCm 65535 ∧
      between 1 p.holdTime 600 ∧ between 1 p.threshold 65535 ∧ between 1 p.fallStep 65535 ∧
      between 60 p.wetDwell 65535 ∧ between 1 p.openingCode 10 ∧ between 1 p.targetCode 250 ∧
      between 1 p.loosening 65535)) ∧
    (n.rangesOk = true ↔ (n.present = true →
      n.lead ≤ 500 ∧ between 1000 n.openTimeout 60000 ∧ between 1000 n.closeTimeout 60000 ∧
      between 500 n.flowStartTimeout 30000 ∧ between 5 n.cycleDrawTimeout 600 ∧
      between 5 n.indexTimeout 1800)) ∧
    (t.rangesOk = true ↔ (t.present = true →
      between 1 t.maxJump 16 ∧ between 1 t.parkTimeout 120)) ∧
    (x.rangesOk = true ↔ (x.present = true →
      x.slot ≤ 31 ∧ between 20 x.lateLimit 5000 ∧ x.kind ≠ none ∧
      (x.kind = some .tip → between 1 x.depth 4) ∧
      (x.kind = some .outlet → between 1 x.depth 4 ∧ between 1 x.onThreshold 255 ∧
        x.offThreshold ≤ 254 ∧ x.offThreshold < x.onThreshold ∧ x.minOn ≤ 10000 ∧
        x.dropout ≤ 10000) ∧
      (x.kind = some .level → between 1 x.poorLimit 32 ∧ between 1 x.interval 16 ∧
        between 1 x.shift 6 ∧ between 1 x.validity 64 ∧ x.dryThreshold ≤ x.wetThreshold ∧
        between 1 x.moistureCount 16))))

/-- R149, R157: in the first stage a set-point word is read from memory into its slot's copy, and after the
last one the safe writes begin, of the command slots, of the status latches of the configured stations and of
the journal control words; when they have reached memory, the part enters RUN, START is requested,
and a publication begins with the period timer. That a read takes one word is the model's (log 23), as is
the last tag 0 (log 9). -/
def Obligations.SafingRunsItsStages : Prop :=
  (∀ (s : State) (k : Fin 24) (w : Fin 3) (rest : List (Fin 24 × Fin 3)),
     s.resetAsserted = false → s.safing = .reads k w rest → s.upstreamWaits = false →
     ∃ t, exec .safingSetpointRead s = .next t ∧ t.mem = s.mem ∧ t.partState = s.partState ∧
       (t.ctl.slot k).copy =
         (s.ctl.slot k).copy.put w
           (Memory.readWord s.mem (BitVec.ofNat 22 (s.commandBase k + w.val))) ∧
       (∀ k' w' rest', rest = (k', w') :: rest' → t.safing = .reads k' w' rest') ∧
       (rest = [] → t.safing = .writes ∧ t.bulk = s.bulk ++ entriesAt s.regions.control [0, 0] ∧
         ∀ j, (s.live.slotConfigured j = true → (t.ctl.slot j).wb.demand = some 0 ∧
             (t.ctl.slot j).wb.verdict = some 0 ∧ (t.ctl.slot j).wb.detail = some 0 ∧
             (t.ctl.slot j).lastTag = 0) ∧
           (j ≠ k → s.live.slotConfigured j = false → t.ctl.slot j = s.ctl.slot j)) ∧
       (rest = [] →
         (∀ i, (s.live.stationCfg i).present = true →
           (t.stationSlot (s.live.slotOf i)).latch = some 0) ∧
         (∀ j, (t.stationSlot j).staging = (s.stationSlot j).staging ∧
           ((∀ i, (s.live.stationCfg i).present = true → s.live.slotOf i ≠ j) →
             t.stationSlot j = s.stationSlot j))) ∧
       (∀ k' w' rest', rest = (k', w') :: rest' → t.stationSlots = s.stationSlots ∧
         ∀ j, j ≠ k → t.ctl.slot j = s.ctl.slot j)) ∧
  (∀ s : State, s.resetAsserted = false → s.partState = .safing → s.safing = .writes →
     s.urgent = [] → s.bulk = [] → s.nextSource = none →
     exec .safingEnd s = .next
       { s with
         partState := .run, safing := .off
         ctl := s.ctl.report s.env .start 255 s.identity.toNat s.loadStatus.code.code
           s.startCause.code s.live.globalCfg.unit
         mirror := { s.mirror with
           timer := some s.clock, cursor := some .opening, due := false, base := s.regions.mirror } })

/-! ## The bus -/

/-- R30, R31, R32: how a write is treated, by part state, region, word, initiator and lanes, and the row of
the table that it is, with the slot and the word that its address names: for a demand word the commit of
that slot with the order code and tag of the word, a COMMIT_BAD_CODE only where the code is outside the list
of the slot, since the command is well formed. -/
def Obligations.WriteTreatment : Prop :=
  ∀ (s : State) (addr : Addr) (tag lanes : BitVec 2),
    let a := addr.toNat
    let r := s.regions
    let station := r.station ≤ a ∧ a < r.station + 384
    let command := r.command ≤ a ∧ a < r.command + 144
    let control := r.control ≤ a ∧ a < r.control + 2
    let ring := r.ring ≤ a ∧ a < r.ring + 8 * r.records
    let mirror := r.mirror ≤ a ∧ a < r.mirror + 408
    (s.partState ≠ .run → s.treatment addr tag lanes = .refused) ∧
    (s.partState = .run →
      (¬station ∧ ¬command ∧ ¬control ∧ ¬ring ∧ ¬mirror → s.treatment addr tag lanes = .passes) ∧
      (station → s.treatment addr tag lanes =
        if lanes = 3 ∧ tag = 1 ∧ (a - r.station) % 12 ≤ 10 then .taken else .refused) ∧
      (¬station ∧ command → s.treatment addr tag lanes =
        if lanes = 3 ∧ tag = 0 ∧ (a - r.command) % 6 ≤ 3 then .taken else .refused) ∧
      (¬station ∧ ¬command ∧ control → s.treatment addr tag lanes =
        if lanes = 3 ∧ tag = 0 ∧ a - r.control = 1 then .taken else .refused) ∧
      (¬station ∧ ¬command ∧ ¬control ∧ (ring ∨ mirror) →
        s.treatment addr tag lanes = .refused)) ∧
    (∀ data : Word,
      let c := s.busWrite addr tag lanes data
      (s.treatment addr tag lanes = .passes → c = .passThroughWrite addr tag lanes data) ∧
      (s.treatment addr tag lanes = .refused → c = .refusedWrite addr tag lanes data) ∧
      (s.treatment addr tag lanes = .taken →
        (∀ (k : Fin 32) (w : Fin 10), a = r.station + 12 * k.val + w.val →
          c = .stationPayloadWrite k w data) ∧
        (∀ k : Fin 32, a = r.station + 12 * k.val + 10 → c = .closingWordWrite k data) ∧
        (¬station →
          (∀ (k : Fin 24) (w : Fin 3), a = r.command + 6 * k.val + w.val →
            c = .setpointWrite k w data) ∧
          (∀ k : Fin 24, a = r.command + 6 * k.val + 3 →
            commitSlot c = some k ∧ commitWord c = some data ∧ c.wellFormed = true)) ∧
        (¬station ∧ ¬command → c = .readIndexWrite data)))

/-- R29, R32, R33, R34: a read, and a write that passes, are held with ready withheld until their grant; a
refused write is completed at once and changes nothing else. That a command presents the transaction and the
grant completes it is the model's (log 4). -/
def Obligations.ReadsWaitAndRefusedWritesComplete : Prop :=
  (∀ (s : State) (addr : Addr) (tag lanes : BitVec 2) (data : Word),
     s.resetAsserted = false → s.port = none →
     exec (.upstreamRead addr tag lanes) s = .next
       { s with
         busReady := false
         port := some { addr := addr, write := false, tag := tag, lanes := lanes, data := 0
                        purpose := .read } } ∧
     (s.treatment addr tag lanes = .passes →
       exec (.passThroughWrite addr tag lanes data) s = .next
         { s with
           busReady := false
           port := some { addr := addr, write := true, tag := tag, lanes := lanes, data := data
                          purpose := .passes } })) ∧
  (∀ (s : State) (addr : Addr) (tag lanes : BitVec 2) (data : Word),
     s.resetAsserted = false → s.port = none → s.treatment addr tag lanes = .refused →
     exec (.refusedWrite addr tag lanes data) s = .next { s with busReady := true })

/-- R31: outside RUN a payload, set-point, closing, demand or read index write is refused: it completes
at once, and no slot, record or queue changes. -/
def Obligations.WritesOutsideRunAreRefused : Prop :=
  ∀ (s : State) (c : Instr), s.resetAsserted = false → s.port = none → s.partState ≠ .run →
    ((∃ k w v, c = .stationPayloadWrite k w v) ∨ (∃ k w v, c = .setpointWrite k w v) ∨
      (∃ v, c = .readIndexWrite v) ∨ (∃ k v, c = .closingWordWrite k v) ∨
      ((∀ k code tag, c = .commitBadCode k code tag → orderCodeBad k code = true) ∧
        (commitSlot c).isSome = true)) →
    ∃ t, exec c s = .next t ∧ t = { s with busReady := true, drainer := t.drainer }

/-- R36, R40: a payload word and a set-point word are staged at their position, the write completes at
once, and nothing else changes. -/
def Obligations.StagingWrites : Prop :=
  ∀ (s : State) (v : Word), s.takesWrites →
    (∀ (k : Fin 32) (w : Fin 10), exec (.stationPayloadWrite k w v) s = .next
      { s with
        busReady := true
        stationSlots := s.stationSlots.set k.val
          { s.stationSlot k with staging := (s.stationSlot k).staging.set w.val (some v) } }) ∧
    (∀ (k : Fin 24) (w : Fin 3), ∃ t, exec (.setpointWrite k w v) s = .next t ∧
      t = { s with busReady := true, ctl := { s.ctl with slots := t.ctl.slots } } ∧
      (∀ j, j ≠ k → t.ctl.slot j = s.ctl.slot j) ∧
      t.ctl.slot k = { s.ctl.slot k with
        staged :=
          { a := if w = 0 then some v else (s.ctl.slot k).staged.a
            b := if w = 1 then some v else (s.ctl.slot k).staged.b
            c := if w = 2 then some v else (s.ctl.slot k).staged.c } })

/-- R35, R146: a read index within the ring that does not pass the write index waits for its grant; any
other one is refused and counted, and r is unchanged. -/
def Obligations.ReadIndexIsChecked : Prop :=
  ∀ (s : State) (v : Word), s.takesWrites →
    let n := s.regions.records
    let j := s.ctl.journal
    let ok := v.toNat < n ∧ (v.toNat + n - j.r) % n ≤ (j.w + n - j.r) % n
    (ok → exec (.readIndexWrite v) s = .next
      { s with
        busReady := false
        port := some
          { addr := BitVec.ofNat 22 (s.regions.control + 1), write := true, tag := 0, lanes := 3
            data := v, purpose := .readIndex true } }) ∧
    (¬ok → exec (.readIndexWrite v) s = .next
      { s with
        busReady := true
        ctl := { s.ctl with journal := { j with badIndex := j.badIndex + 1 } } })

/-- R29, R37, R41, R48: without room for 12 entries a closing write, and the demand write of any commit, is
stretched and its slot not touched; the urgent grant that frees the room takes it, with all that the same
write does on the state with that room (that it does so in the same event, and the drainer's position after
it, is the model's: log 4, log 26). -/
def Obligations.StretchedWritesWaitForRoom : Prop :=
  ∀ (s : State), s.takesWrites → s.urgentFree < 12 →
    (∀ (k : Fin 32) (v : Word), ∃ t, exec (.closingWordWrite k v) s = .next t ∧
      t = { s with port := some (s.closingTxn k v), busReady := false, drainer := t.drainer }) ∧
    (∀ (c : Instr) (k : Fin 24) (d : Word), commitSlot c = some k → commitWord c = some d →
      (∀ j code tag, c = .commitBadCode j code tag → orderCodeBad j code = true) →
      ∃ t, exec c s = .next t ∧
        t = { s with port := some (s.demandTxn k d), busReady := false, drainer := t.drainer }) ∧
    (∀ (g : List Entry) (rest : List (List Entry)) (x : Txn),
      s.urgent = g :: rest → s.bulk = [] → (∀ k w l, s.safing ≠ .reads k w l) →
      12 ≤ 32 - (rest.map List.length).sum →
      ((∃ k, x.purpose = .closing k) ∨ ∃ k, x.purpose = .demand k) →
      let u : State := { s with
        urgent := rest, mem := Memory.writeEntries g s.mem, urgentWait := 0, bulkWait := 0 }
      ∃ t, exec .arbiterGrant { s with port := some x, busReady := false } = .next t ∧
        t.port = none ∧ t.busReady = true ∧ t.mem = Memory.writeEntries g s.mem ∧
        (∀ k, x.purpose = .closing k →
          t = (u.takeClosing k x.data).ready.seek ∧ exec (.closingWordWrite k x.data) u = .next t) ∧
        (∀ k, x.purpose = .demand k →
          t = (u.takeCommit k x.data).ready.seek ∧
          ∀ c, commitSlot c = some k → commitWord c = some x.data →
            (∀ j code tag, c = .commitBadCode j code tag → orderCodeBad j code = true) →
            exec c u = .next t))

/-! ## The memory side -/

/-- R34, R35, R51, R148, R157: a grant to the upstream port performs the transaction held, and the waiting
queues count it. It is made while no guard of a waiting queue is at its limit. A read index write that a
change of the journal region overtook reaches memory and leaves r as it is. In the first stage of SAFING the
transaction held is performed, or else the next set-point word read, and no count changes; that the grant
reads that word as SAFING_SETPOINT_READ does is the model's (log 23), and so is the drainer's position
(log 26). -/
def Obligations.GrantPerformsUpstream : Prop :=
  (∀ (s : State) (x : Txn), s.resetAsserted = false → s.port = some x →
    (∀ k w l, s.safing ≠ .reads k w l) → (s.urgent = [] ∨ s.urgentWait < 4) →
    (s.bulk = [] ∨ s.bulkWait < 16) →
    let u : State :=
      { s with
        port := none, busReady := true
        urgentWait := if s.urgent = [] then 0 else min 16 (s.urgentWait + 1)
        bulkWait := if s.bulk = [] then 0 else min 16 (s.bulkWait + 1) }
    (x.purpose = .read → exec .arbiterGrant s = .next
      ({ u with busData := Memory.readWord s.mem x.addr } : State).seek) ∧
    (x.purpose = .passes → exec .arbiterGrant s = .next
      ({ u with mem := Memory.writeLanes x.addr x.lanes x.data s.mem } : State).seek) ∧
    (x.purpose = .readIndex true → exec .arbiterGrant s = .next
      ({ u with
         mem := Memory.writeWord x.addr x.data s.mem
         ctl := { s.ctl with journal := { s.ctl.journal with r := x.data.toNat } } } : State).seek) ∧
    (x.purpose = .readIndex false → exec .arbiterGrant s = .next
      ({ u with mem := Memory.writeWord x.addr x.data s.mem } : State).seek)) ∧
  (∀ (s : State) (x : Txn) (k : Fin 24) (w : Fin 3) (rest : List (Fin 24 × Fin 3)),
    s.resetAsserted = false → s.port = some x → s.safing = .reads k w rest →
    let u : State := { s with port := none, busReady := true }
    (x.purpose = .read → exec .arbiterGrant s = .next
      ({ u with busData := Memory.readWord s.mem x.addr } : State).seek) ∧
    (x.purpose = .passes → exec .arbiterGrant s = .next
      ({ u with mem := Memory.writeLanes x.addr x.lanes x.data s.mem } : State).seek)) ∧
  (∀ (s : State) (k : Fin 24) (w : Fin 3) (rest : List (Fin 24 × Fin 3)),
    s.resetAsserted = false → s.safing = .reads k w rest → s.upstreamWaits = false →
    exec .arbiterGrant s = exec .safingSetpointRead s ∧
    ∃ t, exec .arbiterGrant s = .next t ∧ t.urgentWait = s.urgentWait ∧ t.bulkWait = s.bulkWait ∧
      t.starvation = s.starvation)

/-- R49, R50, R51: a grant to the urgent queue writes the whole head group: when its guard is at 4, or when
neither the bulk guard nor an upstream transaction claims the port. A grant to the bulk queue writes one
word: when its guard is at 16 and the urgent guard is not at 4, which the starvation count counts, or when
nothing else waits. -/
def Obligations.GrantWritesQueues : Prop :=
  (∀ (s : State) (g : List Entry) (rest : List (List Entry)), s.resetAsserted = false →
     (∀ k w l, s.safing ≠ .reads k w l) → s.urgent = g :: rest →
     (4 ≤ s.urgentWait ∨ ((s.bulk = [] ∨ s.bulkWait < 16) ∧ s.upstreamWaits = false)) →
     ∃ t, exec .arbiterGrant s = .next t ∧ t.mem = Memory.writeEntries g s.mem ∧
       Memory.sameOutside g s.mem t.mem ∧ t.bulk = s.bulk ∧ t.urgentWait = 0 ∧
       t.bulkWait = (if s.bulk = [] then 0 else min 16 (s.bulkWait + 1)) ∧
       t.starvation = s.starvation ∧
       (s.port = none → t = { s with
         urgent := rest, mem := t.mem, urgentWait := t.urgentWait, bulkWait := t.bulkWait
         drainer := t.drainer })) ∧
  (∀ (s : State) (e : Entry) (rest : List Entry), s.resetAsserted = false →
     (∀ k w l, s.safing ≠ .reads k w l) → s.bulk = e :: rest →
     (s.urgent = [] ∨ s.urgentWait < 4) →
     (16 ≤ s.bulkWait ∨ (s.upstreamWaits = false ∧ s.urgent = [])) →
     ∃ t, exec .arbiterGrant s = .next t ∧ t.mem = Memory.writeWord e.1 e.2 s.mem ∧
       Memory.sameOutside [e] s.mem t.mem ∧ t = { s with
         bulk := rest, mem := t.mem, bulkWait := 0
         urgentWait := if s.urgent = [] then 0 else min 16 (s.urgentWait + 1)
         starvation := if 16 ≤ s.bulkWait then s.starvation + 1 else s.starvation
         drainer := t.drainer })

/-- R48: the drainer places the group of the first marked source of its rotation, clears the marks of that
source alone and goes on behind it; without the room it waits there, and with no source marked it does
nothing (the position between groups is the model's: log 26). -/
def Obligations.DrainerPlacesMarkedSource : Prop :=
  ∀ s : State, s.resetAsserted = false →
    (s.nextSource = none → exec .drainerPlaceGroup s = .next s) ∧
    (∀ i : Fin 56, s.nextSource = some i →
      (s.urgentFree < s.sourceWords i → exec .drainerPlaceGroup s = .next { s with drainer := i }) ∧
      (s.sourceWords i ≤ s.urgentFree → ∃ t, exec .drainerPlaceGroup s = .next t ∧
        t.sourceWords i = 0 ∧ t.mem = s.mem ∧ t.bulk = s.bulk ∧
        t = { s with
              urgent := t.urgent, stationSlots := t.stationSlots, drainer := t.drainer
              ctl := { s.ctl with slots := t.ctl.slots } } ∧
        t.drainer = ((Machine.rotation (i + 1)).find? fun j =>
          decide (j ≠ i) && decide (0 < s.sourceWords j)).getD (i + 1) ∧
        (∀ k : Fin 24, i.val = k.val →
          t.urgent = s.urgent ++ [markedEntries (s.commandBase k) (s.ctl.slot k).wb.words] ∧
          t.ctl.slot k = { s.ctl.slot k with wb := WriteBack.empty }) ∧
        (∀ k : Fin 24, i.val ≠ k.val → t.ctl.slot k = s.ctl.slot k) ∧
        (∀ (k : Fin 32) (w : Word), i.val = 24 + k.val → (s.stationSlot k).latch = some w →
          t.urgent = s.urgent ++ [[(BitVec.ofNat 22 (s.stationBase k + 11), w)]] ∧
          t.stationSlot k = { s.stationSlot k with latch := none }) ∧
        (∀ k : Fin 32, i.val ≠ 24 + k.val → t.stationSlot k = s.stationSlot k)))

/-- R142, R144, R145, R148: in RUN, with two free positions in the ring and 9 free bulk entries, the head
record goes out under the present serial with the new write index, a GAP first while records are lost; the
two zero words of a new control region are placed once two bulk entries are free (as an event of their own,
oldest first: log 25). That a record is written in RUN alone is the model's reading of R165 (log 46). -/
def Obligations.JournalWritesRecords : Prop :=
  (∀ (s : State), s.resetAsserted = false → s.partState = .run →
     let j := s.ctl.journal
     let n := s.regions.records
     let next := (j.w + 1) % n
     (j.w + n - j.r) % n + 2 ≤ n → s.bulk.length ≤ 7 → j.zeroDue = [] →
     (∀ (x : JournalRecord) (rest : List JournalRecord), j.lost = 0 → j.list = x :: rest →
       exec .journalRecordWrite s = .next
         { s with
           bulk := s.bulk ++ (entriesAt (s.regions.ring + 8 * j.w)
               [j.serial, toWord (x.kind.code + 256 * x.subject), x.stamp.extractLsb' 0 16,
                 x.stamp.extractLsb' 16 16, x.d0, x.d1, x.d2, x.d3]
             ++ entriesAt s.regions.control [toWord next])
           ctl := { s.ctl with
             journal := { j with serial := j.serial + 1, w := next, list := rest } } }) ∧
     (0 < j.lost →
       exec .gapRecordWrite s = .next
         { s with
           bulk := s.bulk ++ (entriesAt (s.regions.ring + 8 * j.w)
               [j.serial, toWord (18 + 256 * 255), s.clock.extractLsb' 0 16,
                 s.clock.extractLsb' 16 16, toWord j.lost, 0, 0, 0]
             ++ entriesAt s.regions.control [toWord next])
           ctl := { s.ctl with
             journal := { j with serial := j.serial + 1, w := next, lost := 0 } } })) ∧
  (∀ (s : State) (base : Nat) (rest : List Nat), s.resetAsserted = false →
     s.ctl.journal.zeroDue = base :: rest → s.bulk.length ≤ 14 →
     exec .journalControlZeroPlace s = .next
       { s with
         bulk := s.bulk ++ [(BitVec.ofNat 22 base, 0), (BitVec.ofNat 22 (base + 1), 0)]
         ctl := { s.ctl with journal := { s.ctl.journal with zeroDue := rest } } })

/-- R149, R150, R151, section 9.6: the publisher places its group whole at its place in the mirror, the
opening and closing words with the generation increased, and goes on, or begins the publication that is due;
the period timer starts again from its expiry (from the exact moment: log 14), and a publication begins, or
is due while one is in hand. The place and the words of every record are written out; an outlet or tip point
that is not configured shows the reset values of its context with every signal UNKNOWN, an outlet's last
fault code included (log 36). -/
def Obligations.MirrorPublishes : Prop :=
  (∀ (s : State) (g : MirrorGroup), s.resetAsserted = false → s.partState = .run →
     s.mirror.cursor = some g → s.journalWaits = false →
     (s.groupWords g).2.length ≤ 16 - s.bulk.length →
     let words := entriesAt (s.mirror.base + (s.groupWords g).1) (s.groupWords g).2
     (g = .opening → words = [(BitVec.ofNat 22 s.mirror.base, s.mirror.generation + 1)] ∧
       exec .mirrorGroupPlace s = .next
         { s with
           bulk := s.bulk ++ words
           mirror := { s.mirror with
             generation := s.mirror.generation + 1, cursor := some .header } }) ∧
     (g ≠ .opening → g ≠ .closing → exec .mirrorGroupPlace s = .next
       { s with bulk := s.bulk ++ words, mirror := { s.mirror with cursor := g.next } }) ∧
     (g = .closing → words = [(BitVec.ofNat 22 s.mirror.base, s.mirror.generation + 1)] ∧
       exec .mirrorGroupPlace s = .next
         { s with
           bulk := s.bulk ++ words
           mirror :=
             if s.mirror.due then
               { s.mirror with
                 generation := s.mirror.generation + 1, cursor := some .opening, due := false
                 base := s.regions.mirror }
             else { s.mirror with generation := s.mirror.generation + 1, cursor := none } })) ∧
  (MirrorGroup.next .opening = some .header ∧ MirrorGroup.next .header = some (.pass 0) ∧
    (∀ p q : Fin 4, q.val = p.val + 1 → MirrorGroup.next (.pass p) = some (.pass q)) ∧
    MirrorGroup.next (.pass 3) = some (.outlet 0) ∧
    (∀ n m : Fin 8, m.val = n.val + 1 → MirrorGroup.next (.outlet n) = some (.outlet m)) ∧
    MirrorGroup.next (.outlet 7) = some (.tip 0) ∧
    (∀ x y : Fin 12, y.val = x.val + 1 → MirrorGroup.next (.tip x) = some (.tip y)) ∧
    MirrorGroup.next (.tip 11) = some (.station 0) ∧
    (∀ i j : Fin 32, j.val = i.val + 1 → MirrorGroup.next (.station i) = some (.station j)) ∧
    MirrorGroup.next (.station 31) = some .closing ∧ MirrorGroup.next .closing = none) ∧
  (∀ (s : State) (since : Clock), s.resetAsserted = false → s.mirror.timer = some since →
     s.live.globalCfg.mirrorPeriod ≤ (s.clock - since).toNat →
     let timer := some (since + BitVec.ofNat 32 s.live.globalCfg.mirrorPeriod)
     (s.mirror.cursor = none → exec .mirrorPeriodExpiry s = .next
       { s with
         mirror := { s.mirror with
           timer := timer, cursor := some .opening, due := false, base := s.regions.mirror } }) ∧
     (∀ g, s.mirror.cursor = some g → exec .mirrorPeriodExpiry s = .next
       { s with mirror := { s.mirror with timer := timer, due := true } })) ∧
  (∀ s : State,
    let bit (b : Bool) (at_ : Nat) : Nat := if b then 2 ^ at_ else 0
    let signals (d0 d1 d2 : Nat) : Nat := d0 + 4 * d1 + 16 * d2
    s.groupWords .header = (1,
      [BitVec.ofNat 16 s.partState.code, s.identity, BitVec.ofNat 16 s.ctl.journal.lost,
        s.ctl.journal.badIndex, s.clock.extractLsb' 0 16, s.clock.extractLsb' 16 16, s.starvation]) ∧
    (∀ p : Fin 4,
      let r := s.ctl.pass p
      s.groupWords (.pass p) = (8 + 8 * p.val,
        [BitVec.ofNat 16 (r.state.code + 4 * r.cls.code + 32 * r.cause.code + bit r.hostWet 7 +
            256 * r.sensorWet.code + bit r.wetActive 10 + bit r.grant 11 + bit r.settled 12 +
            bit r.levelValid 13 +
            bit (r.cls != .unknown && decide (r.low < (s.live.passCfg p).cushionMark)) 14)] ++
          [r.inventory, r.levelFill, r.high, r.low, r.accumulator, r.dwell, r.loosened].map
            (BitVec.ofNat 16))) ∧
    (∀ n : Fin 8,
      let o := s.ctl.outlet n
      let q := s.env.outletQual n
      ((s.live.outletCfg n).present = true → s.groupWords (.outlet n) = (40 + 8 * n.val,
        [o.state.code + 256 * (o.tag.getD 0).toNat, o.remaining + 256 * o.completed,
          o.deliveredOrder, o.deliveredCycle, stopReasonCode o.stopReason + 256 * o.lastFault.code,
          signals q.d0.value.code q.d1.value.code q.d2.value.code + 64 * q.flow.state.qualified.code,
          o.workingTarget,
          o.workingOpening + bit o.stopAfter 8 + bit o.grantHeld 9 + 1024 * activeTimerCode o.timer].map
          (BitVec.ofNat 16))) ∧
      ((s.live.outletCfg n).present = false →
        s.groupWords (.outlet n) = (40 + 8 * n.val, List.replicate 8 0))) ∧
    (∀ x : Fin 12,
      let r := s.ctl.tip x
      let q := s.env.tipQual x
      ((s.live.tipCfg x).present = true → s.groupWords (.tip x) = (104 + 4 * x.val,
        [r.state.code + 256 * r.remaining, r.lastCounter.toNat + bit r.known 8,
          signals q.d0.value.code q.d1.value.code q.d2.value.code + 64 * r.park.code].map
          (BitVec.ofNat 16) ++ [r.substitutes])) ∧
      ((s.live.tipCfg x).present = false →
        s.groupWords (.tip x) = (104 + 4 * x.val, [3, 0, 64, 0]))) ∧
    (∀ i : Fin 32,
      let r := s.station i
      s.groupWords (.station i) = (152 + 8 * i.val,
        [BitVec.ofNat 16 (r.order.code + 8 * r.check.code + 16 * r.freshness.code), r.accepted,
          joinWord r.events[1] r.events[0], joinWord r.events[3] r.events[2],
          joinWord r.events[5] r.events[4], joinWord r.events[7] r.events[6],
          joinWord r.events[9] r.events[8], r.rollover.setWidth 16])))

/-! ## Records (chapters 3 and 4) -/

/-- R37, R59: a closing word empties the staging buffer; with no station it does nothing else, a torn record
only counts torn, and a misaddressed one only counts misaddressed. The drainer's position is the model's
(log 26). -/
def Obligations.DiscardedRecords : Prop :=
  ∀ (s : State) (k : Fin 32) (v : Word), s.takesCommits →
    let emptied : State := { s with
      busReady := true
      stationSlots := s.stationSlots.set k.val
        { s.stationSlot k with staging := Vector.replicate 10 none } }
    (s.live.stationOfSlot k = none → exec (.closingWordWrite k v) s = .next emptied.seek) ∧
    (∀ i, s.live.stationOfSlot k = some i → (s.stationSlot k).complete = false →
      exec (.closingWordWrite k v) s = .next
        ({ emptied with
           stations := s.stations.set i.val ((s.station i).bump .torn 1) } : State).seek) ∧
    (∀ i, s.live.stationOfSlot k = some i → (s.stationSlot k).complete = true →
      (highOctet v).toNat ≠ i.val →
      exec (.closingWordWrite k v) s = .next
        ({ emptied with
           stations := s.stations.set i.val ((s.station i).bump .misaddressed 1) } : State).seek)

/-- R37, R38, R58, R72, R73, R74, section 4.1, section 4.2, section 4.3, section 4.4, section 4.5, R89: a
complete record goes through the check machine and the order machine of its station alone; an accepted one
is released as 12 words, and a discarded one writes the status latch where the status changed. Image memory
is not touched. A record accepted with its station FRESH (or FRESH by this record) is sampled by the
qualifiers of its kind and handed, after the freshness event and the value events it makes, to the outlet or
tip point that names the station, or as reports to the pass; a station that leaves FRESH gives its
qualifiers up, and any other record leaves them. What the four samples do is written out. That the pass
events of the record's debit or credit (section 10.2) reach the members after the record's own comparison or
state change (log 12), and that a record whose own value event stopped its outlet is still handed over (log
21), are the model's readings. -/
def Obligations.RecordIsJudgedAndReleased : Prop :=
  (∀ (s : State) (k i : Fin 32) (v : Word), s.takesCommits → s.live.stationOfSlot k = some i →
    (s.stationSlot k).complete = true → (highOctet v).toNat = i.val →
    let x := s.station i
    let y := x.checkOctet (lowOctet v)
    let z := y.1.orderOctet y.2 s.clock
    ∃ t, exec (.closingWordWrite k v) s = .next t ∧ t.station i = z.1 ∧
      (∀ j, j ≠ i → t.station j = s.station j) ∧
      (t.stationSlot k).staging = Vector.replicate 10 none ∧
      (∀ j, j ≠ k → t.stationSlot j = s.stationSlot j) ∧
      (z.2 = true → (t.stationSlot k).latch = none ∧
        t.urgent = s.urgent ++
          [entriesAt (s.stationBase k)
            ((s.stationSlot k).payload.toList ++
              [joinWord (highOctet v) (y.2.getD (lowOctet v)), z.1.status])]) ∧
      (z.2 = false → t.urgent = s.urgent ∧
        (t.stationSlot k).latch =
          if z.1.status = x.status then (s.stationSlot k).latch else some z.1.status) ∧
      t = { s with
            busReady := true, stations := t.stations, stationSlots := t.stationSlots
            quals := t.quals, ctl := t.ctl, urgent := t.urgent, drainer := t.drainer }) ∧
  (∀ (s : State) (k i : Fin 32) (v : Word), s.takesCommits → s.live.stationOfSlot k = some i →
    (s.stationSlot k).complete = true → (highOctet v).toNat = i.val →
    let x := s.station i
    let y := x.checkOctet (lowOctet v)
    let z := y.1.orderOctet y.2 s.clock
    let cfg := s.live.stationCfg i
    let pl := (s.stationSlot k).payload
    let q := s.qual i
    let delivered := z.2 = true ∧ z.1.freshness = .fresh
    let discrete (w : Word) : Qualifiers :=
      { q with
        d0 := q.d0.sample cfg.depth (w.getLsbD 0), d1 := q.d1.sample cfg.depth (w.getLsbD 1)
        d2 := q.d2.sample cfg.depth (w.getLsbD 2) }
    let level := q.level.sample cfg (s.live.levelPass i) pl[0].toNat (lowOctet pl[1]).toNat
    let moisture := q.moisture.sample cfg (lowOctet pl[2]).toNat
    ∃ t, exec (.closingWordWrite k v) s = .next t ∧ (∀ j, j ≠ i → t.qual j = s.qual j) ∧
      (¬delivered → t.qual i =
        if x.freshness = .fresh ∧ z.1.freshness ≠ .fresh then Qualifiers.reset else q) ∧
      (delivered →
        let env (q' : Qualifiers) : Env := { t.env with quals := s.quals.set i.val q' }
        let reported : Ctl := if x.freshness = .fresh then s.ctl
          else s.ctl.report s.env .freshness i.val x.freshness.code 1 2 1
        (cfg.kind = some .outlet →
          let q2 := discrete pl[1]
          let q3 : Qualifiers := { q2 with flow := q.flow.sample cfg (lowOctet pl[2]).toNat s.clock }
          t.qual i = q3 ∧
          ∀ n, s.live.outletOfStation i = some n →
            let p := (s.live.outletCfg n).pass
            let told := if x.freshness = .fresh then reported
              else outletFreshness (env q) n .fresh reported
            let c0 := if q2.d0.value = q.d0.value then told
              else outletValue (env { q with d0 := q2.d0 }) n .d0 q2.d0.value told
            let c2 := if q2.d2.value = q.d2.value then c0
              else outletValue (env q2) n .d2 q2.d2.value c0
            let c3 := if q3.flow.state.qualified = q.flow.state.qualified then c2
              else outletValue (env q3) n .flow q3.flow.state.qualified c2
            t.ctl = withNews (env q3) p
              (outletRecord (env q3) n
                { weight := pl[4].toNat, identity := pl[3].toNat, position := pl[0].toNat }) c3) ∧
        (cfg.kind = some .tip →
          let q2 := discrete pl[0]
          t.qual i = q2 ∧
          ∀ n, s.live.tipOfStation i = some n →
            let p := (s.live.tipCfg n).pass
            let told := if x.freshness = .fresh then reported
              else tipFreshness (env q) n x.freshness .fresh reported
            let c1 := if q2.d1.value = q.d1.value then told
              else tipValue (env { q2 with d2 := q.d2 }) n .d1 q2.d1.value told
            let c2 := if q2.d2.value = q.d2.value then c1
              else tipValue (env q2) n .d2 q2.d2.value c1
            t.ctl = withNews (env q2) p
              (tipRecord (env q2) n (lowOctet pl[1]) pl[2].toNat) c2) ∧
        (cfg.kind = some .level →
          t.qual i = { q with level := level.1, moisture := moisture } ∧
          ∀ p, s.live.passOfStation i = some p →
            let e1 := env { q with level := level.1 }
            let c1 := if level.2 then
                withNews e1 p (levelReport e1 p level.1.fill level.1.valid) reported
              else reported
            t.ctl = if moisture.state = q.moisture.state then c1
              else withNews t.env p (sensorReport t.env p moisture.state) c1))) ∧
  (∀ (depth : Nat) (raw : Bool) (f : Filter),
    let run := if f.candidate = some raw then min depth (f.run + 1) else 1
    f.sample depth raw =
      { value := if run = depth then (if raw then .yes else .no) else f.value
        candidate := some raw, run := run }) ∧
  (∀ (k : StationCfg) (level : Nat) (now since : Clock) (f : FlowQualifier),
    let y := f.sample k level now
    let at_ (x : FlowState) : FlowQualifier := { state := x, rise := none, dropout := none }
    (f.state = .unknown ∨ f.state = .noFlow →
      (level < k.onThreshold → y = at_ .noFlow) ∧
      (k.onThreshold ≤ level → k.minOn = 0 → y = at_ .flow) ∧
      (k.onThreshold ≤ level → k.minOn ≠ 0 → y = { at_ .rising with rise := some now })) ∧
    (f.state = .rising → f.rise = some since →
      (level < k.onThreshold → y = at_ .noFlow) ∧
      (k.onThreshold ≤ level → (now - since).toNat < k.minOn → y = f) ∧
      (k.onThreshold ≤ level → k.minOn ≤ (now - since).toNat → y = at_ .flow)) ∧
    (f.state = .flow →
      (k.offThreshold ≤ level → y = f) ∧
      (level < k.offThreshold → k.dropout = 0 → y = at_ .noFlow) ∧
      (level < k.offThreshold → k.dropout ≠ 0 → y = { at_ .dropping with dropout := some now })) ∧
    (f.state = .dropping →
      (k.offThreshold ≤ level → y = at_ .flow) ∧ (level < k.offThreshold → y = f))) ∧
  (∀ (k : StationCfg) (pass : Option PassCfg) (distance quality : Nat) (f : LevelFilter),
    let y := f.sample k pass distance quality
    let smoothed : Nat :=
      match f.distance with
      | none => 16 * distance
      | some x => ((x : Int) + Int.tdiv (16 * (distance : Int) - (x : Int)) (2 ^ k.shift)).toNat
    let updates := min 64 (f.updates + 1)
    (quality < k.qualityFloor → f.poor + 1 < k.poorLimit →
      y = ({ f with poor := f.poor + 1 }, false)) ∧
    (quality < k.qualityFloor → k.poorLimit ≤ f.poor + 1 →
      y = ({ distance := none, good := 0, updates := 0, poor := 0, valid := false, fill := 0 },
        f.distance.isSome)) ∧
    (k.qualityFloor ≤ quality → f.distance ≠ none → f.good + 1 < k.interval →
      y = ({ f with good := f.good + 1, poor := 0 }, false)) ∧
    (k.qualityFloor ≤ quality → (f.distance = none ∨ k.interval ≤ f.good + 1) →
      y.2 = true ∧ y.1.distance = some smoothed ∧ y.1.good = 0 ∧ y.1.poor = 0 ∧
      y.1.updates = updates ∧ (y.1.valid = true ↔ k.validity ≤ updates) ∧
      (pass = none → y.1.fill = 0) ∧
      (∀ cfg, pass = some cfg → y.1.fill =
        if cfg.emptyDistance ≤ smoothed / 16 then 0
        else min cfg.capacity ((cfg.emptyDistance - smoothed / 16) * cfg.dtPerCm)))) ∧
  (∀ (k : StationCfg) (reading : Nat) (m : Moisture),
    let y := m.sample k reading
    let wet := if k.wetThreshold ≤ reading then min k.moistureCount (m.wetRun + 1) else 0
    let dry := if k.wetThreshold ≤ reading then 0
      else if reading < k.dryThreshold then min k.moistureCount (m.dryRun + 1) else 0
    y.wetRun = wet ∧ y.dryRun = dry ∧
    y.state = if wet = k.moistureCount then .wet else if dry = k.moistureCount then .dry else m.state)

/-- R60, R61: the sixteen well-formed octets show no error, one inverted bit is found by its place, and
two inverted bits are a double error. -/
def Obligations.SequenceOctetCode : Prop :=
  ∀ (h : Bool) (c : BitVec 3),
    classifyOctet (wellFormedOctet h c) = .noError ∧
    octetHealthy (wellFormedOctet h c) = h ∧ octetCount (wellFormedOctet h c) = c ∧
    (∀ i : Fin 8, classifyOctet (invertBit (wellFormedOctet h c) i.val) = .single i.val) ∧
    (∀ i j : Fin 8, i ≠ j →
      classifyOctet (invertBit (invertBit (wellFormedOctet h c) i.val) j.val) = .double)

/-- R62, R63: the table of the check machine, with the octet handed on. -/
def Obligations.CheckMachineTable : Prop :=
  ∀ (x : Station) (o : Octet),
    (classifyOctet o = .noError → x.checkOctet o = ({ x with check := .correcting }, some o)) ∧
    (∀ bit, classifyOctet o = .single bit →
      (x.check = .correcting →
        x.checkOctet o =
          ({ x.bump .corrected 1 with check := .detecting }, some (invertBit o bit)) ∧
        classifyOctet (invertBit o bit) = .noError) ∧
      (x.check = .detecting →
        x.checkOctet o = ({ x.bump .uncorrectable 1 with check := .detecting }, none))) ∧
    (classifyOctet o = .double →
      x.checkOctet o = ({ x.bump .uncorrectable 1 with check := .detecting }, none))

/-- R64 to R69, R75, section 9.6: acquisition in HUNT and TRIAL, and the tables of LOCKED, SKIP, DOUBT and
LATE; an event counter goes up by the number it is given, wraps from 255 to 0 and then sets its rollover flag,
and the accepted counter does so at 65 535. -/
def Obligations.OrderMachineTables : Prop :=
  (∀ (x : Station) (h : Bool) (c : BitVec 3) (now : Clock),
     let d := c - x.last
     let accepted := (x.accept h c now, true)
     (x.order = .hunt →
       x.orderValid h c now = (x.toTrial c, false) ∧ x.orderInvalid.order = .hunt) ∧
     (x.order = .trial →
       (d = 1 → x.orderValid h c now = accepted) ∧
       (d ≠ 1 → x.orderValid h c now = (x.toTrial c, false)) ∧ x.orderInvalid.order = .hunt) ∧
     (x.order = .locked →
       (d = 1 → x.orderValid h c now = accepted) ∧
       (d = 0 → x.orderValid h c now = (x.bump .duplicates 1, false)) ∧
       (d ≠ 0 → d ≠ 1 → x.orderValid h c now =
         ({ x.bump .sequenceErrors 1 with order := .skip, held := some c }, false)) ∧
       x.orderInvalid = { x.bump .sequenceErrors 1 with order := .doubt }) ∧
     (x.accept h c now).order = .locked ∧ (x.accept h c now).last = c ∧
     (x.accept h c now).accepted = x.accepted + 1 ∧ (x.accept h c now).late = some now ∧
     (x.accept h c now).healthy = h ∧ (x.accept h c now).held = none ∧
     (x.toTrial c).order = .trial ∧ (x.toTrial c).last = c ∧ (x.toTrial c).late = none ∧
     (x.toTrial c).events = x.events ∧ x.toHunt.events = x.events ∧ x.toHunt.late = none) ∧
  (∀ (x : Station) (h : Bool) (c : BitVec 3) (now : Clock),
     let d := c - x.last
     (∀ held, x.order = .skip → x.held = some held →
       (c - held = 1 → x.orderValid h c now =
         (((x.bump .lost ((held - x.last).toNat - 1)).bump .withheld 1).accept h c now, true)) ∧
       (c - held ≠ 1 → d = 1 → x.orderValid h c now =
         ((x.bump .misinserted 1).accept h c now, true)) ∧
       (c - held ≠ 1 → d ≠ 1 → x.orderValid h c now = (x.toTrial c, false)) ∧
       x.orderInvalid = x.toHunt) ∧
     (x.order = .doubt →
       (d = 1 → x.orderValid h c now = ((x.bump .misinserted 1).accept h c now, true)) ∧
       (d = 2 → x.orderValid h c now = ((x.bump .lost 1).accept h c now, true)) ∧
       (d ≠ 1 → d ≠ 2 → x.orderValid h c now = (x.toTrial c, false)) ∧
       x.orderInvalid = x.toHunt) ∧
     (x.order = .late →
       (d = 0 → x.orderValid h c now = (x.bump .duplicates 1, false)) ∧
       (d ≠ 0 → x.orderValid h c now = ((x.bump .lost (d.toNat - 1)).accept h c now, true)) ∧
       x.orderInvalid = x)) ∧
  (∀ (x : Station) (counter : Counter) (n : Nat),
     let i := counter.index
     let y := x.bump counter n
     let sum := x.events[i].toNat + n
     y = { x with events := y.events, rollover := y.rollover } ∧
     y.events[i].toNat = sum % 256 ∧ (∀ j : Fin 10, j ≠ i → y.events[j] = x.events[j]) ∧
     (∀ b : Fin 11, y.rollover.getLsbD b.val =
       (x.rollover.getLsbD b.val || (decide (b.val = i.val + 1) && decide (256 ≤ sum))))) ∧
  (∀ (x : Station) (h : Bool) (c : BitVec 3) (now : Clock),
     let y := x.accept h c now
     y.events = x.events ∧
     y.accepted.toNat = (x.accepted.toNat + 1) % 65536 ∧
     (∀ b : Fin 11, y.rollover.getLsbD b.val =
       (x.rollover.getLsbD b.val || (decide (b.val = 0) && decide (x.accepted.toNat = 65535)))) ∧
     y.check = x.check) ∧
  [Counter.corrected, .uncorrectable, .duplicates, .sequenceErrors, .lost, .withheld, .misinserted,
    .late, .torn, .misaddressed].map Counter.index = List.finRange 10

/-- R71: the freshness of a station, for every order state and flag. -/
def Obligations.FreshnessIsDecided : Prop :=
  ∀ x : Station,
    (x.order = .locked ∨ x.order = .skip ∨ x.order = .doubt →
      x.freshness = if x.healthy then .fresh else .sourceFault) ∧
    (x.order = .hunt ∨ x.order = .trial ∨ x.order = .late → x.freshness = .stale)

/-- R8: the fill class after a recomputation in which a measure is available. -/
def Obligations.FillClassIsDecided : Prop :=
  ∀ (k : PassCfg) (r : Pass), r.levelValid = true ∨ r.settled = true →
    let x := r.estimate k
    (k.fullMark ≤ x.high → x.cls = .full) ∧
    (x.high < k.fullMark → r.cls = .full → k.releaseMark ≤ x.high → x.cls = .full) ∧
    (x.high < k.fullMark → (r.cls ≠ .full ∨ x.high < k.releaseMark) →
      (k.highMark ≤ x.high → x.cls = .high) ∧
      (x.high < k.highMark → x.low < k.cushionMark → x.cls = .cushion) ∧
      (x.high < k.highMark → k.cushionMark ≤ x.low → x.cls = .working))

/-! ## Commits on outlet slots (chapter 5) -/

/-- R167: an order code outside the list of its slot's kind is refused BAD_CODE. -/
def Obligations.BadCodesAreRefused : Prop :=
  ∀ (s : State) (k : Fin 24) (code tag : Octet), s.takesCommits →
    (match ownerOf k with
      | .outlet _ => 5 ≤ code.toNat
      | .tip _ => 4 ≤ code.toNat
      | .pass _ => 8 ≤ code.toNat) →
    ∃ t, exec (.commitBadCode k code tag) s = .next t ∧ s.refusedWith t k tag .badCode

/-- R97, R98, R99: a DRAW that passes every check starts an order on the outlet: the set-points, clamped
under the wet restriction, the snapshot, OPENING with its timer, and the consumed grant. -/
def Obligations.DrawStartsOrder : Prop :=
  ∀ (s : State) (n : Fin 8) (tag : Octet) (load : LoadRecord),
    let k := outletSlot n
    let p := (s.live.outletCfg n).pass
    let cfg := s.live.passCfg p
    let o := s.ctl.outlet n
    let r := s.ctl.pass p
    let q := s.env.outletQual n
    let sp := (s.commitOf k 1 tag).sp
    s.takesCommits → (s.live.outletCfg n).present = true → r.state = .running →
    s.env.outletFresh n = true → o.lastRecord = some load → r.cls ≠ .unknown →
    (cfg.cushionMark ≤ r.low ∨ r.grant = true) → o.state = .idle →
    (r.wetActive = false ∨ s.ctl.otherDrawing s.env n = false) →
    10 ≤ sp.a.toNat → sp.a.toNat ≤ 5000 → 1 ≤ sp.b.toNat → sp.b.toNat ≤ 250 →
    20 ≤ sp.c.toNat → sp.c.toNat ≤ 100 → q.d2.value = .yes → q.d0.value = .yes →
    let target := if r.wetActive then min cfg.restrictedTarget sp.a.toNat else sp.a.toNat
    let opening := if r.wetActive then min cfg.restrictedOpening sp.c.toNat else sp.c.toNat
    let clamp := clampCode (target != sp.a.toNat) (opening != sp.c.toNat)
    ∃ t, exec (.draw n tag) s = .next t ∧
      t.ctl.outlet n =
        { state := .opening, tag := some tag, orderedTarget := sp.a.toNat
          orderedOpening := sp.c.toNat, workingTarget := target, workingOpening := opening
          remaining := sp.b.toNat, completed := 0, latchTarget := none, latchCycles := none
          latchOpening := none, stopAfter := false, grantHeld := r.grant, snapshot := load.weight
          highMark := load.weight, deliveredCycle := 0, deliveredOrder := 0
          startIdentity := load.identity, departureSeen := false, startPending := false
          lastRecord := some load, stopReason := none, lastFault := o.lastFault
          timer := some (.openT, s.clock), noFlowReports := o.noFlowReports } ∧
      (t.ctl.pass p).grant = false ∧
      s.acceptedWith t k { a := toWord target, b := sp.b, c := toWord opening } 1 tag
        (if clamp = 0 then .accepted else .clamped) clamp

/-- R43, R96, R97: the checks of a DRAW in order; the first that fails refuses it, and a DRAW that fails
only a transient one is deferred under a limit that is not 0. The limit held with the deferred commit is the
model's (log 24). -/
def Obligations.DrawChecksInOrder : Prop :=
  ∀ (s : State) (n : Fin 8) (tag : Octet),
    let k := outletSlot n
    let p := (s.live.outletCfg n).pass
    let cfg := s.live.passCfg p
    let o := s.ctl.outlet n
    let r := s.ctl.pass p
    let q := s.env.outletQual n
    let cm := s.commitOf k 1 tag
    let limit := s.live.globalCfg.outletLimit
    let permanent : List (Bool × Reason) :=
      [(!(s.live.outletCfg n).present, .notConfigured), (r.state == .lockout, .lockout),
        (o.state == .fault, .outletFault), (r.state == .hangup, .hangup),
        (!s.env.outletFresh n || o.lastRecord.isNone, .feedbackStale),
        (r.cls == .unknown, .fillUnknown),
        (decide (r.low < cfg.cushionMark) && !r.grant, .cushion), (o.state != .idle, .busy),
        (r.wetActive && s.ctl.otherDrawing s.env n, .busyPass),
        (decide (cm.sp.a.toNat < 10 ∨ 5000 < cm.sp.a.toNat ∨ cm.sp.b.toNat < 1 ∨
          250 < cm.sp.b.toNat ∨ cm.sp.c.toNat < 20 ∨ 100 < cm.sp.c.toNat), .range)]
    let transient : List (Bool × Reason) :=
      [(q.d2.value != .yes, .receiverAbsent), (q.d0.value != .yes, .gateNotClosed)]
    s.takesCommits → ∀ reason,
      (firstFailing permanent = some reason →
        ∃ t, exec (.draw n tag) s = .next t ∧ s.refusedWith t k tag reason) ∧
      (firstFailing permanent = none → firstFailing transient = some reason →
        ∃ t, exec (.draw n tag) s = .next t ∧
          (limit = 0 → s.refusedWith t k tag reason) ∧
          (limit ≠ 0 → s.deferredWith t k cm reason limit))

/-- R96, R109: an ADJUST on a running order latches each value it names, lowered under the wet restriction,
and otherwise is refused WRONG_STATE or RANGE, or NOT_CONFIGURED. Only a named value is clamped, and what the
latch holds is the value as lowered: the model's (log 16, log 42). -/
def Obligations.AdjustLatchesValues : Prop :=
  (∀ (s : State) (n : Fin 8) (tag : Octet),
    let k := outletSlot n
    let p := (s.live.outletCfg n).pass
    let cfg := s.live.passCfg p
    let o := s.ctl.outlet n
    let wet := (s.ctl.pass p).wetActive
    let sp := (s.commitOf k 2 tag).sp
    let inRange := (sp.a = 0 ∨ (10 ≤ sp.a.toNat ∧ sp.a.toNat ≤ 5000)) ∧
      (sp.b = 0 ∨ (1 ≤ sp.b.toNat ∧ sp.b.toNat ≤ 250)) ∧
      (sp.c = 0 ∨ (20 ≤ sp.c.toNat ∧ sp.c.toNat ≤ 100))
    let a := if wet then min cfg.restrictedTarget sp.a.toNat else sp.a.toNat
    let c := if wet then min cfg.restrictedOpening sp.c.toNat else sp.c.toNat
    let clamp := clampCode (sp.a != 0 && a != sp.a.toNat) (sp.c != 0 && c != sp.c.toNat)
    s.takesCommits → (s.live.outletCfg n).present = true →
    (o.state.active = true → inRange → ∃ t, exec (.adjust n tag) s = .next t ∧
      t.ctl.outlet n =
        { o with
          latchTarget := if sp.a = 0 then o.latchTarget else some a
          latchCycles := if sp.b = 0 then o.latchCycles else some sp.b.toNat
          latchOpening := if sp.c = 0 then o.latchOpening else some c } ∧
      s.acceptedWith t k (s.ctl.slot k).copy
        (if o.state = .opening ∨ o.state = .flowing then 1 else 0) tag
        (if clamp = 0 then .accepted else .clamped) clamp) ∧
    (o.state.active = false → ∃ t, exec (.adjust n tag) s = .next t ∧
      s.refusedWith t k tag .wrongState) ∧
    (o.state.active = true → ¬inRange → ∃ t, exec (.adjust n tag) s = .next t ∧
      s.refusedWith t k tag .range)) ∧
  (∀ (s : State) (n : Fin 8) (tag : Octet), s.takesCommits → (s.live.outletCfg n).present = false →
    ∃ t, exec (.adjust n tag) s = .next t ∧ s.refusedWith t (outletSlot n) tag .notConfigured)

/-- R96, R108, R110: STOP_AFTER sets its flag in OPENING, FLOWING and CLOSING, ends the order at once in
INDEXING, and is refused in the other states, and NOT_CONFIGURED on an outlet that is not. -/
def Obligations.StopAfterEndsOrder : Prop :=
  (∀ (s : State) (n : Fin 8) (tag : Octet),
    let k := outletSlot n
    let o := s.ctl.outlet n
    s.takesCommits → (s.live.outletCfg n).present = true →
    (o.state = .opening ∨ o.state = .flowing ∨ o.state = .closing →
      ∃ t, exec (.stopAfter n tag) s = .next t ∧
        t.ctl.outlet n = { o with stopAfter := true } ∧ t.ctl.passes = s.ctl.passes ∧
        s.acceptedWith t k (s.ctl.slot k).copy (if o.state = .closing then 0 else 1) tag
          .accepted 0) ∧
    (o.state = .indexing → ∃ t, exec (.stopAfter n tag) s = .next t ∧
      t.ctl.outlet n =
        { o with
          state := .idle, tag := none, latchTarget := none, latchCycles := none
          latchOpening := none, stopAfter := false, grantHeld := false, departureSeen := false
          startPending := false, stopReason := some .stopAfter, timer := none } ∧
      t.ctl.journal = (s.ctl.report s.env .orderEnd n.val (o.tag.getD 0).toNat 2 o.completed
        o.deliveredOrder).journal ∧
      s.acceptedWith t k (s.ctl.slot k).copy 0 tag .accepted 0) ∧
    (o.state = .idle ∨ o.state = .stopping ∨ o.state = .fault →
      ∃ t, exec (.stopAfter n tag) s = .next t ∧ s.refusedWith t k tag .wrongState)) ∧
  (∀ (s : State) (n : Fin 8) (tag : Octet), s.takesCommits → (s.live.outletCfg n).present = false →
    ∃ t, exec (.stopAfter n tag) s = .next t ∧ s.refusedWith t (outletSlot n) tag .notConfigured)

/-- R96, R111, R113, R114: the table of CLOSE, which is refused NOT_CONFIGURED on an outlet that is not, and
FORCE_CLOSE, accepted in every state, configured or not. -/
def Obligations.CloseAndForceClose : Prop :=
  (∀ (s : State) (n : Fin 8) (tag : Octet),
     let k := outletSlot n
     let o := s.ctl.outlet n
     s.takesCommits → (s.live.outletCfg n).present = true →
     (o.state = .fault → (s.env.outletQual n).d0.value ≠ .yes →
       ∃ t, exec (.close n tag) s = .next t ∧ s.refusedWith t k tag .gateNotClosed) ∧
     ((o.state = .fault → (s.env.outletQual n).d0.value = .yes) →
       ∃ t, exec (.close n tag) s = .next t ∧
         s.acceptedWith t k (s.ctl.slot k).copy 0 tag .accepted 0 ∧
         (o.state = .idle ∨ o.state = .stopping → t.ctl.outlet n = o) ∧
         (o.state = .opening ∨ o.state = .flowing → t.ctl.outlet n =
           { o with
             state := .stopping, stopReason := some .hostClose, startPending := false
             timer := some (.close, s.clock) }) ∧
         (o.state = .closing → t.ctl.outlet n = { o with stopAfter := true }) ∧
         (o.state = .indexing → (t.ctl.outlet n).state = .idle ∧
           (t.ctl.outlet n).stopReason = some .hostClose ∧ (t.ctl.outlet n).tag = none ∧
           (t.ctl.outlet n).timer = none) ∧
         (o.state = .fault → t.ctl.outlet n = { o with state := .idle }))) ∧
  (∀ (s : State) (n : Fin 8) (tag : Octet),
     let k := outletSlot n
     let o := s.ctl.outlet n
     s.takesCommits →
       ∃ t, exec (.forceClose n tag) s = .next t ∧
         s.acceptedWith t k (s.ctl.slot k).copy 0 tag .accepted 0 ∧
         (o.state = .idle ∨ o.state = .stopping → t.ctl.outlet n = o) ∧
         (o.state.active = true → t.ctl.outlet n =
           { o with
             state := .stopping, stopReason := some .forced, startPending := false
             timer := if o.state = .closing then o.timer else some (.close, s.clock) }) ∧
         (o.state = .fault → t.ctl.outlet n =
           { o with state := if (s.env.outletQual n).d0.value = .yes then .idle else .fault })) ∧
  (∀ (s : State) (n : Fin 8) (tag : Octet), s.takesCommits → (s.live.outletCfg n).present = false →
    ∃ t, exec (.close n tag) s = .next t ∧ s.refusedWith t (outletSlot n) tag .notConfigured)

/-! ## Commits on tip-point slots (chapter 6) -/

/-- R126, R127, R128: the checks of a PERMIT in order; one that passes opens the tip point with its
count, a permanent failure refuses it, and a transient one defers it under a limit that is not 0. That the
state PARKING fails the check of the parked boom is the model's (log 17), and so are the permit count as
executed (log 10) and the limit held with a deferred commit (log 24). -/
def Obligations.PermitChecksInOrder : Prop :=
  ∀ (s : State) (n : Fin 12) (tag : Octet),
    let k := tipSlot n
    let r := s.ctl.pass (s.live.tipCfg n).pass
    let x := s.ctl.tip n
    let q := s.env.tipQual n
    let cm := s.commitOf k 1 tag
    let limit := s.live.globalCfg.tipLimit
    let permanent : List (Bool × Reason) :=
      [(!(s.live.tipCfg n).present, .notConfigured),
        (cm.sp.b != 0 || cm.sp.c != 0 || decide (50 < cm.sp.a.toNat), .range),
        (r.state == .lockout, .lockout), (x.state == .fault, .tipPointFault),
        (x.state == .breaking, .boomFree), (r.state == .hangup, .hangup),
        (!s.env.tipFresh n, .feedbackStale), (r.cls == .unknown, .fillUnknown),
        (r.cls == .full, .full), (s.ctl.relatedIn s.env n .breaking, .fallPath)]
    let transient : List (Bool × Reason) :=
      [(x.state == .parking || q.d2.value != .yes, .boomNotParked),
        (q.d1.value != .yes, .grizzlyOccupied)]
    s.takesCommits →
      (∀ reason, firstFailing permanent = some reason →
        ∃ t, exec (.permit n tag) s = .next t ∧ s.refusedWith t k tag reason) ∧
      (∀ reason, firstFailing permanent = none → x.state ≠ .opened →
        firstFailing transient = some reason →
        ∃ t, exec (.permit n tag) s = .next t ∧
          (limit = 0 → s.refusedWith t k tag reason) ∧
          (limit ≠ 0 → s.deferredWith t k cm reason limit)) ∧
      (firstFailing permanent = none → (x.state = .opened ∨ firstFailing transient = none) →
        ∃ t, exec (.permit n tag) s = .next t ∧
          t.ctl.tip n =
            { x with
              state := .opened, remaining := cm.sp.a.toNat, permitCount := cm.sp.a.toNat } ∧
          s.acceptedWith t k { a := cm.sp.a, b := 0, c := 0 } 1 tag .accepted 0)

/-- R126, R129: WITHDRAW closes an OPEN tip point and leaves one in another state as it is; it is refused
RANGE where a set-point B or C is not 0. That this holds of a tip point that is not configured too is the
model's reading (log 38). -/
def Obligations.WithdrawClosesTip : Prop :=
  ∀ (s : State) (n : Fin 12) (tag : Octet),
    let k := tipSlot n
    let x := s.ctl.tip n
    let sp := (s.commitOf k 0 tag).sp
    s.takesCommits →
    (sp.b = 0 → sp.c = 0 → ∃ t, exec (.withdraw n tag) s = .next t ∧
      t.ctl.tip n =
        (if x.state = .opened then { x with state := .closed, remaining := 0 } else x) ∧
      s.acceptedWith t k (s.ctl.slot k).copy (if x.state = .breaking then 2 else 0) tag
        .accepted 0) ∧
    (sp.b ≠ 0 ∨ sp.c ≠ 0 → ∃ t, exec (.withdraw n tag) s = .next t ∧
      s.refusedWith t k tag .range)

/-- R126, R130, R131, R134: BOOM_WORK frees the boom where its checks pass, and BOOM_PARK takes a free
boom back to rest; both are refused NOT_CONFIGURED on a tip point that is not, and RANGE where set-point B or
C is not 0. -/
def Obligations.BoomOrders : Prop :=
  (∀ (s : State) (n : Fin 12) (tag : Octet),
    let k := tipSlot n
    let r := s.ctl.pass (s.live.tipCfg n).pass
    let x := s.ctl.tip n
    let q := s.env.tipQual n
    let before : List (Bool × Reason) :=
      [(r.state == .lockout, .lockout), (x.state == .opened, .tipOpen)]
    let after : List (Bool × Reason) :=
      [(!s.env.tipFresh n, .feedbackStale), (s.ctl.relatedIn s.env n .opened, .fallPath),
        (q.d0.value != .no, .truckPresent)]
    s.takesCommits → (s.live.tipCfg n).present = true →
    (let sp := (s.commitOf k 2 tag).sp
     sp.b = 0 → sp.c = 0 →
      (∀ reason, firstFailing before = some reason ∨ (firstFailing before = none ∧
          x.state ≠ .breaking ∧ firstFailing after = some reason) →
        ∃ t, exec (.boomWork n tag) s = .next t ∧ s.refusedWith t k tag reason) ∧
      (firstFailing before = none → (x.state = .breaking ∨ firstFailing after = none) →
        ∃ t, exec (.boomWork n tag) s = .next t ∧
          t.ctl.tip n =
            (if x.state = .breaking then x
             else { x with state := .breaking, park := .stopped }) ∧
          s.acceptedWith t k (s.ctl.slot k).copy 2 tag .accepted 0)) ∧
    (let sp := (s.commitOf k 3 tag).sp
     sp.b = 0 → sp.c = 0 →
      ∃ t, exec (.boomPark n tag) s = .next t ∧
        t.ctl.tip n =
          (if x.state = .breaking then
            (if q.d2.value = .yes then { x with state := .closed, park := .stopped }
             else { x with state := .parking, park := .running s.clock })
           else x) ∧
        s.acceptedWith t k (s.ctl.slot k).copy (if x.state = .opened then 1 else 0) tag
          .accepted 0)) ∧
  (∀ (s : State) (n : Fin 12) (tag : Octet), s.takesCommits →
    let refused (c : Instr) (reason : Reason) :=
      ∃ t, exec c s = .next t ∧ s.refusedWith t (tipSlot n) tag reason
    ((s.live.tipCfg n).present = false →
      refused (.boomWork n tag) .notConfigured ∧ refused (.boomPark n tag) .notConfigured) ∧
    ((s.live.tipCfg n).present = true →
      ((s.commitOf (tipSlot n) 2 tag).sp.b ≠ 0 ∨ (s.commitOf (tipSlot n) 2 tag).sp.c ≠ 0 →
        refused (.boomWork n tag) .range) ∧
      ((s.commitOf (tipSlot n) 3 tag).sp.b ≠ 0 ∨ (s.commitOf (tipSlot n) 3 tag).sp.c ≠ 0 →
        refused (.boomPark n tag) .range)))

/-! ## Commits on pass slots (chapter 1) -/

/-- R22, R23: LOCKOUT is accepted in every pass state. Its entry from another state leaves no order running on
the outlets of the pass (each running one is STOPPING with reason LOCKOUT), leaves none of its tip points
OPEN or BREAKING (each OPEN one is CLOSED), empties the holders of its members, clears the cause and the
grant and keeps the inventory; in LOCKOUT nothing but the slot changes. LOCKOUT
is refused NOT_CONFIGURED on a pass that is not, and RANGE where set-point B or C is not 0. -/
def Obligations.LockoutStopsThePass : Prop :=
  (∀ (s : State) (p : Fin 4) (tag : Octet),
    let k := passSlot p
    let r := s.ctl.pass p
    let sp := (s.commitOf k 0 tag).sp
    s.takesCommits → (s.live.passCfg p).present = true → sp.b = 0 → sp.c = 0 →
    ∃ t, exec (.lockout p tag) s = .next t ∧ (t.ctl.pass p).state = .lockout ∧
      s.acceptedWith t k { a := sp.a, b := 0, c := 0 } 0 tag .accepted 0 ∧
      (r.state = .lockout → t.ctl = s.ctl.setSlot k (t.ctl.slot k)) ∧
      (r.state ≠ .lockout →
        (t.ctl.pass p).cause = .none ∧ (t.ctl.pass p).grant = false ∧
        (t.ctl.pass p).inventory = r.inventory ∧
        (∀ n ∈ s.live.outletsOf p, (t.ctl.outlet n).state.active = false ∧
          (t.ctl.slot (outletSlot n)).holder = none ∧
          ((s.ctl.outlet n).state.active = true →
            (t.ctl.outlet n).state = .stopping ∧
            (t.ctl.outlet n).stopReason = some .lockout)) ∧
        (∀ x ∈ s.live.tipsOf p, (t.ctl.slot (tipSlot x)).holder = none ∧
          (t.ctl.tip x).state.given = false ∧
          ((s.ctl.tip x).state = .opened → (t.ctl.tip x).state = .closed)))) ∧
  (∀ (s : State) (p : Fin 4) (tag : Octet), s.takesCommits →
    ∀ c ∈ [Instr.lockout p tag],
      ((s.live.passCfg p).present = false →
        ∃ t, exec c s = .next t ∧ s.refusedWith t (passSlot p) tag .notConfigured) ∧
      (∀ code : Octet, commitWord c = some (joinWord tag code) → (s.live.passCfg p).present = true →
        (s.commitOf (passSlot p) code tag).sp.b ≠ 0 ∨ (s.commitOf (passSlot p) code tag).sp.c ≠ 0 →
        ∃ t, exec c s = .next t ∧ s.refusedWith t (passSlot p) tag .range))

/-- R22, R24, R25: RUN brings a pass from LOCKOUT and RELEASE_HANGUP from HANGUP into RUNNING, with the level
reference started and the accumulator cleared; the other states refuse or keep. Both are refused
NOT_CONFIGURED on a pass that is not, and RANGE where set-point B or C is not 0. -/
def Obligations.RunAndReleaseEnterRunning : Prop :=
  (∀ (s : State) (p : Fin 4) (tag : Octet),
    let k := passSlot p
    let r := s.ctl.pass p
    let entered (t : State) := (t.ctl.pass p).state = .running ∧ (t.ctl.pass p).cause = .none ∧
      (t.ctl.pass p).accumulator = 0 ∧
      (t.ctl.pass p).reference = if r.levelValid then r.levelFill else 0
    s.takesCommits → (s.live.passCfg p).present = true →
    (let sp := (s.commitOf k 1 tag).sp
     sp.b = 0 → sp.c = 0 →
      (r.state ≠ .hangup → ∃ t, exec (.run p tag) s = .next t ∧
        (r.state = .lockout → entered t) ∧ (r.state = .running → t.ctl.passes = s.ctl.passes) ∧
        s.acceptedWith t k { a := sp.a, b := 0, c := 0 } 1 tag .accepted 0) ∧
      (r.state = .hangup → ∃ t, exec (.run p tag) s = .next t ∧
        s.refusedWith t k tag .wrongState)) ∧
    (let sp := (s.commitOf k 2 tag).sp
     sp.b = 0 → sp.c = 0 →
      (r.state = .hangup → ∃ t, exec (.releaseHangup p tag) s = .next t ∧ entered t ∧
        s.acceptedWith t k { a := sp.a, b := 0, c := 0 } 1 tag .accepted 0) ∧
      (r.state ≠ .hangup → ∃ t, exec (.releaseHangup p tag) s = .next t ∧
        s.refusedWith t k tag .wrongState))) ∧
  (∀ (s : State) (p : Fin 4) (tag : Octet), s.takesCommits →
    ∀ c ∈ [Instr.run p tag, .releaseHangup p tag],
      ((s.live.passCfg p).present = false →
        ∃ t, exec c s = .next t ∧ s.refusedWith t (passSlot p) tag .notConfigured) ∧
      (∀ code : Octet, commitWord c = some (joinWord tag code) → (s.live.passCfg p).present = true →
        (s.commitOf (passSlot p) code tag).sp.b ≠ 0 ∨ (s.commitOf (passSlot p) code tag).sp.c ≠ 0 →
        ∃ t, exec c s = .next t ∧ s.refusedWith t (passSlot p) tag .range))

/-- R20, R22, R26: DECLARE_WET and CLEAR_WET set and clear the host flag in every pass state; EMPTY_OUT sets
the grant outside LOCKOUT (no waiting outlet being there to consume it). All three are refused
NOT_CONFIGURED on a pass that is not, and RANGE where set-point B or C is not 0. -/
def Obligations.WetAndEmptyOutCommits : Prop :=
  (∀ (s : State) (p : Fin 4) (tag : Octet),
    let k := passSlot p
    let r := s.ctl.pass p
    let code := BitVec.ofNat 8 r.state.code
    s.takesCommits → (s.live.passCfg p).present = true →
    (let sp := (s.commitOf k 3 tag).sp
     sp.b = 0 → sp.c = 0 → ∃ t, exec (.declareWet p tag) s = .next t ∧
        (t.ctl.pass p).hostWet = true ∧
        s.acceptedWith t k { a := sp.a, b := 0, c := 0 } code tag .accepted 0) ∧
    (let sp := (s.commitOf k 4 tag).sp
     sp.b = 0 → sp.c = 0 → ∃ t, exec (.clearWet p tag) s = .next t ∧
        (t.ctl.pass p).hostWet = false ∧
        (r.hostWet = true → r.wetActive = true → r.sensorWet ≠ .wet →
          (t.ctl.pass p).wetActive = false ∧ (t.ctl.pass p).dwell = 0) ∧
        s.acceptedWith t k { a := sp.a, b := 0, c := 0 } code tag .accepted 0) ∧
    (let sp := (s.commitOf k 5 tag).sp
     sp.b = 0 → sp.c = 0 →
      (r.state ≠ .lockout → ∃ t, exec (.emptyOut p tag) s = .next t ∧
        ((∀ n ∈ s.live.outletsOf p, s.ctl.waits n = false) → (t.ctl.pass p).grant = true) ∧
        s.acceptedWith t k { a := sp.a, b := 0, c := 0 } code tag .accepted 0) ∧
      (r.state = .lockout → ∃ t, exec (.emptyOut p tag) s = .next t ∧
        s.refusedWith t k tag .lockout))) ∧
  (∀ (s : State) (p : Fin 4) (tag : Octet), s.takesCommits →
    ∀ c ∈ [Instr.declareWet p tag, .clearWet p tag, .emptyOut p tag],
      ((s.live.passCfg p).present = false →
        ∃ t, exec c s = .next t ∧ s.refusedWith t (passSlot p) tag .notConfigured) ∧
      (∀ code : Octet, commitWord c = some (joinWord tag code) → (s.live.passCfg p).present = true →
        (s.commitOf (passSlot p) code tag).sp.b ≠ 0 ∨ (s.commitOf (passSlot p) code tag).sp.c ≠ 0 →
        ∃ t, exec c s = .next t ∧ s.refusedWith t (passSlot p) tag .range))

/-- R22, R27: the inventory is set from a valid level or from set-point A and becomes settled, REBASE is
journaled with its cause and the two values, a change of the fill class behind it, and the accumulator and the
level reference are kept (no waiting outlet being there to journal more); an invalid level and an amount above
the capacity are refused. Both are refused NOT_CONFIGURED on a pass that is not,
and RANGE where set-point B or C is not 0. -/
def Obligations.InventoryIsRebased : Prop :=
  (∀ (s : State) (p : Fin 4) (tag : Octet),
    let k := passSlot p
    let r := s.ctl.pass p
    let kept (t : State) := (t.ctl.pass p).accumulator = r.accumulator ∧
      (t.ctl.pass p).reference = r.reference
    let journaled (t : State) (cause value : Nat) :=
      let rebase := s.ctl.report s.env .rebase p.val cause r.inventory value 0
      let x := t.ctl.pass p
      (∀ n ∈ s.live.outletsOf p, s.ctl.waits n = false) → t.ctl.journal =
        (if x.cls = r.cls then rebase
         else rebase.report s.env .fillClass p.val r.cls.code x.cls.code x.high x.low).journal
    let code := BitVec.ofNat 8 r.state.code
    s.takesCommits → (s.live.passCfg p).present = true →
    (let sp := (s.commitOf k 6 tag).sp
     sp.b = 0 → sp.c = 0 →
      (r.levelValid = true → ∃ t, exec (.rebaseFromLevel p tag) s = .next t ∧
        (t.ctl.pass p).inventory = r.levelFill ∧ (t.ctl.pass p).settled = true ∧ kept t ∧
        journaled t 2 r.levelFill ∧
        s.acceptedWith t k { a := sp.a, b := 0, c := 0 } code tag .accepted 0) ∧
      (r.levelValid = false → ∃ t, exec (.rebaseFromLevel p tag) s = .next t ∧
        s.refusedWith t k tag .levelInvalid)) ∧
    (let sp := (s.commitOf k 7 tag).sp
     sp.b = 0 → sp.c = 0 →
      (sp.a.toNat ≤ (s.live.passCfg p).capacity → ∃ t, exec (.setInventory p tag) s = .next t ∧
        (t.ctl.pass p).inventory = sp.a.toNat ∧ (t.ctl.pass p).settled = true ∧ kept t ∧
        journaled t 3 sp.a.toNat ∧
        s.acceptedWith t k { a := sp.a, b := 0, c := 0 } code tag .accepted 0) ∧
      ((s.live.passCfg p).capacity < sp.a.toNat → ∃ t, exec (.setInventory p tag) s = .next t ∧
        s.refusedWith t k tag .range))) ∧
  (∀ (s : State) (p : Fin 4) (tag : Octet), s.takesCommits →
    ∀ c ∈ [Instr.rebaseFromLevel p tag, .setInventory p tag],
      ((s.live.passCfg p).present = false →
        ∃ t, exec c s = .next t ∧ s.refusedWith t (passSlot p) tag .notConfigured) ∧
      (∀ code : Octet, commitWord c = some (joinWord tag code) → (s.live.passCfg p).present = true →
        (s.commitOf (passSlot p) code tag).sp.b ≠ 0 ∨ (s.commitOf (passSlot p) code tag).sp.c ≠ 0 →
        ∃ t, exec c s = .next t ∧ s.refusedWith t (passSlot p) tag .range))

/-- What a commit leaves alone: a commit on a member's slot changes no other kind of member and no other
pass, a commit on a pass slot no other pass and none of its members; memory, the records of the
stations, the clock, the configuration, the bulk queue, the mirror and the link keep their values. -/
def Obligations.CommitFrame : Prop :=
  ∀ (c : Instr) (k : Fin 24) (s t : State), commitSlot c = some k → exec c s = .next t →
    t = { s with
          port := t.port, busReady := t.busReady, urgent := t.urgent, ctl := t.ctl
          drainer := t.drainer } ∧
    match ownerOf k with
    | .outlet n =>
      (∀ x, t.ctl.tip x = s.ctl.tip x) ∧
      (∀ p, p ≠ (s.live.outletCfg n).pass → t.ctl.pass p = s.ctl.pass p) ∧
      ∀ m, m ≠ n → m ∉ s.live.outletsOf (s.live.outletCfg n).pass →
        t.ctl.outlet m = s.ctl.outlet m
    | .tip n =>
      (∀ m, t.ctl.outlet m = s.ctl.outlet m) ∧ (∀ p, t.ctl.pass p = s.ctl.pass p) ∧
      ∀ x, x ≠ n → x ∉ s.live.tipsOf (s.live.tipCfg n).pass → t.ctl.tip x = s.ctl.tip x
    | .pass p =>
      (∀ q, q ≠ p → t.ctl.pass q = s.ctl.pass q) ∧
      (∀ m, m ∉ s.live.outletsOf p → t.ctl.outlet m = s.ctl.outlet m) ∧
      ∀ x, x ∉ s.live.tipsOf p → t.ctl.tip x = s.ctl.tip x

/-! ## Timers and reports -/

/-- R5, R6, R7, R8, R10, R11, R12, R15, R16, R17, R18, R19: the dwell of a configured pass goes up by a
second and can activate the wet restriction; a disagreement that outlasts its hold time is journaled once. A
recomputation decides the two sides and the class by the table of R7 and the order of R8, starts, keeps or
stops the disagreement timer and clears its reported flag, and journals FILL_CLASS. A debit lowers the
inventory, feeds the hang-up accumulator of a RUNNING pass with a valid level into HANGUP at the threshold,
and adds to the loosening mass under the restriction; a credit raises the inventory to the capacity; a level
report moves fill, valid flag, an unsettled inventory and the hang-up reference, and a moisture report the
sensor field and with it the restriction. Each journals what it clamps, rebases or changes (INVENTORY_CLAMP,
REBASE, FILL_CLASS, PASS_STATE, WET_RESTRICT). The next interval runs from the exact moment of the expiry,
and the disagreement timer stops at its own: the model's (log 14, log 15), as are the order of a debit's
parts (log 13) and LOOSENED before DRY (log 40). -/
def Obligations.PassTimersExpire : Prop :=
  let recomputed (e : Env) (p : Fin 4) (r x : Pass) : Prop :=
    let k := e.passCfg p
    let level := r.levelFill
    let stock := r.inventory
    let apart := k.tolerance < max level stock - min level stock
    (r.levelValid = true → r.settled = true → x.high = max level stock ∧ x.low = min level stock) ∧
    (r.levelValid = true → r.settled = false → x.high = level ∧ x.low = level) ∧
    (r.levelValid = false → r.settled = true → x.high = stock ∧ x.low = stock) ∧
    (r.levelValid = false → r.settled = false →
      x.high = r.high ∧ x.low = r.low ∧ x.cls = .unknown) ∧
    (r.levelValid = true ∨ r.settled = true → x.cls =
      if k.fullMark ≤ x.high then .full
      else if r.cls = .full ∧ k.releaseMark ≤ x.high then .full
      else if k.highMark ≤ x.high then .high
      else if x.low < k.cushionMark then .cushion
      else .working) ∧
    (r.levelValid = true → r.settled = true → apart →
      (r.disagree = none → x.disagree = some e.clock) ∧
      (r.disagree ≠ none → x.disagree = r.disagree) ∧ x.reported = r.reported) ∧
    (r.levelValid = true → r.settled = true → ¬apart → x.disagree = none ∧ x.reported = false) ∧
    (r.levelValid = false ∨ r.settled = false → x.disagree = none ∧ x.reported = r.reported)
  (∀ (e : Env) (p : Fin 4) (wasBelow : Bool) (c : Ctl),
    let r := c.pass p
    let y := recomputeFrom e p wasBelow c
    let x := y.1.pass p
    let k := e.passCfg p
    let below (r : Pass) := r.cls ≠ .unknown ∧ r.low < k.cushionMark
    recomputed e p r x ∧
    x = { r with
      high := x.high, low := x.low, cls := x.cls, disagree := x.disagree, reported := x.reported } ∧
    y.1 = { c with passes := y.1.passes, journal := y.1.journal } ∧
    (∀ j, j ≠ p → y.1.pass j = c.pass j) ∧
    y.1.journal = (if x.cls = r.cls then c
      else c.report e .fillClass p.val r.cls.code x.cls.code x.high x.low).journal ∧
    (y.2.full = true ↔ x.cls = .full ∧ r.cls ≠ .full) ∧
    (y.2.cushion = true ↔ below x ∧ wasBelow = false) ∧ y.2.hangup = false ∧ y.2.lockout = false ∧
    (y.2.touched = true ↔ x.cls ≠ r.cls ∨ (below x ↔ wasBelow = false))) ∧
  (∀ (s : State) (p : Fin 4) (since : Clock),
    let r := s.ctl.pass p
    let cfg := s.live.passCfg p
    s.resetAsserted = false → cfg.present = true →
    (r.dwellTimer = some since → 1000 ≤ (s.clock - since).toNat →
      ∃ t, exec (.dwellIntervalExpiry p) s = .next t ∧
        (t.ctl.pass p).dwell = min 65535 (r.dwell + 1) ∧
        (t.ctl.pass p).dwellTimer = some (since + 1000) ∧
        ((t.ctl.pass p).wetActive = true ↔
          r.wetActive = true ∨ ((r.hostWet = true ∨ r.sensorWet = .wet) ∧
            cfg.wetDwell ≤ min 65535 (r.dwell + 1)))) ∧
    (r.disagree = some since → cfg.holdTime * 1000 ≤ (s.clock - since).toNat →
      ∃ t, exec (.disagreementExpiry p) s = .next t ∧
        t.ctl.pass p = { r with disagree := none, reported := true } ∧
        t.ctl.journal =
          (if r.reported then s.ctl.journal
           else (s.ctl.report s.env .disagree p.val r.levelFill r.inventory cfg.holdTime 0).journal) ∧
        t.ctl.outlets = s.ctl.outlets ∧ t.ctl.tips = s.ctl.tips)) ∧
  (∀ (e : Env) (p : Fin 4) (m : Nat) (c : Ctl),
    let k := e.passCfg p
    let r := c.pass p
    let y := debit e p m c
    let d := y.1.pass p
    let acc := min 65535 (r.accumulator + m)
    let drawn := min 65535 (r.loosened + m)
    let wet := r.hostWet = true ∨ r.sensorWet = .wet
    let j1 := if r.inventory < m then c.report e .inventoryClamp p.val 2 (m - r.inventory) 0 0 else c
    let j2 := if d.cls = r.cls then j1
      else j1.report e .fillClass p.val r.cls.code d.cls.code d.high d.low
    let j3 := if r.state = .running ∧ r.levelValid = true ∧ k.threshold ≤ acc then
        j2.report e .passState p.val 1 2 1 0
      else j2
    let j4 := if r.wetActive = true ∧ (k.loosening ≤ drawn ∨ ¬wet) then
        j3.report e .wetRestrict p.val 2 (if k.loosening ≤ drawn then 1 else 2) drawn 0
      else j3
    y.1.journal = j4.journal ∧
    y.1.outlets = c.outlets ∧ y.1.tips = c.tips ∧ (∀ j, j ≠ p → y.1.pass j = c.pass j) ∧
    d.inventory = r.inventory - m ∧ d.levelFill = r.levelFill ∧ d.levelValid = r.levelValid ∧
    d.settled = r.settled ∧
    (d.inventory ≠ r.inventory → recomputed e p { r with inventory := r.inventory - m } d) ∧
    (d.inventory = r.inventory → d.high = r.high ∧ d.low = r.low ∧ d.cls = r.cls ∧
      d.disagree = r.disagree ∧ d.reported = r.reported) ∧
    (r.state = .running → r.levelValid = true → d.accumulator = acc ∧
      (acc < k.threshold → d.state = .running) ∧
      (k.threshold ≤ acc → d.state = .hangup ∧ d.cause = .levelStatic ∧ y.2.hangup = true ∧
        (y.1.slot (passSlot p)).wb.demand =
          some (joinWord (c.slot (passSlot p)).lastTag 2))) ∧
    (r.state ≠ .running ∨ r.levelValid = false →
      d.accumulator = r.accumulator ∧ d.state = r.state) ∧
    (r.wetActive = true →
      (k.loosening ≤ drawn ∨ ¬wet → d.wetActive = false ∧ d.loosened = 0 ∧ d.dwell = 0) ∧
      (drawn < k.loosening → wet → d.wetActive = true ∧ d.loosened = drawn)) ∧
    (r.wetActive = false → d.wetActive = false ∧ d.loosened = r.loosened) ∧
    let z := (credit e p m c).1
    let f := z.pass p
    let i1 := if k.capacity < r.inventory + m then
        c.report e .inventoryClamp p.val 1 (min 65535 (r.inventory + m - k.capacity)) 0 0
      else c
    z.journal = (if f.cls = r.cls then i1
      else i1.report e .fillClass p.val r.cls.code f.cls.code f.high f.low).journal ∧
    f.inventory = min k.capacity (r.inventory + m) ∧
    (f.inventory ≠ r.inventory →
      recomputed e p { r with inventory := min k.capacity (r.inventory + m) } f) ∧
    f = { r with
      inventory := f.inventory, high := f.high, low := f.low, cls := f.cls
      disagree := f.disagree, reported := f.reported }) ∧
  (∀ (e : Env) (p : Fin 4) (fill : Nat) (valid : Bool) (c : Ctl),
    let k := e.passCfg p
    let r := c.pass p
    let d := (levelReport e p fill valid c).1.pass p
    let kept := d.reference = r.reference ∧ d.accumulator = r.accumulator
    let j1 := if valid = true ∧ r.settled = false then
        c.report e .rebase p.val 1 r.inventory fill 0
      else c
    (levelReport e p fill valid c).1.journal = (if d.cls = r.cls then j1
      else j1.report e .fillClass p.val r.cls.code d.cls.code d.high d.low).journal ∧
    recomputed e p { r with
      levelFill := fill, levelValid := valid, inventory := d.inventory, settled := d.settled } d ∧
    d.levelFill = fill ∧ d.levelValid = valid ∧ d.state = r.state ∧
    (valid = true → r.settled = false → d.inventory = fill ∧ d.settled = true) ∧
    (valid = false ∨ r.settled = true → d.inventory = r.inventory ∧ d.settled = r.settled) ∧
    (r.state = .running → valid = true →
      (r.levelValid = false → d.reference = fill ∧ d.accumulator = 0) ∧
      (r.levelValid = true →
        (r.reference < fill → d.reference = fill ∧ d.accumulator = r.accumulator) ∧
        (fill ≤ r.reference → fill + k.fallStep ≤ r.reference →
          d.reference = fill ∧ d.accumulator = 0) ∧
        (fill ≤ r.reference → r.reference < fill + k.fallStep → kept))) ∧
    (r.state ≠ .running ∨ valid = false → kept)) ∧
  (∀ (e : Env) (p : Fin 4) (w : Wetness) (c : Ctl), w ≠ (c.pass p).sensorWet →
    let k := e.passCfg p
    let r := c.pass p
    let d := (sensorReport e p w c).1.pass p
    let wet := r.hostWet = true ∨ w = .wet
    let journal := (sensorReport e p w c).1.journal
    let source := (if r.hostWet = true then 1 else 0) + (if w = .wet then 2 else 0)
    d.sensorWet = w ∧ d.inventory = r.inventory ∧ d.state = r.state ∧
    (r.wetActive = false →
      (wet → k.wetDwell ≤ r.dwell → 0 < k.loosening → d.wetActive = true ∧ d.loosened = 0 ∧
        journal = (c.report e .wetRestrict p.val 1 r.dwell source 0).journal) ∧
      (¬wet ∨ r.dwell < k.wetDwell → d.wetActive = false ∧ d.dwell = r.dwell ∧
        journal = c.journal)) ∧
    (r.wetActive = true →
      (k.loosening ≤ r.loosened ∨ ¬wet → d.wetActive = false ∧ d.dwell = 0 ∧ d.loosened = 0 ∧
        journal = (c.report e .wetRestrict p.val 2 (if k.loosening ≤ r.loosened then 1 else 2)
          r.loosened 0).journal) ∧
      (r.loosened < k.loosening → wet → d.wetActive = true ∧ d.loosened = r.loosened ∧
        journal = c.journal)))

/-- R9, R13, R14, R107, R115, R124, R137: the pass events that reach the outlets and tip points. A chute
no-flow report taken by a RUNNING pass brings it into HANGUP, which stops its orders and closes its OPEN tip
points; in HANGUP and LOCKOUT the report is dropped. A debit, a credit or a level report makes the FULL
event where the class becomes FULL and the CUSHION event where the below-cushion condition begins. FULL
closes every OPEN tip point of the pass with RED_HOLD under the tag last placed, and leaves no PERMIT
deferred; CUSHION stops every outlet in OPENING or FLOWING without the grant, refuses the deferred DRAWs
unless the grant is set, ends a cycle start that waits without the grant, and leaves the other outlets where
HANGUP or LOCKOUT does not come with it. The reports wait in a queue of the model's (log 28); where one
event brings HANGUP too, CUSHION comes first (log 41). -/
def Obligations.ChuteNoFlowHangsUpRunningPass : Prop :=
  (∀ (s : State) (n : Fin 8) (p : Fin 4) (rest : List (Fin 4)), s.resetAsserted = false →
    (s.ctl.outlet n).noFlowReports = p :: rest →
    ∃ t, exec (.chuteNoFlowReport n) s = .next t ∧ (t.ctl.outlet n).noFlowReports = rest ∧
      ((s.ctl.pass p).state = .running →
        (t.ctl.pass p).state = .hangup ∧ (t.ctl.pass p).cause = .chuteNoFlow ∧
        (∀ m ∈ s.live.outletsOf p, (t.ctl.outlet m).state.active = false ∧
          ((s.ctl.outlet m).state.active = true → (t.ctl.outlet m).stopReason = some .hangup)) ∧
        (∀ x ∈ s.live.tipsOf p, (t.ctl.tip x).state ≠ .opened)) ∧
      ((s.ctl.pass p).state ≠ .running → t.ctl.passes = s.ctl.passes ∧ t.ctl.tips = s.ctl.tips ∧
        ∀ m, m ≠ n → t.ctl.outlet m = s.ctl.outlet m)) ∧
  (∀ (e : Env) (p : Fin 4) (m fill : Nat) (valid : Bool) (c : Ctl),
    let below (r : Pass) : Prop := r.cls ≠ .unknown ∧ r.low < (e.passCfg p).cushionMark
    ∀ y ∈ [debit e p m c, credit e p m c, levelReport e p fill valid c],
      (y.2.full = true ↔ (y.1.pass p).cls = .full ∧ (c.pass p).cls ≠ .full) ∧
      (y.2.cushion = true ↔ below (y.1.pass p) ∧ ¬below (c.pass p)) ∧ y.2.lockout = false ∧
      (y.2.full = true ∨ y.2.cushion = true ∨ y.2.hangup = true → y.2.touched = true)) ∧
  (∀ (e : Env) (p : Fin 4) (f : Ctl → Ctl × News) (c : Ctl),
    let b := (f c).1
    let news := (f c).2
    let y := withNews e p f c
    let r := b.pass p
    (news.full = true → r.cls = .full → ∀ x ∈ e.live.tipsOf p,
      (y.tip x).state ≠ .opened ∧
      ((b.tip x).state = .opened →
        y.tip x = { b.tip x with state := .closed, remaining := 0 } ∧
        (y.slot (tipSlot x)).wb.demand = some (joinWord (b.slot (tipSlot x)).lastTag 0)) ∧
      (news.touched = true → (y.slot (tipSlot x)).holder = none)) ∧
    (news.cushion = true → ∀ n ∈ e.live.outletsOf p,
      let o := b.outlet n
      let k := outletSlot n
      let alone := news.hangup = false ∧ news.lockout = false
      let refusing := news.touched = true ∧ r.cls ≠ .unknown ∧
        r.low < (e.passCfg p).cushionMark ∧ r.grant = false
      (o.state.drawing = true → o.grantHeld = false →
        y.outlet n = { o with
          state := .stopping, stopReason := some .cushion, startPending := false
          timer := some (.close, e.clock) } ∧
        (y.slot k).wb.demand = some (joinWord (b.slot k).lastTag 0)) ∧
      (o.state.drawing = false ∨ o.grantHeld = true → b.waits n = false → alone → y.outlet n = o) ∧
      (∀ d, (b.slot k).holder = some d → o.startPending = false → refusing →
        (y.slot k).holder = none ∧
        (y.slot k).wb.verdict = some (joinWord d.commit.tag 4) ∧
        (r.state = .running → o.state ≠ .fault → e.outletFresh n = true → o.lastRecord ≠ none →
          (y.slot k).wb.detail = some (joinWord 0 Reason.cushion.code))) ∧
      (o.startPending = true → o.state.drawing = false → o.grantHeld = false →
        r.state = .running → refusing → alone →
        (y.outlet n).state = .idle ∧ (y.outlet n).stopReason = some .cushion)))

/-- R28, R44, R45, R100, R107, R125, R128: a deferral that has run for the limit it was made under is
refused with the reason it waits on, and the holder is emptied; nothing else changes but the drainer's
position (log 26). Before that a deferred DRAW or PERMIT is re-judged by all its checks in order at each of
its input events: it is refused, executed, or kept with the reason of the transient check that fails now.
The input events are stated for a member that waits alone in its pass: the value and freshness events, the
pass events, and a change of state of another outlet, of the tip point itself or of another tip point, by a
commit, a timer, a record or an event of its station, made first. A cycle start that waits is attempted
again at the same outlet events. The limit held with the commit (log 24), the permit count as executed (log
10) and the failing of the boom's check in PARKING (log 17) are the model's. -/
def Obligations.DeferralExpires : Prop :=
  (∀ (s : State) (k : Fin 24) (d : Deferred), s.resetAsserted = false →
    (s.ctl.slot k).holder = some d → d.limit ≤ (s.clock - d.since).toNat →
    exec (.deferralExpiry k) s = .next
      ({ s with
         ctl := s.ctl.setSlot k
           { s.ctl.slot k with
             holder := none
             wb := { (s.ctl.slot k).wb with
               verdict := some (joinWord d.commit.tag Verdict.refused.code)
               detail := some (joinWord 0 d.reason.code) } } } : State).seek) ∧
  (∀ (e : Env) (n : Fin 8) (c : Ctl) (d : Deferred), (c.slot (outletSlot n)).holder = some d →
    let k := outletSlot n
    let p := (e.outletCfg n).pass
    let o := c.outlet n
    let r := c.pass p
    let q := e.outletQual n
    let sp := d.commit.sp
    let y := rejudgeDraw e n c
    let permanent : List (Bool × Reason) :=
      [(r.state == .lockout, .lockout), (o.state == .fault, .outletFault),
        (r.state == .hangup, .hangup), (!e.outletFresh n || o.lastRecord.isNone, .feedbackStale),
        (r.cls == .unknown, .fillUnknown),
        (decide (r.low < (e.passCfg p).cushionMark) && !r.grant, .cushion), (o.state != .idle, .busy),
        (r.wetActive && c.otherDrawing e n, .busyPass),
        (decide (sp.a.toNat < 10 ∨ 5000 < sp.a.toNat ∨ sp.b.toNat < 1 ∨ 250 < sp.b.toNat ∨
          sp.c.toNat < 20 ∨ 100 < sp.c.toNat), .range)]
    let transient : List (Bool × Reason) :=
      [(q.d2.value != .yes, .receiverAbsent), (q.d0.value != .yes, .gateNotClosed)]
    (∀ reason, firstFailing permanent = some reason → y = c.setSlot k
      { c.slot k with
        holder := none
        wb := { (c.slot k).wb with
          verdict := some (joinWord d.commit.tag 4), detail := some (joinWord 0 reason.code) } }) ∧
    (∀ reason, firstFailing permanent = none → firstFailing transient = some reason →
      y = if reason = d.reason then c else c.setSlot k
        { c.slot k with
          holder := some { d with reason := reason }
          wb := { (c.slot k).wb with detail := some (joinWord 0 reason.code) } }) ∧
    (firstFailing permanent = none → firstFailing transient = none →
      (y.outlet n).state = .opening ∧ (y.outlet n).tag = some d.commit.tag ∧
      (y.outlet n).remaining = sp.b.toNat ∧ (y.outlet n).grantHeld = r.grant ∧
      (y.pass p).grant = false ∧ (y.slot k).holder = none ∧
      (y.slot k).wb.demand = some (joinWord d.commit.tag 1) ∧
      ((y.slot k).wb.verdict = some (joinWord d.commit.tag 1) ∨
        (y.slot k).wb.verdict = some (joinWord d.commit.tag 2)))) ∧
  (∀ (e : Env) (n : Fin 12) (c : Ctl) (d : Deferred), (c.slot (tipSlot n)).holder = some d →
    let k := tipSlot n
    let x := c.tip n
    let r := c.pass (e.tipCfg n).pass
    let q := e.tipQual n
    let y := rejudgePermit e n c
    let permanent : List (Bool × Reason) :=
      [(r.state == .lockout, .lockout), (x.state == .fault, .tipPointFault),
        (x.state == .breaking, .boomFree), (r.state == .hangup, .hangup),
        (!e.tipFresh n, .feedbackStale), (r.cls == .unknown, .fillUnknown), (r.cls == .full, .full),
        (c.relatedIn e n .breaking, .fallPath)]
    let transient : List (Bool × Reason) :=
      [(x.state == .parking || q.d2.value != .yes, .boomNotParked),
        (q.d1.value != .yes, .grizzlyOccupied)]
    (∀ reason, firstFailing permanent = some reason → y = c.setSlot k
      { c.slot k with
        holder := none
        wb := { (c.slot k).wb with
          verdict := some (joinWord d.commit.tag 4), detail := some (joinWord 0 reason.code) } }) ∧
    (∀ reason, firstFailing permanent = none → x.state ≠ .opened →
      firstFailing transient = some reason →
      y = if reason = d.reason then c else c.setSlot k
        { c.slot k with
          holder := some { d with reason := reason }
          wb := { (c.slot k).wb with detail := some (joinWord 0 reason.code) } }) ∧
    (firstFailing permanent = none → (x.state = .opened ∨ firstFailing transient = none) →
      y.tip n = { x with
        state := .opened, remaining := d.commit.sp.a.toNat, permitCount := d.commit.sp.a.toNat } ∧
      (y.slot k).holder = none ∧ (y.slot k).wb = { a := some d.commit.sp.a, b := some 0, c := some 0
                                                   demand := some (joinWord d.commit.tag 1)
                                                   verdict := some (joinWord d.commit.tag 1)
                                                   detail := some 0 })) ∧
  (∀ (e : Env) (n : Fin 8) (c : Ctl),
    let p := (e.outletCfg n).pass
    let again (b : Ctl) : Ctl :=
      if (b.outlet n).startPending = true then cycleStart e n b else rejudgeDraw e n b
    let lone (b : Ctl) : Prop :=
      ((b.outlet n).startPending = true → (b.slot (outletSlot n)).holder = none) ∧
      ∀ m ∈ e.live.outletsOf p, m ≠ n → b.waits m = false
    n ∈ e.live.outletsOf p →
    (∀ v, lone c → outletValue e n .d0 v c = again c) ∧
    (∀ m, (e.outletCfg m).pass = p →
      (∀ v, let b := if v = .no then receiverLost e m c else c
        lone b → outletValue e m .d2 v c = again b) ∧
      (∀ new, let b := if new = .fresh then c else feedbackLost e m c
        lone b → outletFreshness e m new c = again b) ∧
      (∀ reason code, let b := timeoutStop e m reason code c
        lone b → timeoutEvent e m reason code c = again b) ∧
      (let d := timeoutStop e m .noFlow .noFlow c
        let b := d.setOutlet m
          { d.outlet m with noFlowReports := (d.outlet m).noFlowReports ++ [p] }
        lone b → noFlowTimeout e m c = again b) ∧
      (∀ cm, let b := judgeOutlet e m cm c
        (c.outlet m).state.drawing ≠ (b.outlet m).state.drawing ∨
          (c.pass p).grant ≠ (b.pass p).grant →
        lone b → commitOutlet e m cm c = again b) ∧
      (∀ x, let y := outletRecord e m x c
        (c.outlet m).state.drawing ≠ (y.1.outlet m).state.drawing → y.2.touched = true)) ∧
    (∀ f : Ctl → Ctl × News,
      let b := deliver e p { (f c).2 with touched := false } (f c).1
      (f c).2.touched = true → lone b → (∀ x ∈ e.live.tipsOf p, (b.slot (tipSlot x)).holder = none) →
      withNews e p f c = again b)) ∧
  (∀ (e : Env) (n : Fin 12) (c : Ctl),
    let p := (e.tipCfg n).pass
    let lone (b : Ctl) : Prop :=
      ∀ u ∈ e.live.tipsOf p, u ≠ n → (b.slot (tipSlot u)).holder = none
    n ∈ e.live.tipsOf p →
    (∀ v, lone c → tipValue e n .d1 v c = rejudgePermit e n c) ∧
    (∀ m, (e.tipCfg m).pass = p →
      (∀ v : Tri, let b := match v with
          | .yes => boomRests m c
          | .no => boomLeaves e m c
          | .unknown => c
        lone b → tipValue e m .d2 v c = rejudgePermit e n b) ∧
      (∀ old new, let b := if new = .fresh then tipRestored e m c
          else if old = .fresh then tipLost e m c else c
        lone b → tipFreshness e m old new c = rejudgePermit e n b) ∧
      (∀ since, let b := parkExpires e m c
        (c.tip m).park = .running since →
        (e.tipCfg m).parkTimeout * 1000 ≤ (e.clock - since).toNat →
        lone b → parkTimeoutEvent m e c = rejudgePermit e n b) ∧
      (∀ cm, let b := judgeTip e m cm c
        (c.tip m).state ≠ (b.tip m).state → lone b → commitTip e m cm c = rejudgePermit e n b) ∧
      (∀ counter mass, let y := tipRecord e m counter mass c
        (c.tip m).state ≠ (y.1.tip m).state → y.2.touched = true)) ∧
    (∀ f : Ctl → Ctl × News,
      let b := deliver e p { (f c).2 with touched := false } (f c).1
      (f c).2.touched = true → lone b → (∀ m ∈ e.live.outletsOf p, b.waits m = false) →
      withNews e p f c = rejudgePermit e n b))

/-- R70, R72, R73, R82, R89, R116, R133, R138: a station falls LATE, with STALE in its slot's status latch;
a dropout brings the flow qualifier to NO_FLOW. Other stations are not touched. A station that was FRESH
makes a freshness event, which is journaled: its qualifiers give up their state, its outlet loses its last
record and stops a running order with FEEDBACK_LOST, its tip point loses the counter and goes from OPEN to
CLOSED or from BREAKING to PARKING, a deferred commit of either is refused, and its pass takes an invalid
level and an unknown wetness. The consequences are stated of a table whose passes name LEVEL stations, as
every table does that a part takes (ConfigurationChangesOnlyByLoadWriteOrReset). A tip point whose station
becomes FRESH starts the park timer that waited for it. -/
def Obligations.StationTimersExpire : Prop :=
  (∀ (s : State) (i : Fin 32) (since : Clock), s.resetAsserted = false →
    ((s.station i).late = some since →
      (s.live.stationCfg i).lateLimit ≤ (s.clock - since).toNat →
      ∃ t, exec (.lateTimerExpiry i) s = .next t ∧
        t.station i =
          { (s.station i).bump .late 1 with order := .late, held := none, late := none } ∧
        (t.station i).freshness = .stale ∧
        (t.stationSlot (s.live.slotOf i)).latch = some (statusWord .stale .late) ∧
        (∀ j, j ≠ i → t.station j = s.station j) ∧ t.mem = s.mem) ∧
    ((s.qual i).flow.dropout = some since →
      (s.live.stationCfg i).dropout ≤ (s.clock - since).toNat →
      ∃ t, exec (.dropoutExpiry i) s = .next t ∧
        (t.qual i).flow = { state := .noFlow, rise := none, dropout := none } ∧
        (∀ j, j ≠ i → t.qual j = s.qual j) ∧ t.stations = s.stations)) ∧
  (∀ (s : State) (i : Fin 32) (since : Clock), s.resetAsserted = false → s.live.LevelsNamed →
    (s.station i).late = some since → (s.live.stationCfg i).lateLimit ≤ (s.clock - since).toNat →
    let kind := (s.live.stationCfg i).kind
    let journal := (s.ctl.report s.env .freshness i.val 1 0 5 3).journal
    ∃ t, exec (.lateTimerExpiry i) s = .next t ∧ (∀ j, j ≠ i → t.qual j = s.qual j) ∧
      ((s.station i).freshness ≠ .fresh → t.quals = s.quals) ∧
      ((s.station i).freshness = .fresh → t.qual i = Qualifiers.reset ∧
        (kind = some .outlet → ∀ n, s.live.outletOfStation i = some n →
          let o := s.ctl.outlet n
          (t.ctl.outlet n).lastRecord = none ∧
          (o.startPending = false → (t.ctl.slot (outletSlot n)).holder = none) ∧
          (o.state.active = true → (t.ctl.outlet n).state = .stopping ∧
            (t.ctl.outlet n).stopReason = some .feedbackLost) ∧
          ((∀ m ∈ s.live.outletsOf (s.live.outletCfg n).pass, s.ctl.waits m = false) →
            t.ctl.journal = journal)) ∧
        (kind = some .tip → ∀ n, s.live.tipOfStation i = some n →
          let x := s.ctl.tip n
          t.ctl.journal = journal ∧ (t.ctl.slot (tipSlot n)).holder = none ∧
          (x.state = .opened →
            t.ctl.tip n = { x with known := false, state := .closed, remaining := 0 }) ∧
          (x.state = .breaking →
            t.ctl.tip n = { x with known := false, state := .parking, park := .running s.clock }) ∧
          (x.state ≠ .opened → x.state ≠ .breaking → t.ctl.tip n = { x with known := false })) ∧
        (kind = some .level → ∀ p, s.live.passOfStation i = some p →
          ((s.qual i).level.distance.isSome = true →
            (t.ctl.pass p).levelFill = 0 ∧ (t.ctl.pass p).levelValid = false) ∧
          ((s.qual i).moisture.state ≠ .unknown → (t.ctl.pass p).sensorWet = .unknown)))) ∧
  (∀ (e : Env) (n : Fin 12) (c : Ctl) (old : Freshness),
    (∀ u ∈ e.live.tipsOf (e.tipCfg n).pass, (c.slot (tipSlot u)).holder = none) →
    tipFreshness e n old .fresh c =
      if (c.tip n).park = .waiting then c.setTip n { c.tip n with park := .running e.clock } else c)

/-- R16, R91, section 5.4, R114, R116, R117, R118, R120: the OPEN, FLOW_START and CYCLE_DRAW expiries stop
the order with their reason and fault code and write the demand CLOSED; FLOW_START also hands over a chute
no-flow report. That the report waits in a queue of the outlet with its pass is the model's (log 28). A
record handed to an outlet is weighed against the weight high mark and then moves its cycle: the open
confirmed, the draw complete, the closure confirmed, the next cycle started, the stop completed. The
model's: that a STOPPING or FAULT is weighed whatever it was entered from (log 37), and that a start passes
the cushion under the grant of the pass (log 20). -/
def Obligations.CycleTimersStopOrder : Prop :=
  (∀ (s : State) (n : Fin 8) (since : Clock), s.resetAsserted = false →
    let o := s.ctl.outlet n
    let cfg := s.live.outletCfg n
    let ran := (s.clock - since).toNat
    let stopped (reason : EndReason) (code : FaultCode) (reports : List (Fin 4)) : Outlet :=
      { o with
        state := .stopping, stopReason := some reason, lastFault := code, startPending := false
        timer := some (.close, s.clock), noFlowReports := reports }
    let closed (t : State) :=
      (t.ctl.slot (outletSlot n)).wb.demand = some (joinWord (s.ctl.slot (outletSlot n)).lastTag 0)
    (o.state = .opening → o.timer = some (.openT, since) → cfg.openTimeout ≤ ran →
      ∃ t, exec (.openTimeout n) s = .next t ∧ closed t ∧
        t.ctl.outlet n = stopped .gateNoOpen .gateNoOpen o.noFlowReports) ∧
    (o.state = .flowing → o.timer = some (.flowStart, since) → cfg.flowStartTimeout ≤ ran →
      ∃ t, exec (.flowStartTimeout n) s = .next t ∧ closed t ∧
        t.ctl.outlet n = stopped .noFlow .noFlow (o.noFlowReports ++ [cfg.pass])) ∧
    (o.state = .flowing → o.timer = some (.cycleDraw, since) →
      cfg.cycleDrawTimeout * 1000 ≤ ran →
      ∃ t, exec (.cycleDrawTimeout n) s = .next t ∧ closed t ∧
        t.ctl.outlet n = stopped .drawTimeout .drawTimeout o.noFlowReports)) ∧
  (∀ (e : Env) (n : Fin 8) (x : LoadRecord) (c : Ctl),
    let o := c.outlet n
    let p := (e.outletCfg n).pass
    let m := x.weight - o.highMark
    let y := (outletRecord e n x c).1
    let o' := y.outlet n
    (∀ j, j ≠ n → y.outlet j = c.outlet j) ∧ y.tips = c.tips ∧ o'.lastRecord = some x ∧
    (o.state = .idle ∨ o.state = .indexing ∨ x.weight ≤ o.highMark →
      (y.pass p).inventory = (c.pass p).inventory ∧
      (o.state ≠ .indexing → o'.highMark = o.highMark ∧ o'.deliveredCycle = o.deliveredCycle ∧
        o'.deliveredOrder = o.deliveredOrder)) ∧
    (o.state ≠ .idle → o.state ≠ .indexing → o.highMark < x.weight →
      o'.highMark = x.weight ∧ o'.deliveredCycle = x.weight - o.snapshot ∧
      o'.deliveredOrder =
        (if o.state = .fault then o.deliveredOrder else min 65535 (o.deliveredOrder + m)) ∧
      (y.pass p).inventory = (c.pass p).inventory - m ∧
      (y.pass p).state = ((debit e p m c).1.pass p).state ∧
      (y.pass p).accumulator = ((debit e p m c).1.pass p).accumulator)) ∧
  (∀ (e : Env) (n : Fin 8) (x : LoadRecord) (c : Ctl),
    let o := c.outlet n
    let cfg := e.outletCfg n
    let q := e.outletQual n
    let y := (outletRecord e n x c).1
    let o' := y.outlet n
    let same := o'.state = o.state ∧ o'.timer = o.timer
    let delivered := if o.highMark < x.weight then x.weight - o.snapshot else o.deliveredCycle
    let ended (reason : EndReason) := o'.state = .idle ∧ o'.stopReason = some reason ∧
      o'.tag = none ∧ o'.timer = none ∧ o'.grantHeld = false ∧ o'.latchTarget = none ∧
      o'.latchCycles = none ∧ o'.latchOpening = none ∧ o'.stopAfter = false
    let confirmed := q.d1.value = .yes ∨
      (x.position ≤ o.workingOpening + 5 ∧ o.workingOpening ≤ x.position + 5)
    (o.state = .idle ∨ o.state = .fault → same) ∧
    (o.state = .opening →
      (confirmed → o'.state = .flowing ∧
        o'.timer = some (if q.flow.state.qualified = .yes then .cycleDraw else .flowStart, e.clock) ∧
        (y.pass cfg.pass).dwell = 0 ∧ (y.pass cfg.pass).dwellTimer = none) ∧
      (¬confirmed → same)) ∧
    (o.state = .flowing →
      (o.workingTarget ≤ delivered + cfg.lead →
        o'.state = .closing ∧ o'.timer = some (.close, e.clock) ∧
        (y.slot (outletSlot n)).wb.demand = some (joinWord (c.slot (outletSlot n)).lastTag 0) ∧
        ((∀ j ∈ e.live.outletsOf cfg.pass, j ≠ n → (c.outlet j).state ≠ .flowing) →
          (y.pass cfg.pass).dwellTimer = some e.clock)) ∧
      (delivered + cfg.lead < o.workingTarget → same)) ∧
    (o.state = .closing →
      (q.d0.value ≠ .yes → same) ∧
      (q.d0.value = .yes →
        let left := o.latchCycles.getD (o.remaining - 1)
        o'.completed = min 255 (o.completed + 1) ∧ o'.remaining = left ∧
        (left = 0 → ended .done) ∧ (left ≠ 0 → o.stopAfter = true → ended .stopAfter) ∧
        (left ≠ 0 → o.stopAfter = false → o'.state = .indexing ∧
          o'.timer = some (.index, e.clock) ∧ o'.latchCycles = none ∧
          o'.departureSeen = false ∧ o'.startPending = false))) ∧
    (o.state = .stopping →
      (q.d0.value ≠ .yes → same) ∧
      (∀ reason, q.d0.value = .yes → o.stopReason = some reason → ended reason)) ∧
    (o.state = .indexing →
      let c1 := c.setOutlet n { o with lastRecord := some x }
      (q.d2.value = .no → o' = { o with lastRecord := some x, departureSeen := true }) ∧
      (q.d2.value = .yes → (o.departureSeen = true ∨ x.identity ≠ o.startIdentity) →
        y = cycleStart e n c1) ∧
      (q.d2.value = .unknown ∨
          (q.d2.value = .yes ∧ o.departureSeen = false ∧ x.identity = o.startIdentity) →
        y = c1))) ∧
  (∀ (e : Env) (n : Fin 8) (x : LoadRecord) (c : Ctl), (c.outlet n).lastRecord = some x →
    let o := c.outlet n
    let p := (e.outletCfg n).pass
    let k := e.passCfg p
    let r := c.pass p
    let y := cycleStart e n c
    let o' := y.outlet n
    let below := r.cls ≠ .unknown ∧ r.low < k.cushionMark ∧ r.grant = false ∧ o.grantHeld = false
    let target := o.latchTarget.getD o.orderedTarget
    let opening := o.latchOpening.getD o.orderedOpening
    let cycles := o.latchCycles.getD o.remaining
    let lowered (limit v : Nat) : Nat := if r.wetActive then min limit v else v
    let ended (reason : EndReason) := o'.state = .idle ∧ o'.stopReason = some reason ∧
      o'.tag = none ∧ o'.timer = none
    y.passes = c.passes ∧
    (r.state = .lockout → ended .lockout) ∧ (r.state = .hangup → ended .hangup) ∧
    (r.state = .running → below → ended .cushion) ∧
    (r.state = .running → ¬below →
      (r.wetActive = true → c.otherDrawing e n = true →
        y = c.setOutlet n { o with startPending := true }) ∧
      (r.wetActive = false ∨ c.otherDrawing e n = false →
        o' = { o with
          state := .opening, orderedTarget := target, orderedOpening := opening
          workingTarget := lowered k.restrictedTarget target
          workingOpening := lowered k.restrictedOpening opening, remaining := cycles
          latchTarget := none, latchCycles := none, latchOpening := none, snapshot := x.weight
          highMark := x.weight, startIdentity := x.identity, deliveredCycle := 0
          startPending := false, timer := some (.openT, e.clock) } ∧
        (y.slot (outletSlot n)).wb =
          { (c.slot (outletSlot n)).wb with
            a := some (toWord (lowered k.restrictedTarget target)), b := some (toWord cycles)
            c := some (toWord (lowered k.restrictedOpening opening))
            demand := some (joinWord (c.slot (outletSlot n)).lastTag 1) }))) ∧
  (∀ (e : Env) (n : Fin 8) (since : Clock) (c : Ctl),
    let o := c.outlet n
    (o.state = .flowing → o.timer = some (.flowStart, since) → outletValue e n .flow .yes c =
      c.setOutlet n { o with timer := some (.cycleDraw, e.clock) }) ∧
    (o.state = .opening ∨ o.state = .flowing →
      (∀ m ∈ e.live.outletsOf (e.outletCfg n).pass, m ≠ n → c.waits m = false) →
      (c.slot (outletSlot n)).holder = none →
      (outletValue e n .d2 .no c).outlet n =
        { o with
          state := .stopping, stopReason := some .receiverLost, startPending := false
          timer := some (.close, e.clock) }))

/-- R108, R117, R119, R134, R135, R136, R139, R140: the INDEX expiry ends the order; the CLOSE expiry takes
the outlet to FAULT, and journals OUTLET_FAULT and no ORDER_END, and no pass, tip point or other outlet
changes; the park timer expires into FAULT, and TIP_POINT_FAULT is journaled. A boom at rest ends PARKING
and FAULT, and one that leaves its rest takes an OPEN or CLOSED tip point to PARKING. A record at a tip
point is credited by its counter, and the tips count against the permission, with TIP_SUBSTITUTED, then
TIP_WITHOUT_PERMIT or PERMIT_USED, before what the credit journals. The permit count that PERMIT_USED
carries (log 10), the drainer's position (log 26) and a boom parked that TIP_POINT_FAULT carries as TRUE
(log 53) are the model's. -/
def Obligations.IndexCloseAndParkTimersExpire : Prop :=
  (∀ (s : State) (n : Fin 8) (since : Clock), s.resetAsserted = false →
     let o := s.ctl.outlet n
     let cfg := s.live.outletCfg n
     let ran := (s.clock - since).toNat
     let ended : Outlet :=
       { o with
         tag := none, latchTarget := none, latchCycles := none, latchOpening := none
         stopAfter := false, grantHeld := false, departureSeen := false, startPending := false
         timer := none }
     (o.timer = some (.index, since) → cfg.indexTimeout * 1000 ≤ ran →
       exec (.indexTimeout n) s = .next
         ({ s with
            ctl := (s.ctl.setOutlet n
                { ended with state := .idle, stopReason := some .indexTimeout }).report s.env
              .orderEnd n.val (o.tag.getD 0).toNat 15 o.completed o.deliveredOrder } : State).seek) ∧
     (o.timer = some (.close, since) → cfg.closeTimeout ≤ ran →
       exec (.closeTimeout n) s = .next
         ({ s with
            ctl := (s.ctl.setOutlet n
                { ended with state := .fault, lastFault := .gateNoClose }).report s.env
              .outletFault n.val (2 + 256 * o.state.code)
              (if o.state = .closing then 0 else stopReasonCode o.stopReason) o.completed
              o.deliveredOrder } : State).seek)) ∧
  (∀ (s : State) (n : Fin 12) (since : Clock), s.resetAsserted = false →
     (s.ctl.tip n).park = .running since →
     (s.live.tipCfg n).parkTimeout * 1000 ≤ (s.clock - since).toNat →
     ∃ t, exec (.parkTimeout n) s = .next t ∧
       t.ctl.tip n = { s.ctl.tip n with state := .fault, park := .stopped } ∧
       t.ctl.journal = (s.ctl.report s.env .tipPointFault n.val (since.toNat % 65536)
         (since.toNat / 65536) (s.env.tipQual n).d2.value.code 0).journal ∧
       t.ctl.passes = s.ctl.passes ∧ t.ctl.outlets = s.ctl.outlets) ∧
  (∀ (e : Env) (n : Fin 12) (c : Ctl),
    (∀ u ∈ e.live.tipsOf (e.tipCfg n).pass, (c.slot (tipSlot u)).holder = none) →
    let x := c.tip n
    let rests := tipValue e n .d2 .yes c
    let leaves := tipValue e n .d2 .no c
    let moved : Tip := { x with state := .parking, remaining := 0, park := .running e.clock }
    (x.state = .parking ∨ x.state = .fault →
      rests = c.setTip n { x with state := .closed, park := .stopped }) ∧
    (x.state = .opened ∨ x.state = .closed →
      rests = c ∧ leaves.tip n = moved ∧
      leaves.journal = (c.report e .boomUnparked n.val x.state.code 0 0 0).journal ∧
      (x.state = .opened → (leaves.slot (tipSlot n)).wb.demand =
        some (joinWord (c.slot (tipSlot n)).lastTag 0)) ∧
      (x.state = .closed → leaves.slots = c.slots)) ∧
    (x.state = .breaking → rests = c) ∧
    (x.state = .breaking ∨ x.state = .parking ∨ x.state = .fault → leaves = c)) ∧
  (∀ (e : Env) (n : Fin 12) (counter : Octet) (mass : Nat) (c : Ctl),
    let x := c.tip n
    let p := (e.tipCfg n).pass
    let k := e.passCfg p
    let tips := (counter - x.lastCounter).toNat
    let taken : Tip := { x with lastCounter := counter, known := true }
    let total := min 65535 (mass + (tips - 1) * k.nominalTip)
    let y := (tipRecord e n counter mass c).1
    (x.known = false ∨ tips = 0 → y = c.setTip n taken) ∧
    (x.known = true → (e.tipCfg n).maxJump < tips →
      y.tip n = taken ∧ y.passes = c.passes ∧
      y.journal = (c.report e .counterResync n.val x.lastCounter.toNat counter.toNat 0 0).journal) ∧
    (x.known = true → tips ≠ 0 → tips ≤ (e.tipCfg n).maxJump →
      let credited : Tip := { taken with
        substitutes := x.substitutes + BitVec.ofNat 16 (tips - 1) }
      let j1 := if tips = 1 then c
        else c.report e .tipSubstituted n.val (tips - 1) (min 65535 ((tips - 1) * k.nominalTip)) 0 0
      let j2 := if x.state ≠ .opened then
          j1.report e .tipWithoutPermit n.val x.state.code tips total 0
        else if x.remaining ≠ 0 ∧ x.remaining ≤ tips then
          j1.report e .permitUsed n.val x.permitCount (tips - x.remaining) 0 0
        else j1
      y.journal = (credit e p total { c with journal := j2.journal }).1.journal ∧
      y.pass p = (credit e p total c).1.pass p ∧
      (y.pass p).inventory = min k.capacity ((c.pass p).inventory + total) ∧
      (∀ j, j ≠ n → y.tip j = c.tip j) ∧ y.outlets = c.outlets ∧
      (x.state ≠ .opened ∨ x.remaining = 0 → y.tip n = credited) ∧
      (x.state = .opened → tips < x.remaining →
        y.tip n = { credited with remaining := x.remaining - tips }) ∧
      (x.state = .opened → x.remaining ≠ 0 → x.remaining ≤ tips →
        y.tip n = { credited with state := .closed, remaining := 0 } ∧
        (y.slot (tipSlot n)).wb.demand = some (joinWord (c.slot (tipSlot n)).lastTag 0))))

/-- What the controllers' timers and reports leave alone: everything but the controllers' state and the
drainer's position. -/
def Obligations.ControllerEventFrame : Prop :=
  ∀ (c : Instr) (s t : State), isControllerEvent c = true → exec c s = .next t →
    t = { s with ctl := t.ctl, drainer := t.drainer }

/-! ## The maintenance link (chapter 8) -/

/-- R159, R160, R161: the receiver: an opening delimiter, an abort, a frame that is too long, and the
judgement of the bits between two delimiters, after which the closing delimiter has opened the next frame. A
frame for another unit is ignored and not counted; one to be taken while a response is in transmission is
counted and dropped. That a frame is one command (log 27), and that 1 to 7 bits are a length error (log 43),
is the model's. -/
def Obligations.LinkReceiverDropsFrames : Prop :=
  (∀ (s : State) (bits : List Bool), s.resetAsserted = false →
     let k := s.link
     let data := zeroDelete 0 bits
     exec .frameOpeningDelimiter s = .next { s with link := { k with rx := .inFrame } } ∧
     (k.rx = .inFrame →
       exec .frameAbort s = .next { s with link := { k with abort := k.abort + 1, rx := .waiting } } ∧
       exec .frameDroppedAt69thOctet s = .next
         { s with link := { k with lengthError := k.lengthError + 1, rx := .waiting } } ∧
       (552 ≤ data.length → exec (.frameDropped bits) s = .next
         { s with link := { k with lengthError := k.lengthError + 1 } }) ∧
       (data = [] → exec (.frameDropped bits) s = .next s) ∧
       (data ≠ [] → data.length < 552 → (data.length % 8 ≠ 0 ∨ data.length < 32) →
         exec (.frameDropped bits) s = .next
           { s with link := { k with lengthError := k.lengthError + 1 } }) ∧
       (32 ≤ data.length → data.length < 552 → data.length % 8 = 0 →
         crc16 (bitsToOctets 69 data) ≠ 0 →
         exec (.frameDropped bits) s = .next
           { s with link := { k with checkError := k.checkError + 1 } }))) ∧
  (∀ (s : State) (unit code : Octet) (payload : List Octet), s.resetAsserted = false →
     exec (.frameIgnored unit code payload) s = .next s ∧
     (s.link.rx = .inFrame → s.link.tx.isSome = true → payload.length ≤ 64 →
       (unit = 31 → code = 1) →
       (unit ≠ 31 → s.partState = .run → unit.toNat = s.live.globalCfg.unit) →
       exec (.frameDroppedBusy unit code payload) s = .next
         { s with link := { s.link with busy := s.link.busy + 1 } }))

/-- R162, section 9.8: IDENTIFY is answered in every part state, under unit 31 too, and an unknown code
is answered BAD_REQUEST. That the response code wraps for a code of 0x80 or above is the model's (log 44). -/
def Obligations.IdentifyAndUnknownAnswered : Prop :=
  ∀ (s : State) (unit code : Octet) (payload : List Octet), s.resetAsserted = false →
    s.link.rx = .inFrame → s.link.tx = none → payload.length ≤ 64 →
    (unit ≠ 31 → s.partState = .run → unit.toNat = s.live.globalCfg.unit) →
    let number : Octet := if s.partState = .run then BitVec.ofNat 8 s.live.globalCfg.unit else 255
    let u : Octet := if s.partState = .run then BitVec.ofNat 8 s.live.globalCfg.unit else unit
    let answer (octets : List Octet) : State :=
      { s with link := { s.link with tx := some { octets := withCheck octets, reload := false } } }
    (payload = [] → exec (.identify unit payload) s = .next
      (answer ([u, 0x81, 0, 0x20, 0x41, lowOctet s.identity, highOctet s.identity,
        BitVec.ofNat 8 s.loadStatus.code.code] ++ failingOctets s.loadStatus.entry ++
        [BitVec.ofNat 8 s.partState.code, number]))) ∧
    (payload ≠ [] → exec (.identify unit payload) s = .next (answer [u, 0x81, 5])) ∧
    (unit ≠ 31 → (code = 0 ∨ 6 < code.toNat) →
      exec (.unknownRequest unit code payload) s = .next (answer [unit, code + 0x80, 6]))

/-- R151, R162, section 9.8: READ_CONFIG in RUN answers the entry named and READ_STATUS the record named: the
header, or the record of a pass, an outlet, a tip point, a station or the link (the words of the mirror
records stand in MirrorPublishes); an unknown entry, an index out of range, a wrong length and another part
state are answered with their status. Nothing but the response changes. -/
def Obligations.ReadRequestsAnswered : Prop :=
  ∀ (s : State) (unit : Octet) (payload : List Octet), s.takesRequest unit payload →
    let answer (octets : List Octet) : State :=
      { s with link := { s.link with tx := some { octets := withCheck octets, reload := false } } }
    (payload.length ≠ 2 →
      exec (.readConfig unit payload) s = .next (answer [unit, 0x82, 5]) ∧
      exec (.readStatus unit payload) s = .next (answer [unit, 0x84, 5])) ∧
    (payload.length = 2 →
      (s.partState = .starting ∨ s.partState = .safing →
        exec (.readConfig unit payload) s = .next (answer [unit, 0x82, 4]) ∧
        exec (.readStatus unit payload) s = .next (answer [unit, 0x84, 4])) ∧
      (s.partState = .unconfigured →
        exec (.readConfig unit payload) s = .next (answer [unit, 0x82, 6]) ∧
        exec (.readStatus unit payload) s = .next (answer [unit, 0x84, 6])) ∧
      (s.partState = .run →
        (∀ kind i, namedEntry payload = some (kind, i) →
          exec (.readConfig unit payload) s = .next
            (answer ([unit, 0x82, 0] ++ entryOctets (s.live.entry kind i) ++
              [lowOctet s.identity, highOctet s.identity]))) ∧
        (namedEntry payload = none →
          exec (.readConfig unit payload) s = .next (answer [unit, 0x82, 1])) ∧
        (∀ i : Fin 32, payload = [4, BitVec.ofNat 8 i.val] →
          exec (.readStatus unit payload) s = .next
            (answer ([unit, 0x84, 0] ++ wordOctets (stationWords (s.station i))))) ∧
        (payload = [5, 0] → exec (.readStatus unit payload) s = .next
          (answer ([unit, 0x84, 0] ++
            wordOctets [s.link.abort, s.link.lengthError, s.link.checkError, s.link.busy]))) ∧
        (5 < (octetAt payload 0).toNat →
          exec (.readStatus unit payload) s = .next (answer [unit, 0x84, 1])) ∧
        (payload = [0, 0] → exec (.readStatus unit payload) s = .next
          (answer ([unit, 0x84, 0] ++ wordOctets ([s.mirror.generation,
            BitVec.ofNat 16 s.partState.code, s.identity, BitVec.ofNat 16 s.ctl.journal.lost,
            s.ctl.journal.badIndex, s.clock.extractLsb' 0 16, s.clock.extractLsb' 16 16,
            s.starvation])))) ∧
        (∀ p : Fin 4, payload = [1, BitVec.ofNat 8 p.val] → exec (.readStatus unit payload) s = .next
          (answer ([unit, 0x84, 0] ++ wordOctets (s.groupWords (.pass p)).2))) ∧
        (∀ n : Fin 8, payload = [2, BitVec.ofNat 8 n.val] → exec (.readStatus unit payload) s = .next
          (answer ([unit, 0x84, 0] ++ wordOctets (s.groupWords (.outlet n)).2))) ∧
        (∀ x : Fin 12, payload = [3, BitVec.ofNat 8 x.val] → exec (.readStatus unit payload) s = .next
          (answer ([unit, 0x84, 0] ++ wordOctets (s.groupWords (.tip x)).2))) ∧
        (∀ kind index : Octet, payload = [kind, index] →
          ((kind = 0 ∨ kind = 5) ∧ index ≠ 0) ∨ (kind = 1 ∧ 4 ≤ index.toNat) ∨
            (kind = 2 ∧ 8 ≤ index.toNat) ∨ (kind = 3 ∧ 12 ≤ index.toNat) ∨
            (kind = 4 ∧ 32 ≤ index.toNat) →
          exec (.readStatus unit payload) s = .next (answer [unit, 0x84, 1]))))

/-- R76: CLEAR_COUNTERS clears the counters and rollover flags of the stations it names, one or all of them
(255), and nothing else of them. A payload of another length, and a part state other than RUN, are answered
with their status (section 9.8), and nothing else changes. -/
def Obligations.CountersAreCleared : Prop :=
  (∀ (s : State) (unit which : Octet), s.takesRequest unit [which] → s.partState = .run →
    (which.toNat ≤ 31 ∨ which = 255 → ∃ t, exec (.clearCounters unit [which]) s = .next t ∧
      t = { s with
            stations := t.stations
            link := { s.link with
              tx := some { octets := withCheck [unit, 0x85, 0], reload := false } } } ∧
      ∀ i : Fin 32, t.station i =
        if which = 255 ∨ i.val = which.toNat then
          { s.station i with accepted := 0, events := Vector.replicate 10 0, rollover := 0 }
        else s.station i) ∧
    (31 < which.toNat → which ≠ 255 → exec (.clearCounters unit [which]) s = .next
      { s with
        link := { s.link with
          tx := some { octets := withCheck [unit, 0x85, 1], reload := false } } })) ∧
  (∀ (s : State) (unit : Octet) (payload : List Octet), s.takesRequest unit payload →
    let answer (status : Octet) : State :=
      { s with
        link := { s.link with
          tx := some { octets := withCheck [unit, 0x85, status], reload := false } } }
    let go := exec (.clearCounters unit payload) s
    (payload.length ≠ 1 → go = .next (answer 5)) ∧
    (payload.length = 1 →
      (s.partState = .starting ∨ s.partState = .safing → go = .next (answer 4)) ∧
      (s.partState = .unconfigured → go = .next (answer 6))))

/-- R4, R56, R57, R90, R93, R123, R148, R162, R163, R164: a WRITE_CONFIG of a wrong length or outside RUN is
answered as R162 says; in RUN an entry that passes every check is put into the live table with its identity;
the first check that fails, the unknown entry included, gives the status, and then nothing but the response
and the drainer's position changes. The block that holds state for the entry takes the change, and
CONFIG_CHANGE is the last record requested. The model's readings: the entry that a failure is reported at
(log 22), that an entry not present affects no pass and no outlet (log 39), that the base octets of an
absent global entry are compared (log 52), that an unsettled pass moved to a LEVEL station with a valid
level makes no rebase (log 49), the drainer's position (log 26), the queue of the zero words (log 25), the
restart of a pass (log 30), of a tip point (log 10, log 18) and of an outlet with its fault code (log 19)
and its reports (log 28) kept. -/
def Obligations.WriteConfigIsChecked : Prop :=
  (∀ (s : State) (unit : Octet) (payload : List Octet) (kind : EntryKind) (i : Nat),
    s.takesRequest unit payload → s.partState = .run → payload.length = 36 →
    namedEntry payload = some (kind, i) →
    let entry := entryOfOctets ((payload.drop 2).take 32)
    let identity := payloadWord payload 34
    let new := s.live.replace kind i entry
    let answer (octets : List Octet) : State :=
      { s with link := { s.link with tx := some { octets := withCheck octets, reload := false } } }
    let go := exec (.writeConfig unit payload) s
    (s.lockedOut new kind i = false → go = .next (answer [unit, 0x83, 3]).seek) ∧
    (s.lockedOut new kind i = true →
      (s.noneStopping new kind i = false → go = .next (answer [unit, 0x83, 4]).seek) ∧
      (s.noneStopping new kind i = true →
        (s.live.slotsMove new = true →
          go = .next (answer [unit, 0x83, 2, 6, 0, 0]).seek) ∧
        (s.live.slotsMove new = false →
          (∀ f, new.failure = some f →
            go = .next (answer ([unit, 0x83, 2] ++ failureOctets f)).seek) ∧
          (new.failure = none → ∃ t, go = .next t ∧ t.live = new ∧ t.identity = identity ∧
            t.partState = .run ∧ t.clock = s.clock ∧ t.mem = s.mem ∧ t.bulk = s.bulk ∧
            t.link = { s.link with
              tx := some
                { octets := withCheck [unit, 0x83, 0, lowOctet identity, highOctet identity]
                  reload := false } }))))) ∧
  (∀ (s : State) (unit : Octet) (payload : List Octet), s.takesRequest unit payload →
    let answer (status : Octet) : State :=
      { s with
        link := { s.link with
          tx := some { octets := withCheck [unit, 0x83, status], reload := false } } }
    let go := exec (.writeConfig unit payload) s
    (payload.length ≠ 36 → go = .next (answer 5).seek) ∧
    (payload.length = 36 →
      (s.partState = .starting ∨ s.partState = .safing → go = .next (answer 4).seek) ∧
      (s.partState = .unconfigured → go = .next (answer 6).seek) ∧
      (s.partState = .run → namedEntry payload = none → go = .next (answer 1).seek))) ∧
  (∀ (s : State) (unit : Octet) (payload : List Octet) (kind : EntryKind) (i : Nat),
    s.takesRequest unit payload → s.partState = .run → payload.length = 36 →
    namedEntry payload = some (kind, i) →
    let new := s.live.replace kind i (entryOfOctets ((payload.drop 2).take 32))
    let identity := payloadWord payload 34
    s.lockedOut new kind i = true → s.noneStopping new kind i = true → s.live.slotsMove new = false →
    new.failure = none → s.bases.isSome = true →
    ∃ t, exec (.writeConfig unit payload) s = .next t ∧
      t.ctl.journal.list.getLast? = some
        { kind := .configChange, subject := 255, stamp := s.clock, d0 := BitVec.ofNat 16 kind.code
          d1 := BitVec.ofNat 16 i, d2 := identity, d3 := 0 } ∧
      (kind = .global →
        let g := s.live.globalCfg
        let g' := new.globalCfg
        let moved := g.journalSize ≠ g'.journalSize ∨ g.ringBase ≠ g'.ringBase ∨
          g.controlBase ≠ g'.controlBase
        t.bases = some new.regions ∧ t.ctl.journal.serial = s.ctl.journal.serial ∧
        t.ctl.journal.badIndex = s.ctl.journal.badIndex ∧
        (moved → t.ctl.journal.w = 0 ∧ t.ctl.journal.r = 0 ∧
          t.ctl.journal.zeroDue = s.ctl.journal.zeroDue ++ [g'.controlBase] ∧
          ∀ x take, s.port = some x → x.purpose = .readIndex take →
            t.port = some { x with purpose := .readIndex false }) ∧
        (¬moved → t.ctl.journal.w = s.ctl.journal.w ∧ t.ctl.journal.r = s.ctl.journal.r ∧
          t.ctl.journal.zeroDue = s.ctl.journal.zeroDue ∧ t.port = s.port) ∧
        t.mirror = (if g.mirrorPeriod = g'.mirrorPeriod then s.mirror
          else { s.mirror with timer := some s.clock })) ∧
      (kind = .pass → ∀ p : Fin 4, p.val = i →
        let k := s.live.passCfg p
        let k' := new.passCfg p
        let r := s.ctl.pass p
        let r' := t.ctl.pass p
        let q := t.env.qualAt k'.levelStation
        (k.present = true → k'.present = true →
          r'.state = r.state ∧ r'.inventory = min k'.capacity r.inventory ∧
          r'.levelFill = q.level.fill ∧ r'.levelValid = q.level.valid ∧
          r'.sensorWet = q.moisture.state ∧
          (k.levelStation ≠ k'.levelStation →
            r'.reference = q.level.fill ∧ r'.accumulator = 0) ∧
          (k.levelStation = k'.levelStation →
            r'.reference = r.reference ∧ r'.accumulator = r.accumulator)) ∧
        (k'.present = true → ∀ j : Fin 32, j.val = k'.levelStation →
          (t.qual j).level.fill = levelFillOf (new.levelPass j) (s.qual j).level.distance) ∧
        (k.present ≠ k'.present →
          r' = { Pass.reset with dwellTimer := if k'.present then some s.clock else none })) ∧
      (kind = .outlet → ∀ n : Fin 8, n.val = i →
        let k := s.live.outletCfg n
        let k' := new.outletCfg n
        let o := s.ctl.outlet n
        (k.present = true → k'.present = true → t.ctl.outlet n =
          if k.station = k'.station then o else { o with lastRecord := none }) ∧
        (k.present ≠ k'.present → t.ctl.outlet n =
          { Outlet.reset with lastFault := o.lastFault, noFlowReports := o.noFlowReports })) ∧
      (kind = .tipPoint → ∀ n : Fin 12, n.val = i →
        let k := s.live.tipCfg n
        let k' := new.tipCfg n
        let x := s.ctl.tip n
        (k.present = true → k'.present = true →
          let known := x.known && k.station == k'.station
          (∀ since, k.parkTimeout ≠ k'.parkTimeout → x.park = .running since →
            k'.parkTimeout * 1000 ≤ (s.clock - since).toNat →
            t.ctl.tip n = { x with known := known, state := .fault, park := .stopped }) ∧
          (k.parkTimeout = k'.parkTimeout ∨ (∀ since, x.park = .running since →
              (s.clock - since).toNat < k'.parkTimeout * 1000) →
            t.ctl.tip n = { x with known := known })) ∧
        (k.present ≠ k'.present → t.ctl.tip n = Tip.reset)) ∧
      (kind = .station → ∀ j : Fin 32, j.val = i →
        let k := s.live.stationCfg j
        let k' := new.stationCfg j
        (k.present ≠ k'.present ∨ k.kind ≠ k'.kind ∨ k.slot ≠ k'.slot →
          t.station j = Station.reset ∧ t.qual j = Qualifiers.reset ∧
          (k.present = true →
            (t.stationSlot (s.live.slotOf j)).latch = some (statusWord .stale .hunt)) ∧
          (k'.present = true →
            (t.stationSlot (new.slotOf j)).latch = some (statusWord .stale .hunt))) ∧
        (k.present = true → k'.present = true → k.kind = k'.kind → k.slot = k'.slot →
          (k.lateLimit = k'.lateLimit → t.station j = s.station j) ∧
          (∀ since, k.lateLimit ≠ k'.lateLimit → (s.station j).late = some since →
            k'.lateLimit ≤ (s.clock - since).toNat →
            t.station j =
              { (s.station j).bump .late 1 with order := .late, held := none, late := none }) ∧
          (k.parametersChanged k' = true → t.qual j = Qualifiers.reset))))

/-- R52, R158, R161, R162, R165: RELOAD is accepted with every configured pass in LOCKOUT, or UNCONFIGURED;
the part goes to STARTING at once and completes a write that the port holds. The end of a response frees the
link; that of an accepted RELOAD brings every block to its reset values with image memory and the link
counters kept. A transaction still held is completed with it (R52), and a RELOAD with a payload is answered
BAD_LENGTH (R162). The model's are: the drainer's place 0 (log 26), the last tag 0 of a slot (log 9), the
octets of the table beside the present flags and the mirror base 0 and the bus outputs left as they are (log
8), the permit count 0 (log 10), that no chute no-flow report waits (log 28) and no zero words (log 25), and
that the count of fresh orders (log 11) and the queue of commands (log 2) are kept. -/
def Obligations.ReloadAndResponseEnd : Prop :=
  (∀ (s : State) (unit : Octet), s.takesRequest unit [] →
     let allLocked := ∀ p, (s.live.passCfg p).present = true → (s.ctl.pass p).state = .lockout
     let answer (status : Octet) : State :=
       { s with
         link := { s.link with
           tx := some { octets := withCheck [unit, 0x86, status], reload := false } } }
     ((s.partState = .run ∧ allLocked) ∨ s.partState = .unconfigured →
       ∃ t, exec (.reload unit []) s = .next t ∧ t.partState = .starting ∧
         t.link = { s.link with
           tx := some { octets := withCheck [unit, 0x86, 0], reload := true } } ∧
         t.live = s.live ∧ t.ctl = s.ctl ∧ t.mem = s.mem ∧
         ((∃ x, s.port = some x ∧ x.write = true) → t.port = none ∧ t.busReady = true) ∧
         ((∀ x, s.port = some x → x.write = false) → t.port = s.port)) ∧
     (s.partState = .run → ¬allLocked → exec (.reload unit []) s = .next (answer 3)) ∧
     (s.partState = .starting ∨ s.partState = .safing →
       exec (.reload unit []) s = .next (answer 4))) ∧
  (∀ (s : State) (octets : List Octet), s.resetAsserted = false →
     (s.link.tx = some { octets := octets, reload := false } →
       exec .responseEnd s = .next { s with link := { s.link with tx := none } }) ∧
     (s.link.tx = some { octets := octets, reload := true } →
       ∃ t, exec .responseEnd s = .next t ∧ t.clock = 0 ∧ t.partState = .starting ∧
         t.loading = true ∧ t.startCause = .reload ∧ t.live = Live.reset ∧ t.bases = none ∧
         t.port = none ∧ t.urgent = [] ∧ t.bulk = [] ∧ t.mem = s.mem ∧ t.mirror = Mirror.reset ∧
         t.link = { s.link with rx := .waiting, tx := none } ∧
         t.identity = 0 ∧ t.loadStatus = { code := .none, entry := none } ∧ t.safing = .off ∧
         t.urgentWait = 0 ∧ t.bulkWait = 0 ∧ t.starvation = 0 ∧ t.drainer = 0 ∧
         t.stationSlots = Vector.replicate 32 StationSlot.reset ∧
         t.stations = Vector.replicate 32 Station.reset ∧
         t.quals = Vector.replicate 32 Qualifiers.reset ∧
         t.ctl = { Ctl.reset with freeCount := s.ctl.freeCount } ∧
         t.ctl.slots = Vector.replicate 24 CommandSlot.reset ∧ t.pending = s.pending ∧
         (s.port = none → t.busReady = s.busReady ∧ t.busData = s.busData) ∧
         (∀ x, s.port = some x → t.busReady = true ∧
           t.busData = if x.write = true then s.busData else Memory.readWord s.mem x.addr))) ∧
  (∀ (s : State) (unit : Octet) (payload : List Octet), s.takesRequest unit payload → payload ≠ [] →
     exec (.reload unit payload) s = .next
       { s with
         link := { s.link with
           tx := some { octets := withCheck [unit, 0x86, 5], reload := false } } })

/-- R159: the line carries no run of six 1 bits between delimiters, and zero deletion gives back what
zero insertion was given. -/
def Obligations.ZeroInsertionIsUndone : Prop :=
  ∀ bits : List Bool,
    zeroDelete 0 (zeroInsert 0 bits) = bits ∧ lineBitsOk 0 (zeroInsert 0 bits) = true

/-! ## The whole machine -/

/-- R30, R34, R49, R50: image memory changes at a grant of the Memory Port and at no other command. -/
def Obligations.MemoryChangesOnlyAtAGrant : Prop :=
  ∀ (c : Instr) (s t : State), c ≠ .arbiterGrant → exec c s = .next t → t.mem = s.mem

/-- R152, R155, R156, R158, R163: the live table changes only at the end of the configuration read, at an
accepted WRITE_CONFIG, and at a reset. Every step keeps it so that the station a pass names as its LEVEL
station is of kind LEVEL. -/
def Obligations.ConfigurationChangesOnlyByLoadWriteOrReset : Prop :=
  (∀ (c : Instr) (s t : State), exec c s = .next t → t.live ≠ s.live →
    c = .fullReset ∨ c = .fullResetEnd ∨ c = .responseEnd ∨
      (∃ image, c = .configLoadComplete image) ∨ ∃ unit payload, c = .writeConfig unit payload) ∧
  (∀ s t : State, s.live.LevelsNamed → step s = .next t → t.live.LevelsNamed)

/-- Every invariant of the statements here holds right after the power-up reset. -/
def Obligations.InvariantsHoldAtReset : Prop :=
  State.reset.memoryCanonical ∧ State.reset.QueuesBounded ∧ State.reset.FallPathsClear ∧
    State.reset.OrdersRun ∧ State.reset.live.LevelsNamed

/-- Every step keeps image memory in its canonical form. The form is the model's own way of holding memory
(log 6, log 7); the rules cited are those by which memory is written. -/
def Obligations.StepKeepsMemoryCanonical : Prop :=
  ∀ s t : State, s.memoryCanonical → step s = .next t → t.memoryCanonical

/-- R49, R50, R51, R144: every step keeps the bounds of the queues. -/
def Obligations.StepKeepsQueuesBounded : Prop :=
  ∀ s t : State, s.QueuesBounded → step s = .next t → t.QueuesBounded

/-- R14, R23, R125, R127, R130: every step keeps trucks, breakers and a hung or locked pass apart. -/
def Obligations.StepKeepsFallPathsClear : Prop :=
  ∀ s t : State, s.FallPathsClear → step s = .next t → t.FallPathsClear

/-- R14, R23, R97, R107, R115: after every step an order runs only on a configured outlet of a RUNNING
pass. -/
def Obligations.StepKeepsOrdersInRunningPasses : Prop :=
  ∀ s t : State, s.OrdersRun → step s = .next t → t.OrdersRun
end

