-- ==== Sys2Proof/Laws/Bits.lean ====
section
/-! SUPPORT. Words and octets: splitting and joining undo each other. -/

namespace Sys2Proof.Machine

@[simp] theorem joinWord_octets (w : Word) : joinWord (highOctet w) (lowOctet w) = w := by
  unfold joinWord highOctet lowOctet
  apply BitVec.eq_of_getLsbD_eq
  intro i hi
  rw [BitVec.getLsbD_append]
  by_cases h : i < 8
  · simp [h]
  · simp [h, show i - 8 < 8 by omega, show 8 + (i - 8) = i by omega]

@[simp] theorem lowOctet_joinWord (a b : Octet) : lowOctet (joinWord a b) = b := by
  apply BitVec.eq_of_getLsbD_eq
  intro i hi
  show (BitVec.extractLsb' 0 8 (a ++ b)).getLsbD i = b.getLsbD i
  rw [BitVec.getLsbD_extractLsb', BitVec.getLsbD_append]
  simp [hi]

@[simp] theorem highOctet_joinWord (a b : Octet) : highOctet (joinWord a b) = a := by
  apply BitVec.eq_of_getLsbD_eq
  intro i hi
  show (BitVec.extractLsb' 8 8 (a ++ b)).getLsbD i = a.getLsbD i
  rw [BitVec.getLsbD_extractLsb', BitVec.getLsbD_append]
  simp [hi]

end Sys2Proof.Machine
end

