-- ==== Sys2Proof/Laws/Commands.lean ====
section
/-! SUPPORT. What the command that a bus write names is, and when the Journal Writer writes. -/

namespace Sys2Proof.Machine

theorem outletSlot_of_owner {k : Fin 24} {n : Fin 8} (h : ownerOf k = .outlet n) :
    outletSlot n = k := by
  revert k n; decide

theorem tipSlot_of_owner {k : Fin 24} {n : Fin 12} (h : ownerOf k = .tip n) : tipSlot n = k := by
  revert k n; decide

theorem passSlot_of_owner {k : Fin 24} {n : Fin 4} (h : ownerOf k = .pass n) : passSlot n = k := by
  revert k n; decide

/-- An octet that reads as a numeral is that numeral. -/
theorem octet_of_toNat {o : Octet} {n : Nat} (h : o.toNat = n) : o = BitVec.ofNat 8 n := by
  subst h; simp

/-- The commit that a demand word names is on the slot written. -/
theorem demandCommand_slot (k : Fin 24) (d : Word) : commitSlot (demandCommand k d) = some k := by
  unfold demandCommand
  rcases ho : ownerOf k with n | n | n
  · have := outletSlot_of_owner ho
    dsimp only; split <;> simp_all [commitSlot]
  · have := tipSlot_of_owner ho
    dsimp only; split <;> simp_all [commitSlot]
  · have := passSlot_of_owner ho
    dsimp only; split <;> simp_all [commitSlot]

/-- The commit that a demand word names has that word for its own. -/
theorem demandCommand_word (k : Fin 24) (d : Word) : commitWord (demandCommand k d) = some d := by
  have word (n : Nat) (h : (lowOctet d).toNat = n) :
      joinWord (highOctet d) (BitVec.ofNat 8 n) = d := by
    rw [← octet_of_toNat h, joinWord_octets]
  unfold demandCommand
  dsimp only
  split <;> simp only [commitWord, joinWord_octets, Option.some.injEq] <;>
    exact word _ (by assumption)

/-- The commit that a demand word names is well formed: only a code outside its slot's list is a bad one. -/
theorem demandCommand_wellFormed (k : Fin 24) (d : Word) : (demandCommand k d).wellFormed = true := by
  unfold demandCommand
  rcases ho : ownerOf k with n | n | n <;> dsimp only <;> split <;>
    first
      | rfl
      | (simp_all [Instr.wellFormed, badCodeOk, orderCodes, ownerOf]
         grind)

/-- Outside RUN the Journal Writer writes no record. -/
theorem writeHead_outside_run (s : State) (h : s.partState ≠ .run) : s.writeHead = s := by
  unfold State.writeHead
  split
  · rfl
  · rw [if_neg (by simp [State.recordsGo, h])]

theorem writeGap_outside_run (s : State) (h : s.partState ≠ .run) : s.writeGap = s := by
  unfold State.writeGap
  rw [if_neg (by simp [State.recordsGo, h])]

end Sys2Proof.Machine
end

