-- ==== Sys2Proof/Laws/Config.lean ====
section
/-! SUPPORT. What a table that passes the load checks says of the stations that passes name, and what a
change of an entry leaves of the command slots. -/

namespace Sys2Proof.Machine

/-- A check that fails at no entry holds of every entry. -/
theorem failAt_eq_none {n : Nat} {code : LoadCode} {kind : EntryKind} {ok : Fin n → Bool} :
    failAt code kind ok = none ↔ ∀ i, ok i = true := by
  simp [failAt, List.find?_eq_none]

/-- R154, check 6, passed: the references of every pass are in order. -/
theorem passRefsOk_of_failure {l : Live} (h : l.failure = none) (p : Fin 4) :
    l.passRefsOk p = true := by
  unfold Live.failure at h
  split at h
  · cases h
  · split at h
    · cases h
    · simp only [Live.refsFailure, Option.or_eq_none_iff] at h
      exact failAt_eq_none.1 h.1.1.1.1.1 p

/-- R155: a table that passes the checks names LEVEL stations as the passes' LEVEL stations. -/
theorem levelsNamed_of_failure {l : Live} (h : l.failure = none) : l.LevelsNamed := by
  intro i p hp
  have found := List.find?_some hp
  simp only [Bool.and_eq_true, beq_iff_eq] at found
  have refs := passRefsOk_of_failure h p
  simp only [Live.passRefsOk, found.1, Bool.not_true, Bool.false_or, Bool.and_eq_true,
    Live.stationIs, found.2, i.isLt, dite_true] at refs
  exact eq_of_beq refs.1.1.1.1.1.2

theorem levelsNamed_reset : Live.reset.LevelsNamed := by decide +kernel

/-! ## A changed entry and the command slots (log 48) -/

@[simp] theorem restartPass_slots (p : Fin 4) (e : Env) (c : Ctl) :
    (restartPass p e c).slots = c.slots := rfl

@[simp] theorem applyOutlet_slots (old : OutletCfg) (n : Fin 8) (e : Env) (c : Ctl) :
    (applyOutlet old n e c).slots = c.slots := by
  simp only [applyOutlet]
  repeat' split
  all_goals rfl

/-- A tip point that is configured, or no longer so, by the change. -/
theorem applyTip_slots (old : TipCfg) (t : Fin 12) (e : Env) (c : Ctl)
    (h : old.present ≠ (e.tipCfg t).present) : (applyTip old t e c).slots = c.slots := by
  unfold applyTip
  cases ho : old.present <;> cases hn : (e.tipCfg t).present <;> simp_all <;> rfl

end Sys2Proof.Machine
end

