-- ==== Sys2Proof/Laws/State.lean ====
section
/-! SUPPORT. One lemma per field per update of `State` and of `Ctl`, true by rfl, and what reads after
writes give. -/

namespace Sys2Proof.Machine

/-! ### State.onCtl -/

@[simp] theorem State.onCtl_clock (s : State) (f : Env → Ctl → Ctl) :
    (s.onCtl f).clock = s.clock := rfl
@[simp] theorem State.onCtl_resetAsserted (s : State) (f : Env → Ctl → Ctl) :
    (s.onCtl f).resetAsserted = s.resetAsserted := rfl
@[simp] theorem State.onCtl_partState (s : State) (f : Env → Ctl → Ctl) :
    (s.onCtl f).partState = s.partState := rfl
@[simp] theorem State.onCtl_loading (s : State) (f : Env → Ctl → Ctl) :
    (s.onCtl f).loading = s.loading := rfl
@[simp] theorem State.onCtl_live (s : State) (f : Env → Ctl → Ctl) :
    (s.onCtl f).live = s.live := rfl
@[simp] theorem State.onCtl_identity (s : State) (f : Env → Ctl → Ctl) :
    (s.onCtl f).identity = s.identity := rfl
@[simp] theorem State.onCtl_loadStatus (s : State) (f : Env → Ctl → Ctl) :
    (s.onCtl f).loadStatus = s.loadStatus := rfl
@[simp] theorem State.onCtl_startCause (s : State) (f : Env → Ctl → Ctl) :
    (s.onCtl f).startCause = s.startCause := rfl
@[simp] theorem State.onCtl_safing (s : State) (f : Env → Ctl → Ctl) :
    (s.onCtl f).safing = s.safing := rfl
@[simp] theorem State.onCtl_port (s : State) (f : Env → Ctl → Ctl) :
    (s.onCtl f).port = s.port := rfl
@[simp] theorem State.onCtl_busReady (s : State) (f : Env → Ctl → Ctl) :
    (s.onCtl f).busReady = s.busReady := rfl
@[simp] theorem State.onCtl_busData (s : State) (f : Env → Ctl → Ctl) :
    (s.onCtl f).busData = s.busData := rfl
@[simp] theorem State.onCtl_bases (s : State) (f : Env → Ctl → Ctl) :
    (s.onCtl f).bases = s.bases := rfl
@[simp] theorem State.onCtl_stationSlots (s : State) (f : Env → Ctl → Ctl) :
    (s.onCtl f).stationSlots = s.stationSlots := rfl
@[simp] theorem State.onCtl_drainer (s : State) (f : Env → Ctl → Ctl) :
    (s.onCtl f).drainer = s.drainer := rfl
@[simp] theorem State.onCtl_urgent (s : State) (f : Env → Ctl → Ctl) :
    (s.onCtl f).urgent = s.urgent := rfl
@[simp] theorem State.onCtl_bulk (s : State) (f : Env → Ctl → Ctl) :
    (s.onCtl f).bulk = s.bulk := rfl
@[simp] theorem State.onCtl_urgentWait (s : State) (f : Env → Ctl → Ctl) :
    (s.onCtl f).urgentWait = s.urgentWait := rfl
@[simp] theorem State.onCtl_bulkWait (s : State) (f : Env → Ctl → Ctl) :
    (s.onCtl f).bulkWait = s.bulkWait := rfl
@[simp] theorem State.onCtl_starvation (s : State) (f : Env → Ctl → Ctl) :
    (s.onCtl f).starvation = s.starvation := rfl
@[simp] theorem State.onCtl_stations (s : State) (f : Env → Ctl → Ctl) :
    (s.onCtl f).stations = s.stations := rfl
@[simp] theorem State.onCtl_quals (s : State) (f : Env → Ctl → Ctl) :
    (s.onCtl f).quals = s.quals := rfl
@[simp] theorem State.onCtl_ctl (s : State) (f : Env → Ctl → Ctl) :
    (s.onCtl f).ctl = f s.env s.ctl := rfl
@[simp] theorem State.onCtl_mirror (s : State) (f : Env → Ctl → Ctl) :
    (s.onCtl f).mirror = s.mirror := rfl
@[simp] theorem State.onCtl_link (s : State) (f : Env → Ctl → Ctl) :
    (s.onCtl f).link = s.link := rfl
@[simp] theorem State.onCtl_mem (s : State) (f : Env → Ctl → Ctl) : (s.onCtl f).mem = s.mem := rfl
@[simp] theorem State.onCtl_pending (s : State) (f : Env → Ctl → Ctl) :
    (s.onCtl f).pending = s.pending := rfl

/-! ### State.setStation -/

@[simp] theorem State.setStation_clock (s : State) (i : Fin 32) (x : Station) :
    (s.setStation i x).clock = s.clock := rfl
@[simp] theorem State.setStation_resetAsserted (s : State) (i : Fin 32) (x : Station) :
    (s.setStation i x).resetAsserted = s.resetAsserted := rfl
@[simp] theorem State.setStation_partState (s : State) (i : Fin 32) (x : Station) :
    (s.setStation i x).partState = s.partState := rfl
@[simp] theorem State.setStation_loading (s : State) (i : Fin 32) (x : Station) :
    (s.setStation i x).loading = s.loading := rfl
@[simp] theorem State.setStation_live (s : State) (i : Fin 32) (x : Station) :
    (s.setStation i x).live = s.live := rfl
@[simp] theorem State.setStation_identity (s : State) (i : Fin 32) (x : Station) :
    (s.setStation i x).identity = s.identity := rfl
@[simp] theorem State.setStation_loadStatus (s : State) (i : Fin 32) (x : Station) :
    (s.setStation i x).loadStatus = s.loadStatus := rfl
@[simp] theorem State.setStation_startCause (s : State) (i : Fin 32) (x : Station) :
    (s.setStation i x).startCause = s.startCause := rfl
@[simp] theorem State.setStation_safing (s : State) (i : Fin 32) (x : Station) :
    (s.setStation i x).safing = s.safing := rfl
@[simp] theorem State.setStation_port (s : State) (i : Fin 32) (x : Station) :
    (s.setStation i x).port = s.port := rfl
@[simp] theorem State.setStation_busReady (s : State) (i : Fin 32) (x : Station) :
    (s.setStation i x).busReady = s.busReady := rfl
@[simp] theorem State.setStation_busData (s : State) (i : Fin 32) (x : Station) :
    (s.setStation i x).busData = s.busData := rfl
@[simp] theorem State.setStation_bases (s : State) (i : Fin 32) (x : Station) :
    (s.setStation i x).bases = s.bases := rfl
@[simp] theorem State.setStation_stationSlots (s : State) (i : Fin 32) (x : Station) :
    (s.setStation i x).stationSlots = s.stationSlots := rfl
@[simp] theorem State.setStation_drainer (s : State) (i : Fin 32) (x : Station) :
    (s.setStation i x).drainer = s.drainer := rfl
@[simp] theorem State.setStation_urgent (s : State) (i : Fin 32) (x : Station) :
    (s.setStation i x).urgent = s.urgent := rfl
@[simp] theorem State.setStation_bulk (s : State) (i : Fin 32) (x : Station) :
    (s.setStation i x).bulk = s.bulk := rfl
@[simp] theorem State.setStation_urgentWait (s : State) (i : Fin 32) (x : Station) :
    (s.setStation i x).urgentWait = s.urgentWait := rfl
@[simp] theorem State.setStation_bulkWait (s : State) (i : Fin 32) (x : Station) :
    (s.setStation i x).bulkWait = s.bulkWait := rfl
@[simp] theorem State.setStation_starvation (s : State) (i : Fin 32) (x : Station) :
    (s.setStation i x).starvation = s.starvation := rfl
@[simp] theorem State.setStation_stations (s : State) (i : Fin 32) (x : Station) :
    (s.setStation i x).stations = s.stations.set i.val x i.isLt := rfl
@[simp] theorem State.setStation_quals (s : State) (i : Fin 32) (x : Station) :
    (s.setStation i x).quals = s.quals := rfl
@[simp] theorem State.setStation_ctl (s : State) (i : Fin 32) (x : Station) :
    (s.setStation i x).ctl = s.ctl := rfl
@[simp] theorem State.setStation_mirror (s : State) (i : Fin 32) (x : Station) :
    (s.setStation i x).mirror = s.mirror := rfl
@[simp] theorem State.setStation_link (s : State) (i : Fin 32) (x : Station) :
    (s.setStation i x).link = s.link := rfl
@[simp] theorem State.setStation_mem (s : State) (i : Fin 32) (x : Station) :
    (s.setStation i x).mem = s.mem := rfl
@[simp] theorem State.setStation_pending (s : State) (i : Fin 32) (x : Station) :
    (s.setStation i x).pending = s.pending := rfl

/-! ### State.setQual -/

@[simp] theorem State.setQual_clock (s : State) (i : Fin 32) (q : Qualifiers) :
    (s.setQual i q).clock = s.clock := rfl
@[simp] theorem State.setQual_resetAsserted (s : State) (i : Fin 32) (q : Qualifiers) :
    (s.setQual i q).resetAsserted = s.resetAsserted := rfl
@[simp] theorem State.setQual_partState (s : State) (i : Fin 32) (q : Qualifiers) :
    (s.setQual i q).partState = s.partState := rfl
@[simp] theorem State.setQual_loading (s : State) (i : Fin 32) (q : Qualifiers) :
    (s.setQual i q).loading = s.loading := rfl
@[simp] theorem State.setQual_live (s : State) (i : Fin 32) (q : Qualifiers) :
    (s.setQual i q).live = s.live := rfl
@[simp] theorem State.setQual_identity (s : State) (i : Fin 32) (q : Qualifiers) :
    (s.setQual i q).identity = s.identity := rfl
@[simp] theorem State.setQual_loadStatus (s : State) (i : Fin 32) (q : Qualifiers) :
    (s.setQual i q).loadStatus = s.loadStatus := rfl
@[simp] theorem State.setQual_startCause (s : State) (i : Fin 32) (q : Qualifiers) :
    (s.setQual i q).startCause = s.startCause := rfl
@[simp] theorem State.setQual_safing (s : State) (i : Fin 32) (q : Qualifiers) :
    (s.setQual i q).safing = s.safing := rfl
@[simp] theorem State.setQual_port (s : State) (i : Fin 32) (q : Qualifiers) :
    (s.setQual i q).port = s.port := rfl
@[simp] theorem State.setQual_busReady (s : State) (i : Fin 32) (q : Qualifiers) :
    (s.setQual i q).busReady = s.busReady := rfl
@[simp] theorem State.setQual_busData (s : State) (i : Fin 32) (q : Qualifiers) :
    (s.setQual i q).busData = s.busData := rfl
@[simp] theorem State.setQual_bases (s : State) (i : Fin 32) (q : Qualifiers) :
    (s.setQual i q).bases = s.bases := rfl
@[simp] theorem State.setQual_stationSlots (s : State) (i : Fin 32) (q : Qualifiers) :
    (s.setQual i q).stationSlots = s.stationSlots := rfl
@[simp] theorem State.setQual_drainer (s : State) (i : Fin 32) (q : Qualifiers) :
    (s.setQual i q).drainer = s.drainer := rfl
@[simp] theorem State.setQual_urgent (s : State) (i : Fin 32) (q : Qualifiers) :
    (s.setQual i q).urgent = s.urgent := rfl
@[simp] theorem State.setQual_bulk (s : State) (i : Fin 32) (q : Qualifiers) :
    (s.setQual i q).bulk = s.bulk := rfl
@[simp] theorem State.setQual_urgentWait (s : State) (i : Fin 32) (q : Qualifiers) :
    (s.setQual i q).urgentWait = s.urgentWait := rfl
@[simp] theorem State.setQual_bulkWait (s : State) (i : Fin 32) (q : Qualifiers) :
    (s.setQual i q).bulkWait = s.bulkWait := rfl
@[simp] theorem State.setQual_starvation (s : State) (i : Fin 32) (q : Qualifiers) :
    (s.setQual i q).starvation = s.starvation := rfl
@[simp] theorem State.setQual_stations (s : State) (i : Fin 32) (q : Qualifiers) :
    (s.setQual i q).stations = s.stations := rfl
@[simp] theorem State.setQual_quals (s : State) (i : Fin 32) (q : Qualifiers) :
    (s.setQual i q).quals = s.quals.set i.val q i.isLt := rfl
@[simp] theorem State.setQual_ctl (s : State) (i : Fin 32) (q : Qualifiers) :
    (s.setQual i q).ctl = s.ctl := rfl
@[simp] theorem State.setQual_mirror (s : State) (i : Fin 32) (q : Qualifiers) :
    (s.setQual i q).mirror = s.mirror := rfl
@[simp] theorem State.setQual_link (s : State) (i : Fin 32) (q : Qualifiers) :
    (s.setQual i q).link = s.link := rfl
@[simp] theorem State.setQual_mem (s : State) (i : Fin 32) (q : Qualifiers) :
    (s.setQual i q).mem = s.mem := rfl
@[simp] theorem State.setQual_pending (s : State) (i : Fin 32) (q : Qualifiers) :
    (s.setQual i q).pending = s.pending := rfl

/-! ### State.setStationSlot -/

@[simp] theorem State.setStationSlot_clock (s : State) (k : Fin 32) (x : StationSlot) :
    (s.setStationSlot k x).clock = s.clock := rfl
@[simp] theorem State.setStationSlot_resetAsserted (s : State) (k : Fin 32) (x : StationSlot) :
    (s.setStationSlot k x).resetAsserted = s.resetAsserted := rfl
@[simp] theorem State.setStationSlot_partState (s : State) (k : Fin 32) (x : StationSlot) :
    (s.setStationSlot k x).partState = s.partState := rfl
@[simp] theorem State.setStationSlot_loading (s : State) (k : Fin 32) (x : StationSlot) :
    (s.setStationSlot k x).loading = s.loading := rfl
@[simp] theorem State.setStationSlot_live (s : State) (k : Fin 32) (x : StationSlot) :
    (s.setStationSlot k x).live = s.live := rfl
@[simp] theorem State.setStationSlot_identity (s : State) (k : Fin 32) (x : StationSlot) :
    (s.setStationSlot k x).identity = s.identity := rfl
@[simp] theorem State.setStationSlot_loadStatus (s : State) (k : Fin 32) (x : StationSlot) :
    (s.setStationSlot k x).loadStatus = s.loadStatus := rfl
@[simp] theorem State.setStationSlot_startCause (s : State) (k : Fin 32) (x : StationSlot) :
    (s.setStationSlot k x).startCause = s.startCause := rfl
@[simp] theorem State.setStationSlot_safing (s : State) (k : Fin 32) (x : StationSlot) :
    (s.setStationSlot k x).safing = s.safing := rfl
@[simp] theorem State.setStationSlot_port (s : State) (k : Fin 32) (x : StationSlot) :
    (s.setStationSlot k x).port = s.port := rfl
@[simp] theorem State.setStationSlot_busReady (s : State) (k : Fin 32) (x : StationSlot) :
    (s.setStationSlot k x).busReady = s.busReady := rfl
@[simp] theorem State.setStationSlot_busData (s : State) (k : Fin 32) (x : StationSlot) :
    (s.setStationSlot k x).busData = s.busData := rfl
@[simp] theorem State.setStationSlot_bases (s : State) (k : Fin 32) (x : StationSlot) :
    (s.setStationSlot k x).bases = s.bases := rfl
@[simp] theorem State.setStationSlot_stationSlots (s : State) (k : Fin 32) (x : StationSlot) :
    (s.setStationSlot k x).stationSlots = s.stationSlots.set k.val x k.isLt := rfl
@[simp] theorem State.setStationSlot_drainer (s : State) (k : Fin 32) (x : StationSlot) :
    (s.setStationSlot k x).drainer = s.drainer := rfl
@[simp] theorem State.setStationSlot_urgent (s : State) (k : Fin 32) (x : StationSlot) :
    (s.setStationSlot k x).urgent = s.urgent := rfl
@[simp] theorem State.setStationSlot_bulk (s : State) (k : Fin 32) (x : StationSlot) :
    (s.setStationSlot k x).bulk = s.bulk := rfl
@[simp] theorem State.setStationSlot_urgentWait (s : State) (k : Fin 32) (x : StationSlot) :
    (s.setStationSlot k x).urgentWait = s.urgentWait := rfl
@[simp] theorem State.setStationSlot_bulkWait (s : State) (k : Fin 32) (x : StationSlot) :
    (s.setStationSlot k x).bulkWait = s.bulkWait := rfl
@[simp] theorem State.setStationSlot_starvation (s : State) (k : Fin 32) (x : StationSlot) :
    (s.setStationSlot k x).starvation = s.starvation := rfl
@[simp] theorem State.setStationSlot_stations (s : State) (k : Fin 32) (x : StationSlot) :
    (s.setStationSlot k x).stations = s.stations := rfl
@[simp] theorem State.setStationSlot_quals (s : State) (k : Fin 32) (x : StationSlot) :
    (s.setStationSlot k x).quals = s.quals := rfl
@[simp] theorem State.setStationSlot_ctl (s : State) (k : Fin 32) (x : StationSlot) :
    (s.setStationSlot k x).ctl = s.ctl := rfl
@[simp] theorem State.setStationSlot_mirror (s : State) (k : Fin 32) (x : StationSlot) :
    (s.setStationSlot k x).mirror = s.mirror := rfl
@[simp] theorem State.setStationSlot_link (s : State) (k : Fin 32) (x : StationSlot) :
    (s.setStationSlot k x).link = s.link := rfl
@[simp] theorem State.setStationSlot_mem (s : State) (k : Fin 32) (x : StationSlot) :
    (s.setStationSlot k x).mem = s.mem := rfl
@[simp] theorem State.setStationSlot_pending (s : State) (k : Fin 32) (x : StationSlot) :
    (s.setStationSlot k x).pending = s.pending := rfl

/-! ### State.placeUrgent -/

@[simp] theorem State.placeUrgent_clock (s : State) (g : List Entry) :
    (s.placeUrgent g).clock = s.clock := rfl
@[simp] theorem State.placeUrgent_resetAsserted (s : State) (g : List Entry) :
    (s.placeUrgent g).resetAsserted = s.resetAsserted := rfl
@[simp] theorem State.placeUrgent_partState (s : State) (g : List Entry) :
    (s.placeUrgent g).partState = s.partState := rfl
@[simp] theorem State.placeUrgent_loading (s : State) (g : List Entry) :
    (s.placeUrgent g).loading = s.loading := rfl
@[simp] theorem State.placeUrgent_live (s : State) (g : List Entry) :
    (s.placeUrgent g).live = s.live := rfl
@[simp] theorem State.placeUrgent_identity (s : State) (g : List Entry) :
    (s.placeUrgent g).identity = s.identity := rfl
@[simp] theorem State.placeUrgent_loadStatus (s : State) (g : List Entry) :
    (s.placeUrgent g).loadStatus = s.loadStatus := rfl
@[simp] theorem State.placeUrgent_startCause (s : State) (g : List Entry) :
    (s.placeUrgent g).startCause = s.startCause := rfl
@[simp] theorem State.placeUrgent_safing (s : State) (g : List Entry) :
    (s.placeUrgent g).safing = s.safing := rfl
@[simp] theorem State.placeUrgent_port (s : State) (g : List Entry) :
    (s.placeUrgent g).port = s.port := rfl
@[simp] theorem State.placeUrgent_busReady (s : State) (g : List Entry) :
    (s.placeUrgent g).busReady = s.busReady := rfl
@[simp] theorem State.placeUrgent_busData (s : State) (g : List Entry) :
    (s.placeUrgent g).busData = s.busData := rfl
@[simp] theorem State.placeUrgent_bases (s : State) (g : List Entry) :
    (s.placeUrgent g).bases = s.bases := rfl
@[simp] theorem State.placeUrgent_stationSlots (s : State) (g : List Entry) :
    (s.placeUrgent g).stationSlots = s.stationSlots := rfl
@[simp] theorem State.placeUrgent_drainer (s : State) (g : List Entry) :
    (s.placeUrgent g).drainer = s.drainer := rfl
@[simp] theorem State.placeUrgent_urgent (s : State) (g : List Entry) :
    (s.placeUrgent g).urgent = s.urgent ++ [g] := rfl
@[simp] theorem State.placeUrgent_bulk (s : State) (g : List Entry) :
    (s.placeUrgent g).bulk = s.bulk := rfl
@[simp] theorem State.placeUrgent_urgentWait (s : State) (g : List Entry) :
    (s.placeUrgent g).urgentWait = s.urgentWait := rfl
@[simp] theorem State.placeUrgent_bulkWait (s : State) (g : List Entry) :
    (s.placeUrgent g).bulkWait = s.bulkWait := rfl
@[simp] theorem State.placeUrgent_starvation (s : State) (g : List Entry) :
    (s.placeUrgent g).starvation = s.starvation := rfl
@[simp] theorem State.placeUrgent_stations (s : State) (g : List Entry) :
    (s.placeUrgent g).stations = s.stations := rfl
@[simp] theorem State.placeUrgent_quals (s : State) (g : List Entry) :
    (s.placeUrgent g).quals = s.quals := rfl
@[simp] theorem State.placeUrgent_ctl (s : State) (g : List Entry) :
    (s.placeUrgent g).ctl = s.ctl := rfl
@[simp] theorem State.placeUrgent_mirror (s : State) (g : List Entry) :
    (s.placeUrgent g).mirror = s.mirror := rfl
@[simp] theorem State.placeUrgent_link (s : State) (g : List Entry) :
    (s.placeUrgent g).link = s.link := rfl
@[simp] theorem State.placeUrgent_mem (s : State) (g : List Entry) :
    (s.placeUrgent g).mem = s.mem := rfl
@[simp] theorem State.placeUrgent_pending (s : State) (g : List Entry) :
    (s.placeUrgent g).pending = s.pending := rfl

/-! ### State.placeBulk -/

@[simp] theorem State.placeBulk_clock (s : State) (g : List Entry) :
    (s.placeBulk g).clock = s.clock := rfl
@[simp] theorem State.placeBulk_resetAsserted (s : State) (g : List Entry) :
    (s.placeBulk g).resetAsserted = s.resetAsserted := rfl
@[simp] theorem State.placeBulk_partState (s : State) (g : List Entry) :
    (s.placeBulk g).partState = s.partState := rfl
@[simp] theorem State.placeBulk_loading (s : State) (g : List Entry) :
    (s.placeBulk g).loading = s.loading := rfl
@[simp] theorem State.placeBulk_live (s : State) (g : List Entry) :
    (s.placeBulk g).live = s.live := rfl
@[simp] theorem State.placeBulk_identity (s : State) (g : List Entry) :
    (s.placeBulk g).identity = s.identity := rfl
@[simp] theorem State.placeBulk_loadStatus (s : State) (g : List Entry) :
    (s.placeBulk g).loadStatus = s.loadStatus := rfl
@[simp] theorem State.placeBulk_startCause (s : State) (g : List Entry) :
    (s.placeBulk g).startCause = s.startCause := rfl
@[simp] theorem State.placeBulk_safing (s : State) (g : List Entry) :
    (s.placeBulk g).safing = s.safing := rfl
@[simp] theorem State.placeBulk_port (s : State) (g : List Entry) :
    (s.placeBulk g).port = s.port := rfl
@[simp] theorem State.placeBulk_busReady (s : State) (g : List Entry) :
    (s.placeBulk g).busReady = s.busReady := rfl
@[simp] theorem State.placeBulk_busData (s : State) (g : List Entry) :
    (s.placeBulk g).busData = s.busData := rfl
@[simp] theorem State.placeBulk_bases (s : State) (g : List Entry) :
    (s.placeBulk g).bases = s.bases := rfl
@[simp] theorem State.placeBulk_stationSlots (s : State) (g : List Entry) :
    (s.placeBulk g).stationSlots = s.stationSlots := rfl
@[simp] theorem State.placeBulk_drainer (s : State) (g : List Entry) :
    (s.placeBulk g).drainer = s.drainer := rfl
@[simp] theorem State.placeBulk_urgent (s : State) (g : List Entry) :
    (s.placeBulk g).urgent = s.urgent := rfl
@[simp] theorem State.placeBulk_bulk (s : State) (g : List Entry) :
    (s.placeBulk g).bulk = s.bulk ++ g := rfl
@[simp] theorem State.placeBulk_urgentWait (s : State) (g : List Entry) :
    (s.placeBulk g).urgentWait = s.urgentWait := rfl
@[simp] theorem State.placeBulk_bulkWait (s : State) (g : List Entry) :
    (s.placeBulk g).bulkWait = s.bulkWait := rfl
@[simp] theorem State.placeBulk_starvation (s : State) (g : List Entry) :
    (s.placeBulk g).starvation = s.starvation := rfl
@[simp] theorem State.placeBulk_stations (s : State) (g : List Entry) :
    (s.placeBulk g).stations = s.stations := rfl
@[simp] theorem State.placeBulk_quals (s : State) (g : List Entry) :
    (s.placeBulk g).quals = s.quals := rfl
@[simp] theorem State.placeBulk_ctl (s : State) (g : List Entry) :
    (s.placeBulk g).ctl = s.ctl := rfl
@[simp] theorem State.placeBulk_mirror (s : State) (g : List Entry) :
    (s.placeBulk g).mirror = s.mirror := rfl
@[simp] theorem State.placeBulk_link (s : State) (g : List Entry) :
    (s.placeBulk g).link = s.link := rfl
@[simp] theorem State.placeBulk_mem (s : State) (g : List Entry) :
    (s.placeBulk g).mem = s.mem := rfl
@[simp] theorem State.placeBulk_pending (s : State) (g : List Entry) :
    (s.placeBulk g).pending = s.pending := rfl

/-! ### State.ready -/

@[simp] theorem State.ready_clock (s : State) : (s.ready).clock = s.clock := rfl
@[simp] theorem State.ready_resetAsserted (s : State) :
    (s.ready).resetAsserted = s.resetAsserted := rfl
@[simp] theorem State.ready_partState (s : State) : (s.ready).partState = s.partState := rfl
@[simp] theorem State.ready_loading (s : State) : (s.ready).loading = s.loading := rfl
@[simp] theorem State.ready_live (s : State) : (s.ready).live = s.live := rfl
@[simp] theorem State.ready_identity (s : State) : (s.ready).identity = s.identity := rfl
@[simp] theorem State.ready_loadStatus (s : State) : (s.ready).loadStatus = s.loadStatus := rfl
@[simp] theorem State.ready_startCause (s : State) : (s.ready).startCause = s.startCause := rfl
@[simp] theorem State.ready_safing (s : State) : (s.ready).safing = s.safing := rfl
@[simp] theorem State.ready_port (s : State) : (s.ready).port = none := rfl
@[simp] theorem State.ready_busReady (s : State) : (s.ready).busReady = true := rfl
@[simp] theorem State.ready_busData (s : State) : (s.ready).busData = s.busData := rfl
@[simp] theorem State.ready_bases (s : State) : (s.ready).bases = s.bases := rfl
@[simp] theorem State.ready_stationSlots (s : State) :
    (s.ready).stationSlots = s.stationSlots := rfl
@[simp] theorem State.ready_drainer (s : State) : (s.ready).drainer = s.drainer := rfl
@[simp] theorem State.ready_urgent (s : State) : (s.ready).urgent = s.urgent := rfl
@[simp] theorem State.ready_bulk (s : State) : (s.ready).bulk = s.bulk := rfl
@[simp] theorem State.ready_urgentWait (s : State) : (s.ready).urgentWait = s.urgentWait := rfl
@[simp] theorem State.ready_bulkWait (s : State) : (s.ready).bulkWait = s.bulkWait := rfl
@[simp] theorem State.ready_starvation (s : State) : (s.ready).starvation = s.starvation := rfl
@[simp] theorem State.ready_stations (s : State) : (s.ready).stations = s.stations := rfl
@[simp] theorem State.ready_quals (s : State) : (s.ready).quals = s.quals := rfl
@[simp] theorem State.ready_ctl (s : State) : (s.ready).ctl = s.ctl := rfl
@[simp] theorem State.ready_mirror (s : State) : (s.ready).mirror = s.mirror := rfl
@[simp] theorem State.ready_link (s : State) : (s.ready).link = s.link := rfl
@[simp] theorem State.ready_mem (s : State) : (s.ready).mem = s.mem := rfl
@[simp] theorem State.ready_pending (s : State) : (s.ready).pending = s.pending := rfl

/-! ### State.hold -/

@[simp] theorem State.hold_clock (s : State) (t : Txn) : (s.hold t).clock = s.clock := rfl
@[simp] theorem State.hold_resetAsserted (s : State) (t : Txn) :
    (s.hold t).resetAsserted = s.resetAsserted := rfl
@[simp] theorem State.hold_partState (s : State) (t : Txn) :
    (s.hold t).partState = s.partState := rfl
@[simp] theorem State.hold_loading (s : State) (t : Txn) : (s.hold t).loading = s.loading := rfl
@[simp] theorem State.hold_live (s : State) (t : Txn) : (s.hold t).live = s.live := rfl
@[simp] theorem State.hold_identity (s : State) (t : Txn) : (s.hold t).identity = s.identity := rfl
@[simp] theorem State.hold_loadStatus (s : State) (t : Txn) :
    (s.hold t).loadStatus = s.loadStatus := rfl
@[simp] theorem State.hold_startCause (s : State) (t : Txn) :
    (s.hold t).startCause = s.startCause := rfl
@[simp] theorem State.hold_safing (s : State) (t : Txn) : (s.hold t).safing = s.safing := rfl
@[simp] theorem State.hold_port (s : State) (t : Txn) : (s.hold t).port = some t := rfl
@[simp] theorem State.hold_busReady (s : State) (t : Txn) : (s.hold t).busReady = false := rfl
@[simp] theorem State.hold_busData (s : State) (t : Txn) : (s.hold t).busData = s.busData := rfl
@[simp] theorem State.hold_bases (s : State) (t : Txn) : (s.hold t).bases = s.bases := rfl
@[simp] theorem State.hold_stationSlots (s : State) (t : Txn) :
    (s.hold t).stationSlots = s.stationSlots := rfl
@[simp] theorem State.hold_drainer (s : State) (t : Txn) : (s.hold t).drainer = s.drainer := rfl
@[simp] theorem State.hold_urgent (s : State) (t : Txn) : (s.hold t).urgent = s.urgent := rfl
@[simp] theorem State.hold_bulk (s : State) (t : Txn) : (s.hold t).bulk = s.bulk := rfl
@[simp] theorem State.hold_urgentWait (s : State) (t : Txn) :
    (s.hold t).urgentWait = s.urgentWait := rfl
@[simp] theorem State.hold_bulkWait (s : State) (t : Txn) : (s.hold t).bulkWait = s.bulkWait := rfl
@[simp] theorem State.hold_starvation (s : State) (t : Txn) :
    (s.hold t).starvation = s.starvation := rfl
@[simp] theorem State.hold_stations (s : State) (t : Txn) : (s.hold t).stations = s.stations := rfl
@[simp] theorem State.hold_quals (s : State) (t : Txn) : (s.hold t).quals = s.quals := rfl
@[simp] theorem State.hold_ctl (s : State) (t : Txn) : (s.hold t).ctl = s.ctl := rfl
@[simp] theorem State.hold_mirror (s : State) (t : Txn) : (s.hold t).mirror = s.mirror := rfl
@[simp] theorem State.hold_link (s : State) (t : Txn) : (s.hold t).link = s.link := rfl
@[simp] theorem State.hold_mem (s : State) (t : Txn) : (s.hold t).mem = s.mem := rfl
@[simp] theorem State.hold_pending (s : State) (t : Txn) : (s.hold t).pending = s.pending := rfl

/-! ### State.setLink -/

@[simp] theorem State.setLink_clock (s : State) (f : Link → Link) :
    (s.setLink f).clock = s.clock := rfl
@[simp] theorem State.setLink_resetAsserted (s : State) (f : Link → Link) :
    (s.setLink f).resetAsserted = s.resetAsserted := rfl
@[simp] theorem State.setLink_partState (s : State) (f : Link → Link) :
    (s.setLink f).partState = s.partState := rfl
@[simp] theorem State.setLink_loading (s : State) (f : Link → Link) :
    (s.setLink f).loading = s.loading := rfl
@[simp] theorem State.setLink_live (s : State) (f : Link → Link) :
    (s.setLink f).live = s.live := rfl
@[simp] theorem State.setLink_identity (s : State) (f : Link → Link) :
    (s.setLink f).identity = s.identity := rfl
@[simp] theorem State.setLink_loadStatus (s : State) (f : Link → Link) :
    (s.setLink f).loadStatus = s.loadStatus := rfl
@[simp] theorem State.setLink_startCause (s : State) (f : Link → Link) :
    (s.setLink f).startCause = s.startCause := rfl
@[simp] theorem State.setLink_safing (s : State) (f : Link → Link) :
    (s.setLink f).safing = s.safing := rfl
@[simp] theorem State.setLink_port (s : State) (f : Link → Link) :
    (s.setLink f).port = s.port := rfl
@[simp] theorem State.setLink_busReady (s : State) (f : Link → Link) :
    (s.setLink f).busReady = s.busReady := rfl
@[simp] theorem State.setLink_busData (s : State) (f : Link → Link) :
    (s.setLink f).busData = s.busData := rfl
@[simp] theorem State.setLink_bases (s : State) (f : Link → Link) :
    (s.setLink f).bases = s.bases := rfl
@[simp] theorem State.setLink_stationSlots (s : State) (f : Link → Link) :
    (s.setLink f).stationSlots = s.stationSlots := rfl
@[simp] theorem State.setLink_drainer (s : State) (f : Link → Link) :
    (s.setLink f).drainer = s.drainer := rfl
@[simp] theorem State.setLink_urgent (s : State) (f : Link → Link) :
    (s.setLink f).urgent = s.urgent := rfl
@[simp] theorem State.setLink_bulk (s : State) (f : Link → Link) :
    (s.setLink f).bulk = s.bulk := rfl
@[simp] theorem State.setLink_urgentWait (s : State) (f : Link → Link) :
    (s.setLink f).urgentWait = s.urgentWait := rfl
@[simp] theorem State.setLink_bulkWait (s : State) (f : Link → Link) :
    (s.setLink f).bulkWait = s.bulkWait := rfl
@[simp] theorem State.setLink_starvation (s : State) (f : Link → Link) :
    (s.setLink f).starvation = s.starvation := rfl
@[simp] theorem State.setLink_stations (s : State) (f : Link → Link) :
    (s.setLink f).stations = s.stations := rfl
@[simp] theorem State.setLink_quals (s : State) (f : Link → Link) :
    (s.setLink f).quals = s.quals := rfl
@[simp] theorem State.setLink_ctl (s : State) (f : Link → Link) : (s.setLink f).ctl = s.ctl := rfl
@[simp] theorem State.setLink_mirror (s : State) (f : Link → Link) :
    (s.setLink f).mirror = s.mirror := rfl
@[simp] theorem State.setLink_link (s : State) (f : Link → Link) :
    (s.setLink f).link = f s.link := rfl
@[simp] theorem State.setLink_mem (s : State) (f : Link → Link) : (s.setLink f).mem = s.mem := rfl
@[simp] theorem State.setLink_pending (s : State) (f : Link → Link) :
    (s.setLink f).pending = s.pending := rfl

/-! ### Updates of Ctl -/

@[simp] theorem Ctl.setPass_passes (c : Ctl) (p : Fin 4) (r : Pass) :
    (c.setPass p r).passes = c.passes.set p.val r p.isLt := rfl
@[simp] theorem Ctl.setPass_outlets (c : Ctl) (p : Fin 4) (r : Pass) :
    (c.setPass p r).outlets = c.outlets := rfl
@[simp] theorem Ctl.setPass_tips (c : Ctl) (p : Fin 4) (r : Pass) :
    (c.setPass p r).tips = c.tips := rfl
@[simp] theorem Ctl.setPass_slots (c : Ctl) (p : Fin 4) (r : Pass) :
    (c.setPass p r).slots = c.slots := rfl
@[simp] theorem Ctl.setPass_journal (c : Ctl) (p : Fin 4) (r : Pass) :
    (c.setPass p r).journal = c.journal := rfl
@[simp] theorem Ctl.setPass_freeCount (c : Ctl) (p : Fin 4) (r : Pass) :
    (c.setPass p r).freeCount = c.freeCount := rfl
@[simp] theorem Ctl.setPass_outlet (c : Ctl) (p : Fin 4) (r : Pass) (j : Fin 8) :
    (c.setPass p r).outlet j = c.outlet j := rfl
@[simp] theorem Ctl.setPass_tip (c : Ctl) (p : Fin 4) (r : Pass) (j : Fin 12) :
    (c.setPass p r).tip j = c.tip j := rfl
@[simp] theorem Ctl.setPass_slot (c : Ctl) (p : Fin 4) (r : Pass) (j : Fin 24) :
    (c.setPass p r).slot j = c.slot j := rfl
@[simp] theorem Ctl.pass_setPass_same (c : Ctl) (p : Fin 4) (r : Pass) :
    (c.setPass p r).pass p = r := by
  simp [Ctl.pass, Ctl.setPass]
theorem Ctl.pass_setPass_other (c : Ctl) {p j : Fin 4} (r : Pass) (h : p ≠ j) :
    (c.setPass p r).pass j = c.pass j := by
  have h' : p.val ≠ j.val := fun e => h (Fin.ext e)
  simp [Ctl.pass, Ctl.setPass, Vector.getElem_set_ne, h']
theorem Ctl.pass_setPass (c : Ctl) (p j : Fin 4) (r : Pass) :
    (c.setPass p r).pass j = if p = j then r else c.pass j := by
  split
  · next h => subst h; simp
  · next h => exact Ctl.pass_setPass_other c r h

@[simp] theorem Ctl.setOutlet_passes (c : Ctl) (n : Fin 8) (o : Outlet) :
    (c.setOutlet n o).passes = c.passes := rfl
@[simp] theorem Ctl.setOutlet_outlets (c : Ctl) (n : Fin 8) (o : Outlet) :
    (c.setOutlet n o).outlets = c.outlets.set n.val o n.isLt := rfl
@[simp] theorem Ctl.setOutlet_tips (c : Ctl) (n : Fin 8) (o : Outlet) :
    (c.setOutlet n o).tips = c.tips := rfl
@[simp] theorem Ctl.setOutlet_slots (c : Ctl) (n : Fin 8) (o : Outlet) :
    (c.setOutlet n o).slots = c.slots := rfl
@[simp] theorem Ctl.setOutlet_journal (c : Ctl) (n : Fin 8) (o : Outlet) :
    (c.setOutlet n o).journal = c.journal := rfl
@[simp] theorem Ctl.setOutlet_freeCount (c : Ctl) (n : Fin 8) (o : Outlet) :
    (c.setOutlet n o).freeCount = c.freeCount := rfl
@[simp] theorem Ctl.setOutlet_pass (c : Ctl) (n : Fin 8) (o : Outlet) (j : Fin 4) :
    (c.setOutlet n o).pass j = c.pass j := rfl
@[simp] theorem Ctl.setOutlet_tip (c : Ctl) (n : Fin 8) (o : Outlet) (j : Fin 12) :
    (c.setOutlet n o).tip j = c.tip j := rfl
@[simp] theorem Ctl.setOutlet_slot (c : Ctl) (n : Fin 8) (o : Outlet) (j : Fin 24) :
    (c.setOutlet n o).slot j = c.slot j := rfl
@[simp] theorem Ctl.outlet_setOutlet_same (c : Ctl) (n : Fin 8) (o : Outlet) :
    (c.setOutlet n o).outlet n = o := by
  simp [Ctl.outlet, Ctl.setOutlet]
theorem Ctl.outlet_setOutlet_other (c : Ctl) {n j : Fin 8} (o : Outlet) (h : n ≠ j) :
    (c.setOutlet n o).outlet j = c.outlet j := by
  have h' : n.val ≠ j.val := fun e => h (Fin.ext e)
  simp [Ctl.outlet, Ctl.setOutlet, Vector.getElem_set_ne, h']
theorem Ctl.outlet_setOutlet (c : Ctl) (n j : Fin 8) (o : Outlet) :
    (c.setOutlet n o).outlet j = if n = j then o else c.outlet j := by
  split
  · next h => subst h; simp
  · next h => exact Ctl.outlet_setOutlet_other c o h

@[simp] theorem Ctl.setTip_passes (c : Ctl) (t : Fin 12) (x : Tip) :
    (c.setTip t x).passes = c.passes := rfl
@[simp] theorem Ctl.setTip_outlets (c : Ctl) (t : Fin 12) (x : Tip) :
    (c.setTip t x).outlets = c.outlets := rfl
@[simp] theorem Ctl.setTip_tips (c : Ctl) (t : Fin 12) (x : Tip) :
    (c.setTip t x).tips = c.tips.set t.val x t.isLt := rfl
@[simp] theorem Ctl.setTip_slots (c : Ctl) (t : Fin 12) (x : Tip) :
    (c.setTip t x).slots = c.slots := rfl
@[simp] theorem Ctl.setTip_journal (c : Ctl) (t : Fin 12) (x : Tip) :
    (c.setTip t x).journal = c.journal := rfl
@[simp] theorem Ctl.setTip_freeCount (c : Ctl) (t : Fin 12) (x : Tip) :
    (c.setTip t x).freeCount = c.freeCount := rfl
@[simp] theorem Ctl.setTip_pass (c : Ctl) (t : Fin 12) (x : Tip) (j : Fin 4) :
    (c.setTip t x).pass j = c.pass j := rfl
@[simp] theorem Ctl.setTip_outlet (c : Ctl) (t : Fin 12) (x : Tip) (j : Fin 8) :
    (c.setTip t x).outlet j = c.outlet j := rfl
@[simp] theorem Ctl.setTip_slot (c : Ctl) (t : Fin 12) (x : Tip) (j : Fin 24) :
    (c.setTip t x).slot j = c.slot j := rfl
@[simp] theorem Ctl.tip_setTip_same (c : Ctl) (t : Fin 12) (x : Tip) :
    (c.setTip t x).tip t = x := by
  simp [Ctl.tip, Ctl.setTip]
theorem Ctl.tip_setTip_other (c : Ctl) {t j : Fin 12} (x : Tip) (h : t ≠ j) :
    (c.setTip t x).tip j = c.tip j := by
  have h' : t.val ≠ j.val := fun e => h (Fin.ext e)
  simp [Ctl.tip, Ctl.setTip, Vector.getElem_set_ne, h']
theorem Ctl.tip_setTip (c : Ctl) (t j : Fin 12) (x : Tip) :
    (c.setTip t x).tip j = if t = j then x else c.tip j := by
  split
  · next h => subst h; simp
  · next h => exact Ctl.tip_setTip_other c x h

@[simp] theorem Ctl.setSlot_passes (c : Ctl) (k : Fin 24) (x : CommandSlot) :
    (c.setSlot k x).passes = c.passes := rfl
@[simp] theorem Ctl.setSlot_outlets (c : Ctl) (k : Fin 24) (x : CommandSlot) :
    (c.setSlot k x).outlets = c.outlets := rfl
@[simp] theorem Ctl.setSlot_tips (c : Ctl) (k : Fin 24) (x : CommandSlot) :
    (c.setSlot k x).tips = c.tips := rfl
@[simp] theorem Ctl.setSlot_slots (c : Ctl) (k : Fin 24) (x : CommandSlot) :
    (c.setSlot k x).slots = c.slots.set k.val x k.isLt := rfl
@[simp] theorem Ctl.setSlot_journal (c : Ctl) (k : Fin 24) (x : CommandSlot) :
    (c.setSlot k x).journal = c.journal := rfl
@[simp] theorem Ctl.setSlot_freeCount (c : Ctl) (k : Fin 24) (x : CommandSlot) :
    (c.setSlot k x).freeCount = c.freeCount := rfl
@[simp] theorem Ctl.setSlot_pass (c : Ctl) (k : Fin 24) (x : CommandSlot) (j : Fin 4) :
    (c.setSlot k x).pass j = c.pass j := rfl
@[simp] theorem Ctl.setSlot_outlet (c : Ctl) (k : Fin 24) (x : CommandSlot) (j : Fin 8) :
    (c.setSlot k x).outlet j = c.outlet j := rfl
@[simp] theorem Ctl.setSlot_tip (c : Ctl) (k : Fin 24) (x : CommandSlot) (j : Fin 12) :
    (c.setSlot k x).tip j = c.tip j := rfl
@[simp] theorem Ctl.slot_setSlot_same (c : Ctl) (k : Fin 24) (x : CommandSlot) :
    (c.setSlot k x).slot k = x := by
  simp [Ctl.slot, Ctl.setSlot]
theorem Ctl.slot_setSlot_other (c : Ctl) {k j : Fin 24} (x : CommandSlot) (h : k ≠ j) :
    (c.setSlot k x).slot j = c.slot j := by
  have h' : k.val ≠ j.val := fun e => h (Fin.ext e)
  simp [Ctl.slot, Ctl.setSlot, Vector.getElem_set_ne, h']
theorem Ctl.slot_setSlot (c : Ctl) (k j : Fin 24) (x : CommandSlot) :
    (c.setSlot k x).slot j = if k = j then x else c.slot j := by
  split
  · next h => subst h; simp
  · next h => exact Ctl.slot_setSlot_other c x h

/-! ### Reads after writes of State -/

@[simp] theorem State.station_setStation_same (s : State) (i : Fin 32) (x : Station) :
    (s.setStation i x).station i = x := by
  simp [State.station, State.setStation]
theorem State.station_setStation_other (s : State) {i j : Fin 32} (x : Station) (h : i ≠ j) :
    (s.setStation i x).station j = s.station j := by
  have h' : i.val ≠ j.val := fun e => h (Fin.ext e)
  simp [State.station, State.setStation, Vector.getElem_set_ne, h']
@[simp] theorem State.qual_setQual_same (s : State) (i : Fin 32) (q : Qualifiers) :
    (s.setQual i q).qual i = q := by
  simp [State.qual, State.setQual]
theorem State.qual_setQual_other (s : State) {i j : Fin 32} (q : Qualifiers) (h : i ≠ j) :
    (s.setQual i q).qual j = s.qual j := by
  have h' : i.val ≠ j.val := fun e => h (Fin.ext e)
  simp [State.qual, State.setQual, Vector.getElem_set_ne, h']
@[simp] theorem State.stationSlot_setStationSlot_same (s : State) (k : Fin 32) (x : StationSlot) :
    (s.setStationSlot k x).stationSlot k = x := by
  simp [State.stationSlot, State.setStationSlot]
theorem State.stationSlot_setStationSlot_other (s : State) {k j : Fin 32} (x : StationSlot) (h : k ≠ j) :
    (s.setStationSlot k x).stationSlot j = s.stationSlot j := by
  have h' : k.val ≠ j.val := fun e => h (Fin.ext e)
  simp [State.stationSlot, State.setStationSlot, Vector.getElem_set_ne, h']

/-! ### Journal requests and single slots change nothing else of Ctl -/

@[simp] theorem Ctl.report_passes (e : Env) (kd : RecordKind) (j a b d g : Nat) (c : Ctl) :
    (c.report e kd j a b d g).passes = c.passes := by
  unfold Ctl.report; split <;> rfl
@[simp] theorem Ctl.report_outlets (e : Env) (kd : RecordKind) (j a b d g : Nat) (c : Ctl) :
    (c.report e kd j a b d g).outlets = c.outlets := by
  unfold Ctl.report; split <;> rfl
@[simp] theorem Ctl.report_tips (e : Env) (kd : RecordKind) (j a b d g : Nat) (c : Ctl) :
    (c.report e kd j a b d g).tips = c.tips := by
  unfold Ctl.report; split <;> rfl
@[simp] theorem Ctl.report_slots (e : Env) (kd : RecordKind) (j a b d g : Nat) (c : Ctl) :
    (c.report e kd j a b d g).slots = c.slots := by
  unfold Ctl.report; split <;> rfl
@[simp] theorem Ctl.report_freeCount (e : Env) (kd : RecordKind) (j a b d g : Nat) (c : Ctl) :
    (c.report e kd j a b d g).freeCount = c.freeCount := by
  unfold Ctl.report; split <;> rfl
@[simp] theorem Ctl.report_pass (e : Env) (kd : RecordKind) (j a b d g : Nat) (c : Ctl) (i : Fin 4) :
    (c.report e kd j a b d g).pass i = c.pass i := by
  unfold Ctl.report; split <;> rfl
@[simp] theorem Ctl.report_outlet (e : Env) (kd : RecordKind) (j a b d g : Nat) (c : Ctl) (i : Fin 8) :
    (c.report e kd j a b d g).outlet i = c.outlet i := by
  unfold Ctl.report; split <;> rfl
@[simp] theorem Ctl.report_tip (e : Env) (kd : RecordKind) (j a b d g : Nat) (c : Ctl) (i : Fin 12) :
    (c.report e kd j a b d g).tip i = c.tip i := by
  unfold Ctl.report; split <;> rfl
@[simp] theorem Ctl.report_slot (e : Env) (kd : RecordKind) (j a b d g : Nat) (c : Ctl) (i : Fin 24) :
    (c.report e kd j a b d g).slot i = c.slot i := by
  unfold Ctl.report; split <;> rfl
@[simp] theorem Ctl.updSlot_passes (c : Ctl) (k : Fin 24) (f : CommandSlot → CommandSlot) :
    (c.updSlot k f).passes = c.passes := rfl
@[simp] theorem Ctl.updSlot_outlets (c : Ctl) (k : Fin 24) (f : CommandSlot → CommandSlot) :
    (c.updSlot k f).outlets = c.outlets := rfl
@[simp] theorem Ctl.updSlot_tips (c : Ctl) (k : Fin 24) (f : CommandSlot → CommandSlot) :
    (c.updSlot k f).tips = c.tips := rfl
@[simp] theorem Ctl.updSlot_journal (c : Ctl) (k : Fin 24) (f : CommandSlot → CommandSlot) :
    (c.updSlot k f).journal = c.journal := rfl
@[simp] theorem Ctl.updSlot_freeCount (c : Ctl) (k : Fin 24) (f : CommandSlot → CommandSlot) :
    (c.updSlot k f).freeCount = c.freeCount := rfl
@[simp] theorem Ctl.updSlot_pass (c : Ctl) (k : Fin 24) (f : CommandSlot → CommandSlot) (i : Fin 4) :
    (c.updSlot k f).pass i = c.pass i := rfl
@[simp] theorem Ctl.updSlot_outlet (c : Ctl) (k : Fin 24) (f : CommandSlot → CommandSlot) (i : Fin 8) :
    (c.updSlot k f).outlet i = c.outlet i := rfl
@[simp] theorem Ctl.updSlot_tip (c : Ctl) (k : Fin 24) (f : CommandSlot → CommandSlot) (i : Fin 12) :
    (c.updSlot k f).tip i = c.tip i := rfl
@[simp] theorem Ctl.slot_updSlot_same (c : Ctl) (k : Fin 24) (f : CommandSlot → CommandSlot) :
    (c.updSlot k f).slot k = f (c.slot k) := by
  simp [Ctl.updSlot]
theorem Ctl.slot_updSlot_other (c : Ctl) {k j : Fin 24} (f : CommandSlot → CommandSlot) (h : k ≠ j) :
    (c.updSlot k f).slot j = c.slot j := by
  simp [Ctl.updSlot, Ctl.slot_setSlot_other c _ h]

end Sys2Proof.Machine
end

