-- ==== Sys2Proof/Laws/Controllers.lean ====
section
/-! SUPPORT. What the controllers' operations can change: a property of `Ctl` that survives the primitive
updates survives every operation built from them. -/

namespace Sys2Proof.Machine

/-- A property that survives journal requests, write-back and holder changes, and changes of a pass
record that keep the pass state. -/
structure PassClosed (P : Ctl → Prop) : Prop where
  report : ∀ e kd j a b d g c, P c → P (c.report e kd j a b d g)
  slot : ∀ k (f : CommandSlot → CommandSlot) c, (∀ x, (f x).staged = x.staged) → P c → P (c.updSlot k f)
  pass : ∀ p r c, r.state = (c.pass p).state → P c → P (c.setPass p r)

/-- Also changes of draw contexts, and draws of fresh orders. -/
structure OutletClosed (P : Ctl → Prop) : Prop extends PassClosed P where
  outlet : ∀ n o c, P c → P (c.setOutlet n o)
  free : ∀ c, P c → P { c with freeCount := c.freeCount + 1 }

/-! ### Recomputations keep the pass state -/

theorem sides_state (r : Pass) : r.sides.state = r.state := by
  unfold Pass.sides; split <;> (try split) <;> rfl

theorem estimate_state (k : PassCfg) (r : Pass) : (r.estimate k).state = r.state := by
  unfold Pass.estimate
  split
  · exact sides_state r
  · rfl

theorem judgeDisagreement_state (k : PassCfg) (now : Clock) (r : Pass) :
    (r.judgeDisagreement k now).state = r.state := by
  unfold Pass.judgeDisagreement; split <;> (try split) <;> rfl

theorem moveReference_state (k : PassCfg) (b : Bool) (r : Pass) :
    (r.moveReference k b).state = r.state := by
  unfold Pass.moveReference; repeat' split
  all_goals rfl

/-! ### Write-back and holder operations -/

section
variable {P : Ctl → Prop} (h : PassClosed P)
include h

theorem PassClosed.ownDemand {k : Fin 24} {code : Octet} {c : Ctl} (hc : P c) :
    P (c.ownDemand k code) := h.slot _ _ _ (fun _ => rfl) hc

theorem PassClosed.accept {k : Fin 24} {sp : SetPoints} {code tag : Octet} {v : Verdict}
    {detail : Octet} {c : Ctl} (hc : P c) : P (c.accept k sp code tag v detail) :=
  h.slot _ _ _ (fun _ => rfl) hc

theorem PassClosed.acceptCopy {k : Fin 24} {code tag : Octet} {v : Verdict} {detail : Octet}
    {c : Ctl} (hc : P c) : P (c.acceptCopy k code tag v detail) := h.accept hc

theorem PassClosed.refuse {k : Fin 24} {tag : Octet} {r : Reason} {c : Ctl} (hc : P c) :
    P (c.refuse k tag r) := h.slot _ _ _ (fun _ => rfl) hc

theorem PassClosed.defer {e : Env} {k : Fin 24} {cm : Commit} {r : Reason} {limit : Nat} {c : Ctl}
    (hc : P c) : P (c.defer e k cm r limit) := by
  unfold Ctl.defer
  split
  · exact h.refuse hc
  · exact h.slot _ _ _ (fun _ => rfl) hc

theorem PassClosed.clearHolder {k : Fin 24} {c : Ctl} (hc : P c) : P (c.clearHolder k) :=
  h.slot _ _ _ (fun _ => rfl) hc

theorem PassClosed.refuseDeferred {k : Fin 24} {tag : Octet} {r : Reason} {c : Ctl} (hc : P c) :
    P (c.refuseDeferred k tag r) := h.refuse (h.clearHolder hc)

theorem PassClosed.keepDeferred {k : Fin 24} {d : Deferred} {r : Reason} {c : Ctl} (hc : P c) :
    P (c.keepDeferred k d r) := by
  unfold Ctl.keepDeferred
  split
  · exact hc
  · exact h.slot _ _ _ (fun _ => rfl) hc

/-! ### The Pass Account -/

theorem PassClosed.recomputeFrom {e : Env} {p : Fin 4} {b : Bool} {c : Ctl} (hc : P c) :
    P (Machine.recomputeFrom e p b c).1 := by
  have h1 := h.pass p (((c.pass p).estimate (e.passCfg p)).judgeDisagreement (e.passCfg p) e.clock) c
    (by rw [judgeDisagreement_state, estimate_state]) hc
  simp only [Machine.recomputeFrom]
  split
  · exact h1
  · exact h.report _ _ _ _ _ _ _ _ h1

theorem PassClosed.recompute {e : Env} {p : Fin 4} {c : Ctl} (hc : P c) :
    P (Machine.recompute e p c).1 := h.recomputeFrom hc

theorem PassClosed.activationTest {e : Env} {p : Fin 4} {c : Ctl} (hc : P c) :
    P (Machine.activationTest e p c).1 := by
  simp only [Machine.activationTest]
  split
  · exact h.report _ _ _ _ _ _ _ _ (h.pass _ _ _ rfl hc)
  · exact hc

theorem PassClosed.endRestriction {e : Env} {p : Fin 4} {k : Nat} {c : Ctl} (hc : P c) :
    P (Machine.endRestriction e p k c).1 := h.report _ _ _ _ _ _ _ _ (h.pass _ _ _ rfl hc)

theorem PassClosed.endingTest {e : Env} {p : Fin 4} {c : Ctl} (hc : P c) :
    P (Machine.endingTest e p c).1 := by
  simp only [Machine.endingTest]
  repeat' split
  all_goals first | exact hc | exact h.endRestriction hc

theorem PassClosed.wetTests {e : Env} {p : Fin 4} {c : Ctl} (hc : P c) :
    P (Machine.wetTests e p c).1 := h.endingTest (h.activationTest hc)

theorem PassClosed.loosen {e : Env} {p : Fin 4} {m : Nat} {c : Ctl} (hc : P c) :
    P (Machine.loosen e p m c).1 := by
  simp only [Machine.loosen]
  split
  · exact h.endingTest (h.pass _ _ _ rfl hc)
  · exact hc

theorem PassClosed.sensorReport {e : Env} {p : Fin 4} {w : Wetness} {c : Ctl} (hc : P c) :
    P (Machine.sensorReport e p w c).1 := by
  simp only [Machine.sensorReport]
  split
  · exact hc
  · exact h.wetTests (h.pass _ _ _ rfl hc)

theorem PassClosed.flowEntered {p : Fin 4} {c : Ctl} (hc : P c) : P (Machine.flowEntered p c) :=
  h.pass _ _ _ rfl hc

theorem PassClosed.flowLeft {e : Env} {p : Fin 4} {c : Ctl} (hc : P c) :
    P (Machine.flowLeft e p c) := by
  unfold Machine.flowLeft
  split
  · exact hc
  · exact h.pass _ _ _ rfl hc

theorem PassClosed.dwellExpires {e : Env} {p : Fin 4} {since : Clock} {c : Ctl} (hc : P c) :
    P (Machine.dwellExpires e p since c).1 := h.activationTest (h.pass _ _ _ rfl hc)

theorem PassClosed.credit {e : Env} {p : Fin 4} {m : Nat} {c : Ctl} (hc : P c) :
    P (Machine.credit e p m c).1 := by
  have h1 := h.pass p { c.pass p with
    inventory := min (e.passCfg p).capacity ((c.pass p).inventory + m) } c rfl hc
  simp only [Machine.credit]
  split <;> split <;>
    first
      | exact h1
      | exact h.report _ _ _ _ _ _ _ _ h1
      | exact h.recompute h1
      | exact h.recompute (h.report _ _ _ _ _ _ _ _ h1)

theorem PassClosed.settleInventory {e : Env} {p : Fin 4} {k v : Nat} {c : Ctl} (hc : P c) :
    P (Machine.settleInventory e p k v c) := h.report _ _ _ _ _ _ _ _ (h.pass _ _ _ rfl hc)

theorem PassClosed.levelReport {e : Env} {p : Fin 4} {fill : Nat} {valid : Bool} {c : Ctl}
    (hc : P c) : P (Machine.levelReport e p fill valid c).1 := by
  simp only [Machine.levelReport]
  refine h.recomputeFrom ?_
  split
  · exact h.settleInventory (h.pass _ _ _ (moveReference_state _ _ _) hc)
  · exact h.pass _ _ _ (moveReference_state _ _ _) hc

theorem PassClosed.disagreementExpires {e : Env} {p : Fin 4} {c : Ctl} (hc : P c) :
    P (Machine.disagreementExpires e p c) := by
  simp only [Machine.disagreementExpires]
  split
  · exact h.pass _ _ _ rfl hc
  · exact h.report _ _ _ _ _ _ _ _ (h.pass _ _ _ rfl hc)

theorem PassClosed.takeGrant {p : Fin 4} {c : Ctl} (hc : P c) : P (Machine.takeGrant p c).1 := by
  simp only [Machine.takeGrant]
  split
  · exact h.pass _ _ _ rfl hc
  · exact hc

end

/-! ### The Outlet Controller -/

section
variable {P : Ctl → Prop} (h : OutletClosed P)
include h

theorem OutletClosed.stopOutlet {e : Env} {n : Fin 8} {r : EndReason} {c : Ctl} (hc : P c) :
    P (Machine.stopOutlet e n r c) := by
  simp only [Machine.stopOutlet]
  split
  · have h1 : ∀ o, P (c.setOutlet n o) := fun o => h.outlet _ _ _ hc
    split <;> split <;>
      first
        | exact h.flowLeft (h.ownDemand (h1 _))
        | exact h.ownDemand (h1 _)
        | exact h.flowLeft (h1 _)
        | exact h1 _
  · exact hc

theorem OutletClosed.endOrder {e : Env} {n : Fin 8} {r : EndReason} {c : Ctl} (hc : P c) :
    P (Machine.endOrder e n r c) := h.report _ _ _ _ _ _ _ _ (h.outlet _ _ _ hc)

theorem OutletClosed.faultOutlet {e : Env} {n : Fin 8} {c : Ctl} (hc : P c) :
    P (Machine.faultOutlet e n c) := h.report _ _ _ _ _ _ _ _ (h.outlet _ _ _ hc)

theorem OutletClosed.executeDraw {e : Env} {n : Fin 8} {cm : Commit} {c : Ctl} (hc : P c) :
    P (Machine.executeDraw e n cm c) := h.accept (h.outlet _ _ _ (h.takeGrant hc))

theorem OutletClosed.rejudgeDraw {e : Env} {n : Fin 8} {c : Ctl} (hc : P c) :
    P (Machine.rejudgeDraw e n c) := by
  unfold Machine.rejudgeDraw
  split
  · exact hc
  · split
    · exact h.executeDraw (h.clearHolder hc)
    · exact h.refuseDeferred hc
    · exact h.keepDeferred hc

theorem OutletClosed.beginCycle {e : Env} {n : Fin 8} {c : Ctl} (hc : P c) :
    P (Machine.beginCycle e n c) := by
  unfold Machine.beginCycle
  refine h.slot _ _ _ ?_ (h.outlet _ _ _ hc)
  exact fun _ => rfl

theorem OutletClosed.cycleStart {e : Env} {n : Fin 8} {c : Ctl} (hc : P c) :
    P (Machine.cycleStart e n c) := by
  simp only [Machine.cycleStart]
  repeat' split
  all_goals first | exact h.endOrder hc | exact h.outlet _ _ _ hc | exact h.beginCycle hc

theorem OutletClosed.confirmOpen {e : Env} {n : Fin 8} {c : Ctl} (hc : P c) :
    P (Machine.confirmOpen e n c) := h.flowEntered (h.outlet _ _ _ hc)

theorem OutletClosed.preClose {e : Env} {n : Fin 8} {c : Ctl} (hc : P c) :
    P (Machine.preClose e n c) := h.flowLeft (h.ownDemand (h.outlet _ _ _ hc))

theorem OutletClosed.closeCycle {e : Env} {n : Fin 8} {c : Ctl} (hc : P c) :
    P (Machine.closeCycle e n c) := by
  simp only [Machine.closeCycle]
  repeat' split
  all_goals
    first
      | exact h.endOrder (h.outlet _ _ _ hc)
      | exact h.outlet _ _ _ (h.outlet _ _ _ hc)

theorem OutletClosed.indexRecord {e : Env} {n : Fin 8} {i : Nat} {c : Ctl} (hc : P c) :
    P (Machine.indexRecord e n i c) := by
  simp only [Machine.indexRecord]
  repeat' split
  all_goals first | exact h.outlet _ _ _ hc | exact h.cycleStart hc | exact hc

theorem OutletClosed.reactRecord {e : Env} {n : Fin 8} {x : LoadRecord} {c : Ctl} (hc : P c) :
    P (Machine.reactRecord e n x c) := by
  simp only [Machine.reactRecord]
  repeat' split
  all_goals
    first
      | exact h.confirmOpen hc
      | exact h.preClose hc
      | exact h.closeCycle hc
      | exact h.indexRecord hc
      | exact h.endOrder hc
      | exact hc

theorem OutletClosed.flowBegins {e : Env} {n : Fin 8} {c : Ctl} (hc : P c) :
    P (Machine.flowBegins e n c) := by
  simp only [Machine.flowBegins]
  repeat' split
  all_goals first | exact h.outlet _ _ _ hc | exact hc

theorem OutletClosed.receiverLost {e : Env} {n : Fin 8} {c : Ctl} (hc : P c) :
    P (Machine.receiverLost e n c) := by
  unfold Machine.receiverLost
  split
  · exact h.stopOutlet hc
  · exact hc

theorem OutletClosed.feedbackLost {e : Env} {n : Fin 8} {c : Ctl} (hc : P c) :
    P (Machine.feedbackLost e n c) := h.stopOutlet (h.outlet _ _ _ hc)

theorem OutletClosed.timeoutStop {e : Env} {n : Fin 8} {r : EndReason} {k : FaultCode} {c : Ctl}
    (hc : P c) : P (Machine.timeoutStop e n r k c) := h.stopOutlet (h.outlet _ _ _ hc)

theorem OutletClosed.judgeDraw {e : Env} {n : Fin 8} {cm : Commit} {c : Ctl} (hc : P c) :
    P (Machine.judgeDraw e n cm c) := by
  unfold Machine.judgeDraw
  split
  · exact h.executeDraw hc
  · exact h.refuse hc
  · exact h.defer hc

theorem OutletClosed.acceptOutlet {n : Fin 8} {tag : Octet} {c : Ctl} (hc : P c) :
    P (Machine.acceptOutlet n tag c) := h.acceptCopy hc

theorem OutletClosed.judgeAdjust {e : Env} {n : Fin 8} {cm : Commit} {c : Ctl} (hc : P c) :
    P (Machine.judgeAdjust e n cm c) := by
  simp only [Machine.judgeAdjust]
  split
  · exact h.refuse hc
  · split
    · exact h.refuse hc
    · exact h.acceptCopy (h.outlet _ _ _ hc)

theorem OutletClosed.judgeStopAfter {e : Env} {n : Fin 8} {tag : Octet} {c : Ctl} (hc : P c) :
    P (Machine.judgeStopAfter e n tag c) := by
  simp only [Machine.judgeStopAfter]
  split
  all_goals
    first
      | exact h.acceptOutlet (h.outlet _ _ _ hc)
      | exact h.acceptOutlet (h.endOrder hc)
      | exact h.refuse hc

theorem OutletClosed.judgeClose {e : Env} {n : Fin 8} {tag : Octet} {c : Ctl} (hc : P c) :
    P (Machine.judgeClose e n tag c) := by
  simp only [Machine.judgeClose]
  repeat' split
  all_goals
    first
      | exact h.acceptOutlet (h.stopOutlet hc)
      | exact h.acceptOutlet (h.outlet _ _ _ hc)
      | exact h.acceptOutlet (h.endOrder hc)
      | exact h.acceptOutlet hc
      | exact h.refuse hc

theorem OutletClosed.judgeForceClose {e : Env} {n : Fin 8} {tag : Octet} {c : Ctl} (hc : P c) :
    P (Machine.judgeForceClose e n tag c) := by
  simp only [Machine.judgeForceClose]
  repeat' split
  all_goals
    first
      | exact h.acceptOutlet (h.stopOutlet hc)
      | exact h.acceptOutlet (h.outlet _ _ _ hc)
      | exact h.acceptOutlet hc

theorem OutletClosed.judgeOutlet {e : Env} {n : Fin 8} {cm : Commit} {c : Ctl} (hc : P c) :
    P (Machine.judgeOutlet e n cm c) := by
  unfold Machine.judgeOutlet
  split
  · exact h.refuse hc
  split
  · exact h.judgeForceClose hc
  split
  · exact h.refuse hc
  split
  · exact h.judgeClose hc
  split
  · exact h.judgeDraw hc
  split
  · exact h.judgeAdjust hc
  · exact h.judgeStopAfter hc

theorem OutletClosed.visitOutlet {e : Env} {n : Fin 8} {c : Ctl} (hc : P c) :
    P (Machine.visitOutlet e c n) := by
  unfold Machine.visitOutlet
  split
  · exact h.cycleStart hc
  · exact h.rejudgeDraw hc

omit h in
/-- A fold keeps what each of its steps keeps. -/
theorem foldl_keeps {α β : Type} {Q : β → Prop} {f : β → α → β} (hf : ∀ b a, Q b → Q (f b a))
    (l : List α) : ∀ b, Q b → Q (l.foldl f b) := by
  induction l with
  | nil => exact fun b hb => hb
  | cons a rest ih => exact fun b hb => ih _ (hf b a hb)

theorem OutletClosed.settleOutlets {e : Env} {p : Fin 4} {c : Ctl} (hc : P c) :
    P (Machine.settleOutlets e p c) := by
  have hv : ∀ b a, P b → P (Machine.visitOutlet e b a) := fun b a hb => h.visitOutlet hb
  have hd : ∀ ns, P (drawOrder c ns) := fun ns => by
    unfold drawOrder
    split
    · exact h.free _ hc
    · exact hc
  exact foldl_keeps hv _ _ (foldl_keeps hv _ _ (hd _))

theorem OutletClosed.stopOutlets {e : Env} {p : Fin 4} {r : EndReason} {c : Ctl} (hc : P c) :
    P (Machine.stopOutlets e p r c) := foldl_keeps (fun _ _ hb => h.stopOutlet hb) _ _ hc

theorem OutletClosed.stopForCushion {e : Env} {p : Fin 4} {c : Ctl} (hc : P c) :
    P (Machine.stopForCushion e p c) := by
  refine foldl_keeps (fun b n hb => ?_) _ _ hc
  split
  · exact h.stopOutlet hb
  · exact hb

theorem OutletClosed.outletValue {e : Env} {n : Fin 8} {sig : Signal} {v : Tri} {c : Ctl}
    (hc : P c) : P (Machine.outletValue e n sig v c) := by
  unfold Machine.outletValue
  repeat' split
  all_goals
    first
      | exact h.settleOutlets (h.receiverLost hc)
      | exact h.settleOutlets hc
      | exact h.flowBegins hc
      | exact hc

theorem OutletClosed.outletFreshness {e : Env} {n : Fin 8} {new : Freshness} {c : Ctl} (hc : P c) :
    P (Machine.outletFreshness e n new c) := by
  unfold Machine.outletFreshness
  split
  · exact h.settleOutlets hc
  · exact h.settleOutlets (h.feedbackLost hc)

theorem OutletClosed.commitOutlet {e : Env} {n : Fin 8} {cm : Commit} {c : Ctl} (hc : P c) :
    P (Machine.commitOutlet e n cm c) := by
  simp only [Machine.commitOutlet]
  split
  · exact h.judgeOutlet hc
  · exact h.settleOutlets (h.judgeOutlet hc)

theorem OutletClosed.timeoutEvent {e : Env} {n : Fin 8} {r : EndReason} {k : FaultCode} {c : Ctl}
    (hc : P c) : P (Machine.timeoutEvent e n r k c) := h.settleOutlets (h.timeoutStop hc)

theorem OutletClosed.noFlowTimeout {e : Env} {n : Fin 8} {c : Ctl} (hc : P c) :
    P (Machine.noFlowTimeout e n c) := h.settleOutlets (h.outlet _ _ _ (h.timeoutStop hc))

end

/-! ### Every controller -/

/-- Also changes of the pass state and of tip-point contexts. -/
structure AllClosed (P : Ctl → Prop) : Prop extends OutletClosed P where
  anyPass : ∀ p r c, P c → P (c.setPass p r)
  tip : ∀ t x c, P c → P (c.setTip t x)

section
variable {P : Ctl → Prop} (h : AllClosed P)
include h

theorem AllClosed.enterHangup {e : Env} {p : Fin 4} {k : HangCause} {c : Ctl} (hc : P c) :
    P (Machine.enterHangup e p k c).1 :=
  h.report _ _ _ _ _ _ _ _ (h.ownDemand (h.anyPass _ _ _ hc))

theorem AllClosed.accumulate {e : Env} {p : Fin 4} {m : Nat} {c : Ctl} (hc : P c) :
    P (Machine.accumulate e p m c).1 := by
  simp only [Machine.accumulate]
  repeat' split
  all_goals first | exact h.enterHangup (h.anyPass _ _ _ hc) | exact h.anyPass _ _ _ hc | exact hc

theorem AllClosed.debit {e : Env} {p : Fin 4} {m : Nat} {c : Ctl} (hc : P c) :
    P (Machine.debit e p m c).1 := by
  simp only [Machine.debit, andThen]
  refine h.loosen (h.accumulate ?_)
  have h1 := h.pass p { c.pass p with inventory := (c.pass p).inventory - m } c rfl hc
  split <;> split <;>
    first
      | exact h.report _ _ _ _ _ _ _ _ h1
      | exact h1
      | exact h.recompute (h.report _ _ _ _ _ _ _ _ h1)
      | exact h.recompute h1

theorem AllClosed.weigh {e : Env} {n : Fin 8} {w : Nat} {c : Ctl} (hc : P c) :
    P (Machine.weigh e n w c).1 := by
  simp only [Machine.weigh]
  split
  · exact h.debit (h.outlet _ _ _ hc)
  · exact hc

theorem AllClosed.outletRecord {e : Env} {n : Fin 8} {x : LoadRecord} {c : Ctl} (hc : P c) :
    P (Machine.outletRecord e n x c).1 := h.reactRecord (h.weigh (h.outlet _ _ _ hc))

theorem AllClosed.withdrawTip {t : Fin 12} {c : Ctl} (hc : P c) : P (Machine.withdrawTip t c) := by
  unfold Machine.withdrawTip
  split
  · exact h.ownDemand (h.tip _ _ _ hc)
  · exact hc

theorem AllClosed.parkTip {e : Env} {t : Fin 12} {c : Ctl} (hc : P c) :
    P (Machine.parkTip e t c) := by
  unfold Machine.parkTip
  split
  · exact h.ownDemand (h.tip _ _ _ hc)
  · exact hc

theorem AllClosed.boomRests {t : Fin 12} {c : Ctl} (hc : P c) : P (Machine.boomRests t c) := by
  simp only [Machine.boomRests]
  split <;> first | exact h.tip _ _ _ hc | exact hc

theorem AllClosed.boomLeaves {e : Env} {t : Fin 12} {c : Ctl} (hc : P c) :
    P (Machine.boomLeaves e t c) := by
  simp only [Machine.boomLeaves]
  split <;>
    first
      | exact h.report _ _ _ _ _ _ _ _ (h.ownDemand (h.tip _ _ _ hc))
      | exact h.report _ _ _ _ _ _ _ _ (h.tip _ _ _ hc)
      | exact hc

theorem AllClosed.tipLost {e : Env} {t : Fin 12} {c : Ctl} (hc : P c) :
    P (Machine.tipLost e t c) := h.parkTip (h.withdrawTip (h.tip _ _ _ hc))

theorem AllClosed.tipRestored {e : Env} {t : Fin 12} {c : Ctl} (hc : P c) :
    P (Machine.tipRestored e t c) := by
  simp only [Machine.tipRestored]
  split <;> first | exact h.tip _ _ _ hc | exact hc

theorem AllClosed.parkExpires {e : Env} {t : Fin 12} {c : Ctl} (hc : P c) :
    P (Machine.parkExpires e t c) := by
  simp only [Machine.parkExpires]
  split <;> first | exact h.report _ _ _ _ _ _ _ _ (h.tip _ _ _ hc) | exact hc

theorem AllClosed.executePermit {t : Fin 12} {cm : Commit} {c : Ctl} (hc : P c) :
    P (Machine.executePermit t cm c) := h.accept (h.tip _ _ _ hc)

theorem AllClosed.rejudgePermit {e : Env} {t : Fin 12} {c : Ctl} (hc : P c) :
    P (Machine.rejudgePermit e t c) := by
  unfold Machine.rejudgePermit
  split
  · exact hc
  · split
    · exact h.executePermit (h.clearHolder hc)
    · exact h.refuseDeferred hc
    · exact h.keepDeferred hc

theorem AllClosed.acceptTip {t : Fin 12} {tag : Octet} {c : Ctl} (hc : P c) :
    P (Machine.acceptTip t tag c) := h.acceptCopy hc

theorem AllClosed.judgeTip {e : Env} {t : Fin 12} {cm : Commit} {c : Ctl} (hc : P c) :
    P (Machine.judgeTip e t cm c) := by
  unfold Machine.judgeTip
  split
  · exact h.refuse hc
  split
  · exact h.refuse hc
  split
  · exact h.refuse hc
  split
  · unfold Machine.judgeWithdraw
    split
    · exact h.acceptTip (h.tip _ _ _ hc)
    · exact h.acceptTip hc
  split
  · unfold Machine.judgePermit
    split
    · exact h.executePermit hc
    · exact h.refuse hc
    · exact h.defer hc
  split
  · simp only [Machine.judgeBoomWork]
    repeat' split
    all_goals
      first
        | exact h.refuse hc
        | exact h.acceptTip hc
        | exact h.acceptTip (h.tip _ _ _ hc)
  · unfold Machine.judgeBoomPark
    split
    · exact h.acceptTip (h.tip _ _ _ hc)
    · exact h.acceptTip hc

theorem AllClosed.permitAccounting {e : Env} {t : Fin 12} {n m : Nat} {c : Ctl} (hc : P c) :
    P (Machine.permitAccounting e t n m c) := by
  simp only [Machine.permitAccounting]
  repeat' split
  all_goals
    first
      | exact hc
      | exact h.tip _ _ _ hc
      | exact h.report _ _ _ _ _ _ _ _ (h.ownDemand (h.tip _ _ _ hc))
      | exact h.report _ _ _ _ _ _ _ _ hc

theorem AllClosed.tipRecord {e : Env} {t : Fin 12} {k : Octet} {m : Nat} {c : Ctl} (hc : P c) :
    P (Machine.tipRecord e t k m c).1 := by
  have h1 := fun x => h.tip t x c hc
  simp only [Machine.tipRecord, creditTips]
  split
  · exact h1 _
  split
  · exact h.report _ _ _ _ _ _ _ _ (h1 _)
  · refine h.credit (h.permitAccounting ?_)
    split
    · exact h1 _
    · exact h.report _ _ _ _ _ _ _ _ (h.tip _ _ _ (h1 _))

theorem AllClosed.settleTips {e : Env} {p : Fin 4} {c : Ctl} (hc : P c) :
    P (Machine.settleTips e p c) := foldl_keeps (fun _ _ hb => h.rejudgePermit hb) _ _ hc

theorem AllClosed.settle {e : Env} {p : Fin 4} {c : Ctl} (hc : P c) : P (Machine.settle e p c) :=
  h.settleTips (h.settleOutlets hc)

theorem AllClosed.closeTips {e : Env} {p : Fin 4} {c : Ctl} (hc : P c) :
    P (Machine.closeTips e p c) := foldl_keeps (fun _ _ hb => h.withdrawTip hb) _ _ hc

theorem AllClosed.parkTips {e : Env} {p : Fin 4} {c : Ctl} (hc : P c) :
    P (Machine.parkTips e p c) := foldl_keeps (fun _ _ hb => h.parkTip hb) _ _ hc

omit h in
/-- A property kept by a branch and by what it leaves out is kept by the choice. -/
theorem keeps_ite {P : Ctl → Prop} {b : Bool} {x y : Ctl} (hx : P x) (hy : P y) :
    P (if b then x else y) := by cases b <;> assumption

theorem AllClosed.deliver {e : Env} {p : Fin 4} {news : News} {c : Ctl} (hc : P c) :
    P (Machine.deliver e p news c) := by
  have h1 := keeps_ite (b := news.full) (h.closeTips (e := e) (p := p) hc) hc
  have h2 := keeps_ite (b := news.cushion) (h.stopForCushion (e := e) (p := p) h1) h1
  have h3 := keeps_ite (b := news.hangup)
    (h.closeTips (e := e) (p := p) (h.stopOutlets (e := e) (p := p) (r := .hangup) h2)) h2
  have h4 := keeps_ite (b := news.lockout)
    (h.parkTips (e := e) (p := p)
      (h.closeTips (e := e) (p := p) (h.stopOutlets (e := e) (p := p) (r := .lockout) h3))) h3
  exact keeps_ite (b := news.touched) (h.settle (e := e) (p := p) h4) h4

theorem AllClosed.withNews {e : Env} {p : Fin 4} {f : Ctl → Ctl × News} {c : Ctl}
    (hf : P (f c).1) : P (Machine.withNews e p f c) := h.deliver hf

/-! ### Events of values, freshness and timers at the consumers -/

theorem AllClosed.tipValue {e : Env} {t : Fin 12} {sig : Signal} {v : Tri} {c : Ctl} (hc : P c) :
    P (Machine.tipValue e t sig v c) := by
  unfold Machine.tipValue
  split
  · exact hc
  · exact hc
  · exact h.settleTips hc
  · refine h.settleTips ?_
    split
    · exact h.boomRests hc
    · exact h.boomLeaves hc
    · exact hc

theorem AllClosed.tipFreshness {e : Env} {t : Fin 12} {old new : Freshness} {c : Ctl} (hc : P c) :
    P (Machine.tipFreshness e t old new c) := by
  unfold Machine.tipFreshness
  refine h.settleTips ?_
  split
  · exact h.tipRestored hc
  · split
    · exact h.tipLost hc
    · exact hc

theorem AllClosed.takeNoFlow {e : Env} {n : Fin 8} {c : Ctl} (hc : P c) :
    P (Machine.takeNoFlow e n c) := by
  simp only [Machine.takeNoFlow]
  split
  · exact hc
  · split
    · exact h.withNews (h.enterHangup (h.outlet _ _ _ hc))
    · exact h.outlet _ _ _ hc

/-! ### Commits -/

theorem AllClosed.acceptPass {p : Fin 4} {cm : Commit} {c : Ctl} (hc : P c) :
    P (Machine.acceptPass p cm c) := h.accept hc

theorem AllClosed.enterLockout {e : Env} {p : Fin 4} {c : Ctl} (hc : P c) :
    P (Machine.enterLockout e p c).1 := h.report _ _ _ _ _ _ _ _ (h.anyPass _ _ _ hc)

theorem AllClosed.enterRunning {e : Env} {p : Fin 4} {c : Ctl} (hc : P c) :
    P (Machine.enterRunning e p c).1 := h.report _ _ _ _ _ _ _ _ (h.anyPass _ _ _ hc)

theorem AllClosed.settleInventory {e : Env} {p : Fin 4} {k v : Nat} {c : Ctl} (hc : P c) :
    P (Machine.settleInventory e p k v c) := h.report _ _ _ _ _ _ _ _ (h.anyPass _ _ _ hc)

theorem AllClosed.judgePass {e : Env} {p : Fin 4} {cm : Commit} {c : Ctl} (hc : P c) :
    P (Machine.judgePass e p cm c) := by
  unfold Machine.judgePass
  split
  · exact h.refuse hc
  split
  · exact h.refuse hc
  split
  · exact h.refuse hc
  split
  · unfold Machine.judgeLockout
    split
    · exact h.acceptPass hc
    · exact h.acceptPass (h.withNews (h.enterLockout hc))
  split
  · unfold Machine.judgeRun
    split
    · exact h.acceptPass (h.withNews (h.enterRunning hc))
    · exact h.acceptPass hc
    · exact h.refuse hc
  split
  · unfold Machine.judgeReleaseHangup
    split
    · exact h.acceptPass (h.withNews (h.enterRunning hc))
    · exact h.refuse hc
    · exact h.refuse hc
  have wet : ∀ b, P (Machine.judgeWet e p b cm c) := fun b => by
    unfold Machine.judgeWet
    split
    · exact h.acceptPass hc
    · exact h.acceptPass (h.withNews (h.wetTests (h.anyPass _ _ _ hc)))
  split
  · exact wet _
  split
  · exact wet _
  split
  · unfold Machine.judgeEmptyOut
    split
    · exact h.refuse hc
    · split
      · exact h.acceptPass hc
      · exact h.acceptPass (h.withNews (h.anyPass _ _ _ hc))
  split
  · unfold Machine.judgeRebase
    split
    · exact h.acceptPass (h.withNews (h.recompute (h.settleInventory hc)))
    · exact h.refuse hc
  · unfold Machine.judgeSetInventory
    split
    · exact h.refuse hc
    · exact h.acceptPass (h.withNews (h.recompute (h.settleInventory hc)))

theorem AllClosed.commitTip {e : Env} {t : Fin 12} {cm : Commit} {c : Ctl} (hc : P c) :
    P (Machine.commitTip e t cm c) := by
  simp only [Machine.commitTip]
  split
  · exact h.judgeTip hc
  · exact h.settleTips (h.judgeTip hc)

theorem AllClosed.judgeCommit {e : Env} {k : Fin 24} {cm : Commit} {c : Ctl} (hc : P c) :
    P (Machine.judgeCommit e k cm c) := by
  unfold Machine.judgeCommit
  split
  · exact h.commitOutlet hc
  · exact h.commitTip hc
  · exact h.judgePass hc

end

end Sys2Proof.Machine
end

