-- ==== Sys2Proof/Laws/Frames.lean ====
section
/-! SUPPORT. What each shared operation over `State` can change: the state it answers is the state before
with only the named fields replaced. -/

namespace Sys2Proof.Machine

/-! ## Frames, and how they compose -/

/-- Only the controllers' state differs. -/
def CtlOnly (s t : State) : Prop := t = { s with ctl := t.ctl }

/-- Only the qualifiers and the controllers' state differ. -/
def QualOnly (s t : State) : Prop := t = { s with quals := t.quals, ctl := t.ctl }

/-- Only what a record can touch differs. -/
def RecordOnly (s t : State) : Prop :=
  t = { s with
        stationSlots := t.stationSlots, urgent := t.urgent, stations := t.stations, quals := t.quals
        ctl := t.ctl }

/-- Only what a taken write can touch differs. -/
def TakenOnly (s t : State) : Prop :=
  t = { s with
        port := t.port, busReady := t.busReady, stationSlots := t.stationSlots, urgent := t.urgent
        stations := t.stations, quals := t.quals, ctl := t.ctl }

/-- Only the drainer's position differs. -/
def DrainerOnly (s t : State) : Prop := t = { s with drainer := t.drainer }

theorem CtlOnly.refl (s : State) : CtlOnly s s := rfl
theorem QualOnly.refl (s : State) : QualOnly s s := rfl
theorem RecordOnly.refl (s : State) : RecordOnly s s := rfl
theorem TakenOnly.refl (s : State) : TakenOnly s s := rfl
theorem DrainerOnly.refl (s : State) : DrainerOnly s s := rfl

theorem CtlOnly.trans {s t u : State} (h : CtlOnly s t) (g : CtlOnly t u) : CtlOnly s u := by
  unfold CtlOnly at *; rw [g, h]

theorem QualOnly.trans {s t u : State} (h : QualOnly s t) (g : QualOnly t u) : QualOnly s u := by
  unfold QualOnly at *; rw [g, h]

theorem RecordOnly.trans {s t u : State} (h : RecordOnly s t) (g : RecordOnly t u) :
    RecordOnly s u := by
  unfold RecordOnly at *; rw [g, h]

theorem TakenOnly.trans {s t u : State} (h : TakenOnly s t) (g : TakenOnly t u) : TakenOnly s u := by
  unfold TakenOnly at *; rw [g, h]

theorem CtlOnly.toQual {s t : State} (h : CtlOnly s t) : QualOnly s t := by
  unfold CtlOnly at h; unfold QualOnly; rw [h]

theorem QualOnly.toRecord {s t : State} (h : QualOnly s t) : RecordOnly s t := by
  unfold QualOnly at h; unfold RecordOnly; rw [h]

theorem RecordOnly.toTaken {s t : State} (h : RecordOnly s t) : TakenOnly s t := by
  unfold RecordOnly at h; unfold TakenOnly; rw [h]

theorem onCtl_only (f : Env → Ctl → Ctl) (s : State) : CtlOnly s (s.onCtl f) := rfl

/-- R48: a seek moves the drainer and nothing else. -/
theorem seek_only (s : State) : DrainerOnly s s.seek := by
  unfold State.seek; split <;> rfl

/-! ## Qualifiers -/

theorem valueEvent_only (i : Fin 32) (sig : Signal) (v : Tri) (s : State) :
    CtlOnly s (s.valueEvent i sig v) := by
  unfold State.valueEvent
  split
  · split <;> rfl
  · split <;> rfl
  · rfl

theorem reportLevel_only (i : Fin 32) (s : State) : CtlOnly s (s.reportLevel i) := by
  unfold State.reportLevel; split <;> rfl

theorem reportMoisture_only (i : Fin 32) (s : State) : CtlOnly s (s.reportMoisture i) := by
  unfold State.reportMoisture; split <;> rfl

theorem outletTakes_only (i : Fin 32) (pl : Payload) (s : State) :
    CtlOnly s (s.outletTakes i pl) := by
  unfold State.outletTakes; split <;> rfl

theorem tipTakes_only (i : Fin 32) (pl : Payload) (s : State) : CtlOnly s (s.tipTakes i pl) := by
  unfold State.tipTakes; split <;> rfl

theorem setQual_only (i : Fin 32) (q : Qualifiers) (s : State) : QualOnly s (s.setQual i q) := rfl

theorem filterSample_only (i : Fin 32) (sig : Signal) (raw : Bool) (s : State) :
    QualOnly s (s.filterSample i sig raw) := by
  simp only [State.filterSample]
  split
  · exact setQual_only ..
  · exact (setQual_only ..).trans (valueEvent_only ..).toQual

theorem discreteSample_only (i : Fin 32) (w : Word) (s : State) :
    QualOnly s (s.discreteSample i w) :=
  ((filterSample_only ..).trans (filterSample_only ..)).trans (filterSample_only ..)

theorem flowSample_only (i : Fin 32) (level : Nat) (s : State) :
    QualOnly s (s.flowSample i level) := by
  simp only [State.flowSample]
  split
  · exact setQual_only ..
  · exact (setQual_only ..).trans (valueEvent_only ..).toQual

theorem levelSample_only (i : Fin 32) (d q : Nat) (s : State) :
    QualOnly s (s.levelSample i d q) := by
  simp only [State.levelSample]
  split
  · exact (setQual_only ..).trans (reportLevel_only ..).toQual
  · exact setQual_only ..

theorem moistureSample_only (i : Fin 32) (r : Nat) (s : State) :
    QualOnly s (s.moistureSample i r) := by
  simp only [State.moistureSample]
  split
  · exact setQual_only ..
  · exact (setQual_only ..).trans (reportMoisture_only ..).toQual

theorem deliverRecord_only (i : Fin 32) (pl : Payload) (s : State) :
    QualOnly s (s.deliverRecord i pl) := by
  unfold State.deliverRecord
  split
  · exact ((discreteSample_only ..).trans (flowSample_only ..)).trans (outletTakes_only ..).toQual
  · exact (discreteSample_only ..).trans (tipTakes_only ..).toQual
  · exact (levelSample_only ..).trans (moistureSample_only ..)
  · rfl

theorem reportCleared_only (i : Fin 32) (q : Qualifiers) (s : State) :
    CtlOnly s (s.reportCleared i q) := by
  simp only [State.reportCleared]
  split <;> split
  · exact reportLevel_only ..
  · rfl
  · exact (reportLevel_only ..).trans (reportMoisture_only ..)
  · exact reportMoisture_only ..

theorem clearQualifiers_only (i : Fin 32) (s : State) : QualOnly s (s.clearQualifiers i) :=
  (setQual_only ..).trans (reportCleared_only ..).toQual

theorem forgetValue_only (i : Fin 32) (sig : Signal) (v : Tri) (s : State) :
    CtlOnly s (s.forgetValue i sig v) := by
  unfold State.forgetValue
  split
  · rfl
  · exact valueEvent_only ..

theorem resetQualifiers_only (i : Fin 32) (s : State) : QualOnly s (s.resetQualifiers i) :=
  (setQual_only ..).trans
    (((((forgetValue_only ..).trans (forgetValue_only ..)).trans (forgetValue_only ..)).trans
      (forgetValue_only ..)).trans (reportCleared_only ..)).toQual

theorem dropoutExpires_only (i : Fin 32) (s : State) : QualOnly s (s.dropoutExpires i) :=
  (setQual_only ..).trans (valueEvent_only ..).toQual

/-! ## The Sequence Tracker and the Slot Store -/

theorem tellConsumer_only (i : Fin 32) (old new : Freshness) (s : State) :
    CtlOnly s (s.tellConsumer i old new) := by
  unfold State.tellConsumer
  split
  · split <;> rfl
  · split <;> rfl
  · rfl

theorem freshnessEvent_only (i : Fin 32) (old : Freshness) (k : FreshnessCause) (s : State) :
    QualOnly s (s.freshnessEvent i old k) := by
  simp only [State.freshnessEvent]
  split
  · rfl
  · split
    · exact ((onCtl_only ..).toQual.trans (clearQualifiers_only ..)).trans
        (tellConsumer_only ..).toQual
    · exact ((onCtl_only ..).trans (tellConsumer_only ..)).toQual

theorem answerRecord_only (i k : Fin 32) (pl : Payload) (cl : Word) (b : Bool) (old : Word)
    (s : State) : RecordOnly s (s.answerRecord i k pl cl b old) := by
  simp only [State.answerRecord]
  split
  · rfl
  · split <;> rfl

theorem judgeRecord_only (i k : Fin 32) (pl : Payload) (cl : Word) (s : State) :
    RecordOnly s (s.judgeRecord i k pl cl) := by
  simp only [State.judgeRecord]
  split
  · have h1 (x : Station) (w o : Word) (b : Bool) :
        RecordOnly s ((s.setStation i x).answerRecord i k pl w b o) :=
      RecordOnly.trans (t := s.setStation i x) rfl (answerRecord_only ..)
    split
    · exact ((h1 ..).trans (freshnessEvent_only ..).toRecord).trans (deliverRecord_only ..).toRecord
    · exact (h1 ..).trans (freshnessEvent_only ..).toRecord
  · rfl

theorem takeClosing_only (k : Fin 32) (cl : Word) (s : State) :
    RecordOnly s (s.takeClosing k cl) := by
  simp only [State.takeClosing]
  split
  · rfl
  · split
    · exact RecordOnly.trans (t := s.emptyStaging k) rfl (judgeRecord_only ..)
    · rfl

theorem lateExpires_only (i : Fin 32) (s : State) : RecordOnly s (s.lateExpires i) :=
  RecordOnly.trans (t := (s.setStation i (s.station i).fallLate).putLatch _ _) rfl
    (freshnessEvent_only ..).toRecord

theorem placeSlot_only (k : Fin 24) (s : State) :
    s.placeSlot k = { s with urgent := (s.placeSlot k).urgent, ctl := (s.placeSlot k).ctl } := by
  simp only [State.placeSlot]
  split <;> rfl

theorem placeLatch_only (k : Fin 32) (s : State) :
    s.placeLatch k =
      { s with urgent := (s.placeLatch k).urgent, stationSlots := (s.placeLatch k).stationSlots } := by
  unfold State.placeLatch
  split <;> rfl

theorem supersede_only (k : Fin 24) (s : State) :
    s.supersede k = { s with urgent := (s.supersede k).urgent, ctl := (s.supersede k).ctl } := by
  unfold State.supersede
  split
  · rfl
  · rw [placeSlot_only]

/-- R41: a taken demand word changes only the controllers' state and the urgent queue. -/
theorem takeCommit_only (k : Fin 24) (d : Word) (s : State) :
    s.takeCommit k d =
      { s with urgent := (s.takeCommit k d).urgent, ctl := (s.takeCommit k d).ctl } := by
  simp only [State.takeCommit, State.onCtl, State.clearStaged]
  rw [placeSlot_only, supersede_only]

theorem takeStretched_only (s : State) : TakenOnly s s.takeStretched := by
  unfold State.takeStretched
  split
  · rfl
  · split
    · rfl
    · split
      · exact (takeClosing_only ..).toTaken.trans (u := State.ready _) rfl
      · refine TakenOnly.trans (t := State.takeCommit _ _ s) ?_ rfl
        unfold TakenOnly
        rw [takeCommit_only]
      all_goals rfl

/-! ## The Memory Port -/

/-- R48: the drainer changes only the urgent queue, the marks and its own position. -/
theorem drain_only (s : State) :
    s.drain =
      { s with
        stationSlots := s.drain.stationSlots, urgent := s.drain.urgent, ctl := s.drain.ctl
        drainer := s.drain.drainer } := by
  unfold State.drain
  split
  · rfl
  · split
    · unfold State.placeSource
      split
      · rw [placeSlot_only]
      · rw [placeLatch_only]
    · rfl

theorem safeLatches_only (s : State) :
    s.safeLatches = { s with stationSlots := s.safeLatches.stationSlots } := by
  unfold State.safeLatches
  generalize ((List.finRange 32).filter _) = is
  suffices h : ∀ (g : State → Fin 32 → Word) (x : State),
      x = { s with stationSlots := x.stationSlots } →
      (is.foldl (fun x i => x.putLatch (s.live.slotOf i) (statusWord .stale .hunt)) x) =
        { s with stationSlots :=
            (is.foldl (fun x i => x.putLatch (s.live.slotOf i) (statusWord .stale .hunt)) x).stationSlots }
      from h (fun _ _ => 0) s rfl
  intro _
  induction is with
  | nil => intro x hx; exact hx
  | cons i rest ih =>
    intro x hx
    refine ih _ ?_
    rw [hx]; rfl

/-- R157: the safe writes. -/
theorem safeWrites_only (s : State) :
    s.safeWrites =
      { s with
        safing := .writes, stationSlots := s.safeWrites.stationSlots, ctl := s.ctl.safeSlots s.live
        bulk := s.bulk ++ entriesAt s.regions.control [0, 0] } := by
  unfold State.safeWrites
  rw [safeLatches_only]
  rfl

/-- R157: what a read of the first stage changes besides the copy. -/
theorem beginSafing_only (reads : List (Fin 24 × Fin 3)) (s : State) :
    s.beginSafing reads =
      { s with
        safing := (s.beginSafing reads).safing, stationSlots := (s.beginSafing reads).stationSlots
        ctl := (s.beginSafing reads).ctl, bulk := (s.beginSafing reads).bulk } := by
  unfold State.beginSafing
  split
  · rw [safeWrites_only]
  · rfl

/-! ## Configuration changes -/

theorem refillAt_only (i : Nat) (s : State) : QualOnly s (s.refillAt i) := by
  unfold State.refillAt; split <;> rfl

theorem QualOnly.choice {s x y : State} {b : Bool} (hx : QualOnly s x) (hy : QualOnly s y) :
    QualOnly s (if b then x else y) := by cases b <;> assumption

theorem refillIf_only (b : Bool) (i : Nat) {s t : State} (h : QualOnly s t) :
    QualOnly s (if b then t.refillAt i else t) := QualOnly.choice (h.trans (refillAt_only i t)) h

theorem applyPass_only (old : PassCfg) (p : Fin 4) (s : State) : QualOnly s (s.applyPass old p) := by
  have h2 := refillIf_only (s.live.passCfg p).present (s.live.passCfg p).levelStation
    (refillIf_only old.present old.levelStation (QualOnly.refl s))
  simp only [State.applyPass]
  split
  · exact h2.trans (onCtl_only _ _).toQual
  · split
    · exact h2.trans (onCtl_only _ _).toQual
    · exact h2

theorem staleLatch_only (k : StationCfg) (s : State) : RecordOnly s (s.staleLatch k) := by
  unfold State.staleLatch; split <;> rfl

theorem restartStation_only (old : StationCfg) (i : Fin 32) (s : State) :
    RecordOnly s (s.restartStation old i) := by
  have h : RecordOnly s (s.setStation i Station.reset) := rfl
  simp only [State.restartStation]
  exact (((h.trans (staleLatch_only ..)).trans (staleLatch_only ..)).trans
    (freshnessEvent_only ..).toRecord).trans (setQual_only ..).toRecord

theorem applyStation_only (old : StationCfg) (i : Fin 32) (s : State) :
    RecordOnly s (s.applyStation old i) := by
  simp only [State.applyStation]
  split
  · split
    · have h1 : ∀ b : Bool, RecordOnly s (if b then s.lateExpires i else s) := fun b => by
        cases b
        · rfl
        · exact lateExpires_only ..
      have h2 := h1 (decide (old.lateLimit ≠ (s.live.stationCfg i).lateLimit ∧ s.lateDue i = true))
      simp only [decide_eq_true_eq] at h2
      split
      · exact h2.trans (resetQualifiers_only ..).toRecord
      · exact h2
    · rfl
  · exact restartStation_only ..

/-- R164, GLOBAL: the bases, the journal, a held index write and the period timer. -/
theorem applyGlobal_only (old : GlobalCfg) (s : State) :
    s.applyGlobal old =
      { s with
        bases := some s.live.regions, port := (s.applyGlobal old).port
        ctl := (s.applyGlobal old).ctl, mirror := (s.applyGlobal old).mirror } := by
  simp only [State.applyGlobal, State.restartJournal]
  split <;> split <;> rfl

/-- Only what a changed entry can touch differs: not the table, the clock, the queues' waits or memory. -/
def EntryOnly (s t : State) : Prop :=
  t = { s with
        bases := t.bases, port := t.port, stationSlots := t.stationSlots, urgent := t.urgent
        stations := t.stations, quals := t.quals, ctl := t.ctl, mirror := t.mirror }

theorem RecordOnly.toEntry {s t : State} (h : RecordOnly s t) : EntryOnly s t := by
  unfold RecordOnly at h; unfold EntryOnly; rw [h]

theorem applyEntry_only (old : Live) (kind : EntryKind) (i : Nat) (s : State) :
    EntryOnly s (s.applyEntry old kind i) := by
  unfold State.applyEntry
  split
  · unfold EntryOnly; rw [applyGlobal_only]
  · split
    · exact (applyPass_only ..).toRecord.toEntry
    · rfl
  · split
    · exact (onCtl_only ..).toQual.toRecord.toEntry
    · rfl
  · split
    · exact (onCtl_only ..).toQual.toRecord.toEntry
    · rfl
  · split
    · exact (applyStation_only ..).toEntry
    · rfl

/-- R164: the live table and the identity take the change; the rest is `EntryOnly`. -/
theorem applyConfig_only (kind : EntryKind) (i : Nat) (x : RawEntry) (w : Word) (s : State) :
    EntryOnly { s with live := s.live.replace kind i x, identity := w } (s.applyConfig kind i x w) := by
  have h := applyEntry_only s.live kind i { s with live := s.live.replace kind i x, identity := w }
  unfold EntryOnly at h ⊢
  simp only [State.applyConfig, State.onCtl]
  rw [h]

end Sys2Proof.Machine
end

