-- ==== Sys2Proof/Laws/Memory.lean ====
section
/-! SUPPORT. Image memory: every operation keeps the canonical form, and what a read gives after a write. -/

namespace Sys2Proof.Machine

namespace Memory

theorem wf_nil : Memory.wf [] := by simp [Memory.wf]

theorem mem_write {a : Nat} {b : BitVec 8} {m : List Host.Cell} {c : Host.Cell}
    (h : c ∈ Memory.write a b m) : c = (a, b) ∧ b ≠ Memory.blank ∨ c ∈ m := by
  induction m with
  | nil =>
    unfold Memory.write at h
    split at h
    · exact absurd h (List.not_mem_nil)
    · next hb => left; simpa [hb] using h
  | cons d rest ih =>
    unfold Memory.write at h
    split at h
    · split at h
      · right; exact h
      · next hb =>
        rcases List.mem_cons.mp h with h | h
        · left; exact ⟨h, hb⟩
        · right; exact h
    · split at h
      · split at h
        · right; exact List.mem_cons_of_mem _ h
        · next hb =>
          rcases List.mem_cons.mp h with h | h
          · left; exact ⟨h, hb⟩
          · right; exact List.mem_cons_of_mem _ h
      · rcases List.mem_cons.mp h with h | h
        · right; rw [h]; exact List.mem_cons_self
        · rcases ih h with h | h
          · left; exact h
          · right; exact List.mem_cons_of_mem _ h

theorem wf_tail {d : Host.Cell} {rest : List Host.Cell} (h : Memory.wf (d :: rest)) :
    Memory.wf rest :=
  ⟨(List.pairwise_cons.mp h.1).2, fun c hc => h.2 c (List.mem_cons_of_mem _ hc)⟩

theorem wf_cons {d : Host.Cell} {rest : List Host.Cell} (h : Memory.wf rest)
    (hlt : ∀ c ∈ rest, d.1 < c.1) (hb : d.2 ≠ Memory.blank) : Memory.wf (d :: rest) := by
  refine ⟨List.pairwise_cons.mpr ⟨hlt, h.1⟩, fun c hc => ?_⟩
  rcases List.mem_cons.mp hc with hc | hc
  · rw [hc]; exact hb
  · exact h.2 c hc

/-- A write of one byte keeps the canonical form. -/
theorem wf_write (a : Nat) (b : BitVec 8) {m : List Host.Cell} (h : Memory.wf m) :
    Memory.wf (Memory.write a b m) := by
  induction m with
  | nil =>
    unfold Memory.write
    split
    · exact wf_nil
    · next hb => exact wf_cons wf_nil (by simp) hb
  | cons d rest ih =>
    have hd := (List.pairwise_cons.mp h.1).1
    unfold Memory.write
    split
    · next hlt =>
      split
      · exact h
      · next hb =>
        refine wf_cons h (fun c hc => ?_) hb
        rcases List.mem_cons.mp hc with hc | hc
        · rw [hc]; exact hlt
        · exact Nat.lt_trans hlt (hd c hc)
    · next hlt =>
      split
      · next heq =>
        split
        · exact wf_tail h
        · next hb => exact wf_cons (wf_tail h) (fun c hc => by rw [heq]; exact hd c hc) hb
      · next hne =>
        refine wf_cons (ih (wf_tail h)) (fun c hc => ?_) (h.2 d List.mem_cons_self)
        rcases mem_write hc with hc | hc
        · rw [hc.1]; show d.1 < a; omega
        · exact hd c hc

theorem wf_writeWord (a : Addr) (w : Word) {m : List Host.Cell} (h : Memory.wf m) :
    Memory.wf (Memory.writeWord a w m) := wf_write _ _ (wf_write _ _ h)

theorem wf_writeLanes (a : Addr) (lanes : BitVec 2) (w : Word) {m : List Host.Cell}
    (h : Memory.wf m) : Memory.wf (Memory.writeLanes a lanes w m) := by
  unfold Memory.writeLanes
  dsimp only
  split <;> split <;> first | exact wf_write _ _ (wf_write _ _ h) | exact wf_write _ _ h | exact h

theorem wf_writeEntries (g : List Entry) {m : List Host.Cell} (h : Memory.wf m) :
    Memory.wf (Memory.writeEntries g m) := by
  induction g generalizing m with
  | nil => exact h
  | cons e rest ih => exact ih (wf_writeWord _ _ h)

/-- No entry lies below the first of a canonical memory. -/
theorem read_below {a : Nat} {m : List Host.Cell} (h : ∀ c ∈ m, a < c.1) :
    Memory.read m a = Memory.blank := by
  induction m with
  | nil => rfl
  | cons d rest ih =>
    have hd := h d List.mem_cons_self
    rw [Memory.read, if_neg (by omega)]
    exact ih fun c hc => h c (List.mem_cons_of_mem _ hc)

/-- A read after a write of one byte. -/
theorem read_write (a : Nat) (b : BitVec 8) {m : List Host.Cell} (h : Memory.wf m) (x : Nat) :
    Memory.read (Memory.write a b m) x = if x = a then b else Memory.read m x := by
  induction m with
  | nil =>
    unfold Memory.write
    by_cases hb : b = Memory.blank
    · rw [if_pos hb]; split <;> simp [Memory.read, hb]
    · rw [if_neg hb]
      by_cases hx : x = a
      · simp [Memory.read, hx]
      · simp [Memory.read, hx, Ne.symm hx]
  | cons d rest ih =>
    have hd := (List.pairwise_cons.mp h.1).1
    unfold Memory.write
    split
    · next hlt =>
      have hbelow : Memory.read (d :: rest) a = Memory.blank :=
        read_below fun c hc => by
          rcases List.mem_cons.mp hc with hc | hc
          · rw [hc]; exact hlt
          · exact Nat.lt_trans hlt (hd c hc)
      split
      · next hb =>
        split
        · next hx => rw [hx, hbelow, hb]
        · rfl
      · by_cases hx : x = a
        · simp [Memory.read, hx]
        · rw [if_neg hx, Memory.read, if_neg (fun e => hx e.symm)]
    · split
      · next heq =>
        have hbelow : Memory.read rest a = Memory.blank :=
          read_below fun c hc => by rw [heq]; exact hd c hc
        by_cases hx : x = a
        · rw [if_pos hx]
          split
          · next hb => rw [hx, hbelow, hb]
          · simp [Memory.read, hx]
        · rw [if_neg hx, Memory.read, if_neg (show ¬d.1 = x from fun e => hx (e.symm.trans heq.symm))]
          split
          · rfl
          · rw [Memory.read, if_neg (fun e => hx e.symm)]
      · next hne =>
        rw [Memory.read, Memory.read, ih (wf_tail h)]
        by_cases hx : d.1 = x
        · rw [if_pos hx, if_neg (show ¬x = a by omega), if_pos hx]
        · rw [if_neg hx, if_neg hx]

/-- The word written is the word read. -/
theorem readWord_writeWord_same (a : Addr) (w : Word) {m : List Host.Cell} (h : Memory.wf m) :
    Memory.readWord (Memory.writeWord a w m) a = w := by
  unfold Memory.readWord Memory.writeWord
  rw [read_write _ _ (wf_write _ _ h), read_write _ _ (wf_write _ _ h), if_pos rfl,
    if_neg (by omega), read_write _ _ h, if_pos rfl]
  exact joinWord_octets w

/-- A write of one word leaves the others as they were. -/
theorem readWord_writeWord_other {a x : Addr} (w : Word) {m : List Host.Cell} (h : Memory.wf m)
    (hx : x ≠ a) : Memory.readWord (Memory.writeWord a w m) x = Memory.readWord m x := by
  have hn : x.toNat ≠ a.toNat := fun e => hx (BitVec.eq_of_toNat_eq e)
  unfold Memory.readWord Memory.writeWord
  simp only [read_write _ _ (wf_write _ _ h), read_write _ _ h]
  rw [if_neg (by omega), if_neg (by omega), if_neg (by omega), if_neg (by omega)]

end Memory

/-- The memory of the reset state has the canonical form. -/
theorem State.reset_mem_wf : Memory.wf State.reset.mem := Memory.wf_nil

end Sys2Proof.Machine
end

