-- ==== Sys2Proof/Laws/Settle.lean ====
section
/-! SUPPORT. What an input event does where one member of the pass waits alone (R44, R100, R107, R128): the
taking of the waiting members is that member's own, and taking it twice is taking it once. -/

namespace Sys2Proof.Machine

/-- A list without repetitions in which one element alone can satisfy a test. -/
theorem filter_lone {α : Type} [DecidableEq α] {l : List α} (hd : l.Nodup) {n : α} (hn : n ∈ l)
    {f : α → Bool} (h : ∀ m ∈ l, m ≠ n → f m = false) : l.filter f = if f n then [n] else [] := by
  induction l with
  | nil => simp at hn
  | cons a l ih =>
    simp only [List.nodup_cons] at hd
    by_cases ha : a = n
    · subst ha
      have : l.filter f = [] := List.filter_eq_nil_iff.mpr fun m hm => by
        simp [h m (by simp [hm]) (by rintro rfl; exact hd.1 hm)]
      rw [List.filter_cons, this]
    · rw [List.filter_cons_of_neg (by simp [h a (by simp) ha])]
      exact ih hd.2 (by simpa [Ne.symm ha] using hn) fun m hm => h m (by simp [hm])

/-- The checks of a DRAW read no command slot. -/
theorem drawCheck_updSlot (e : Env) (n : Fin 8) (cm : Commit) (k : Fin 24)
    (f : CommandSlot → CommandSlot) (c : Ctl) :
    drawCheck e n cm (c.updSlot k f) = drawCheck e n cm c := rfl

/-- Where nothing waits on the slot, a re-judgement does nothing. -/
theorem rejudgeDraw_none {e : Env} {n : Fin 8} {c : Ctl} (h : (c.slot (outletSlot n)).holder = none) :
    rejudgeDraw e n c = c := by simp [rejudgeDraw, h]

theorem rejudgePermit_none {e : Env} {t : Fin 12} {c : Ctl}
    (h : (c.slot (tipSlot t)).holder = none) : rejudgePermit e t c = c := by
  simp [rejudgePermit, h]

theorem takeGrant_slot (p : Fin 4) (c : Ctl) (k : Fin 24) : (takeGrant p c).1.slot k = c.slot k := by
  simp only [takeGrant]
  split <;> rfl

/-- What a re-judgement leaves is executed, refused, or kept under the reason that fails now. -/
theorem rejudgeDraw_twice (e : Env) (n : Fin 8) (c : Ctl) :
    rejudgeDraw e n (rejudgeDraw e n c) = rejudgeDraw e n c := by
  cases hh : (c.slot (outletSlot n)).holder with
  | none => rw [rejudgeDraw_none hh, rejudgeDraw_none hh]
  | some d =>
    cases hj : drawCheck e n d.commit c with
    | pass =>
      have : rejudgeDraw e n c = executeDraw e n d.commit (c.clearHolder (outletSlot n)) := by
        simp [rejudgeDraw, hh, hj]
      rw [this, rejudgeDraw_none]
      simp [executeDraw, startOrder, Ctl.accept, Ctl.slot_updSlot_same, CommandSlot.putVerdict,
        CommandSlot.putDemand, CommandSlot.putSetPoints, takeGrant_slot, Ctl.clearHolder]
    | refuse r =>
      have : rejudgeDraw e n c = c.refuseDeferred (outletSlot n) d.commit.tag r := by
        simp [rejudgeDraw, hh, hj]
      rw [this, rejudgeDraw_none]
      simp [Ctl.refuseDeferred, Ctl.refuse, Ctl.slot_updSlot_same, CommandSlot.putVerdict,
        Ctl.clearHolder]
    | transient r =>
      have : rejudgeDraw e n c = c.keepDeferred (outletSlot n) d r := by
        simp [rejudgeDraw, hh, hj]
      rw [this]
      unfold Ctl.keepDeferred
      split
      · rw [this, Ctl.keepDeferred, if_pos ‹_›]
      · simp [rejudgeDraw, Ctl.slot_updSlot_same, drawCheck_updSlot, hj, Ctl.keepDeferred]

theorem executeDraw_startPending (e : Env) (n : Fin 8) (cm : Commit) (c : Ctl) :
    ((executeDraw e n cm c).outlet n).startPending = false := by
  simp [executeDraw, startOrder, Ctl.accept]

theorem rejudgeDraw_startPending (e : Env) (n : Fin 8) (c : Ctl)
    (h : (c.outlet n).startPending = false) : ((rejudgeDraw e n c).outlet n).startPending = false := by
  unfold rejudgeDraw
  split
  · exact h
  split
  · exact executeDraw_startPending ..
  · exact h
  · unfold Ctl.keepDeferred
    split <;> exact h

/-- A visit to an outlet that no longer waits does nothing. -/
theorem visitOutlet_idle {e : Env} {n : Fin 8} {c : Ctl} (hp : (c.outlet n).startPending = false)
    (hh : (c.slot (outletSlot n)).holder = none) : visitOutlet e c n = c := by
  simp [visitOutlet, hp, rejudgeDraw_none hh]

/-- Whether another outlet draws does not rest on the outlet itself. -/
theorem otherDrawing_setOutlet (e : Env) (n : Fin 8) (o : Outlet) (c : Ctl) :
    (c.setOutlet n o).otherDrawing e n = c.otherDrawing e n := by
  unfold Ctl.otherDrawing
  congr 1
  funext m
  by_cases h : m = n
  · simp [h]
  · rw [Ctl.outlet_setOutlet_other c o (Ne.symm h)]

/-- A cycle start that goes on waiting is the same start, and one made leaves nothing that waits. -/
theorem cycleStart_twice (e : Env) (n : Fin 8) (c : Ctl) (h : (c.slot (outletSlot n)).holder = none) :
    visitOutlet e (cycleStart e n c) n = cycleStart e n c := by
  have ended (reason : EndReason) :
      visitOutlet e (endOrder e n reason c) n = endOrder e n reason c :=
    visitOutlet_idle (by simp [endOrder]) (by simp [endOrder, h])
  have begun : visitOutlet e (beginCycle e n c) n = beginCycle e n c :=
    visitOutlet_idle (by simp [beginCycle])
      (by simp [beginCycle, CommandSlot.putDemand, CommandSlot.putSetPoints, h])
  by_cases hl : (c.pass (e.outletCfg n).pass).state = .lockout
  · simpa only [cycleStart, hl, if_true] using ended .lockout
  by_cases hh : (c.pass (e.outletCfg n).pass).state = .hangup
  · simpa only [cycleStart, if_neg hl, if_pos hh] using ended .hangup
  by_cases hc : (c.pass (e.outletCfg n).pass).belowCushion (e.passCfg (e.outletCfg n).pass) = true ∧
      (c.pass (e.outletCfg n).pass).grant = false ∧ (c.outlet n).grantHeld = false
  · simpa only [cycleStart, if_neg hl, if_neg hh, if_pos hc] using ended .cushion
  by_cases hw : (c.pass (e.outletCfg n).pass).wetActive = true ∧ c.otherDrawing e n = true
  · have hx : cycleStart e n c = c.setOutlet n { c.outlet n with startPending := true } := by
      simp only [cycleStart, if_neg hl, if_neg hh, if_neg hc, if_pos hw]
    rw [hx]
    simp only [visitOutlet, Ctl.outlet_setOutlet_same, if_true, cycleStart, Ctl.setOutlet_pass,
      otherDrawing_setOutlet, if_neg hl, if_neg hh, if_neg hc, if_pos hw]
    simp [Ctl.setOutlet]
  · simpa only [cycleStart, if_neg hl, if_neg hh, if_neg hc, if_neg hw] using begun

theorem visitOutlet_twice (e : Env) (n : Fin 8) (c : Ctl)
    (h : (c.outlet n).startPending = true → (c.slot (outletSlot n)).holder = none) :
    visitOutlet e (visitOutlet e c n) n = visitOutlet e c n := by
  cases hp : (c.outlet n).startPending
  · have hv : visitOutlet e c n = rejudgeDraw e n c := by simp [visitOutlet, hp]
    rw [hv, visitOutlet, if_neg (by simp [rejudgeDraw_startPending e n c hp]), rejudgeDraw_twice]
  · have hv : visitOutlet e c n = cycleStart e n c := by simp [visitOutlet, hp]
    rw [hv, cycleStart_twice e n c (h hp)]

/-- R44, R100, R107: where an outlet of the pass waits alone, an event at the pass takes it once, in no free
order. -/
theorem settleOutlets_lone {e : Env} {p : Fin 4} {n : Fin 8} {c : Ctl} (hn : n ∈ e.live.outletsOf p)
    (h : (c.outlet n).startPending = true → (c.slot (outletSlot n)).holder = none)
    (lone : ∀ m ∈ e.live.outletsOf p, m ≠ n → c.waits m = false) :
    settleOutlets e p c = visitOutlet e c n := by
  have hd : (e.live.outletsOf p).Nodup := (List.nodup_finRange 8).filter _
  unfold settleOutlets
  rw [filter_lone hd hn lone]
  by_cases hw : c.waits n = true
  · simp [hw, takingOrder, drawOrder, visitOutlet_twice e n c h]
  · simp only [Ctl.waits, Bool.or_eq_true, not_or, Option.isSome_iff_ne_none, ne_eq, not_not,
      Bool.not_eq_true] at hw
    simp [Ctl.waits, hw.1, hw.2, takingOrder, drawOrder, visitOutlet_idle hw.2 hw.1]

/-- Where no outlet of the pass waits, nothing is taken. -/
theorem settleOutlets_none {e : Env} {p : Fin 4} {c : Ctl}
    (h : ∀ m ∈ e.live.outletsOf p, c.waits m = false) : settleOutlets e p c = c := by
  have : (e.live.outletsOf p).filter c.waits = [] :=
    List.filter_eq_nil_iff.mpr fun m hm => by simp [h m hm]
  simp [settleOutlets, this, takingOrder, drawOrder]

/-- Where no PERMIT is deferred at these tip points, their re-judgements do nothing. -/
theorem foldl_rejudgePermit_none {e : Env} {l : List (Fin 12)} {c : Ctl}
    (h : ∀ u ∈ l, (c.slot (tipSlot u)).holder = none) :
    l.foldl (fun x u => rejudgePermit e u x) c = c := by
  induction l with
  | nil => rfl
  | cons a l ih =>
    rw [List.foldl_cons, rejudgePermit_none (h a (by simp))]
    exact ih fun u hu => h u (by simp [hu])

theorem settleTips_none {e : Env} {p : Fin 4} {c : Ctl}
    (h : ∀ u ∈ e.live.tipsOf p, (c.slot (tipSlot u)).holder = none) : settleTips e p c = c :=
  foldl_rejudgePermit_none h

theorem tipSlot_ne {t u : Fin 12} (h : u ≠ t) : tipSlot t ≠ tipSlot u := fun heq =>
  h (Fin.ext (by simpa [tipSlot] using (congrArg Fin.val heq).symm))

/-- A re-judgement at one tip point touches no other slot. -/
theorem rejudgePermit_slot_other (e : Env) {t u : Fin 12} (c : Ctl) (h : u ≠ t) :
    (rejudgePermit e t c).slot (tipSlot u) = c.slot (tipSlot u) := by
  have hk := tipSlot_ne h
  unfold rejudgePermit
  split
  · rfl
  split
  · simp [executePermit, Ctl.accept, Ctl.clearHolder, Ctl.slot_updSlot_other _ _ hk]
  · simp [Ctl.refuseDeferred, Ctl.refuse, Ctl.clearHolder, Ctl.slot_updSlot_other _ _ hk]
  · unfold Ctl.keepDeferred
    split
    · rfl
    · exact Ctl.slot_updSlot_other _ _ hk

/-- R44, R128: where a tip point of the pass waits alone, an event at the pass re-judges its PERMIT once. -/
theorem settleTips_lone {e : Env} {p : Fin 4} {t : Fin 12} {c : Ctl} (ht : t ∈ e.live.tipsOf p)
    (lone : ∀ u ∈ e.live.tipsOf p, u ≠ t → (c.slot (tipSlot u)).holder = none) :
    settleTips e p c = rejudgePermit e t c := by
  have hd : (e.live.tipsOf p).Nodup := (List.nodup_finRange 12).filter _
  unfold settleTips
  generalize e.live.tipsOf p = l at ht lone hd
  induction l with
  | nil => simp at ht
  | cons a l ih =>
    simp only [List.nodup_cons] at hd
    rw [List.foldl_cons]
    by_cases ha : a = t
    · subst ha
      refine foldl_rejudgePermit_none fun u hu => ?_
      have hne : u ≠ a := fun h => hd.1 (h ▸ hu)
      rw [rejudgePermit_slot_other e c hne]
      exact lone u (by simp [hu]) hne
    · rw [rejudgePermit_none (lone a (by simp) ha)]
      exact ih (by simpa [Ne.symm ha] using ht) (fun u hu => lone u (by simp [hu])) hd.2

end Sys2Proof.Machine
end

