-- ==== Sys2Proof/Tests/Slice0.lean ====
section
/-! SUPPORT. The model's own tests: ill-formed commands that the check refuses, values of the spec's tables
and worked examples, and a witness for the hypotheses of every statement. -/

namespace Sys2Proof.Machine.Tests

set_option Elab.async false

/-! ## Ill-formed commands -/

theorem test_wf_image_length : (Instr.configLoadComplete (some [0])).wellFormed = false := by decide
theorem test_wf_no_image : (Instr.configLoadComplete none).wellFormed = true := by decide
theorem test_wf_bad_code_of_outlet : (Instr.commitBadCode 7 4 0).wellFormed = false := by decide
theorem test_wf_bad_code_of_tip : (Instr.commitBadCode 8 3 0).wellFormed = false := by decide
theorem test_wf_bad_code_of_pass : (Instr.commitBadCode 20 7 0).wellFormed = false := by decide
theorem test_wf_bad_code_taken : (Instr.commitBadCode 8 4 0).wellFormed = true := by decide
theorem test_wf_six_ones_on_the_line :
    (Instr.frameDropped (List.replicate 6 true)).wellFormed = false := by decide
theorem test_wf_known_code : (Instr.unknownRequest 3 6 []).wellFormed = false := by decide
theorem test_wf_unknown_payload :
    (Instr.unknownRequest 3 7 (List.replicate 65 0)).wellFormed = false := by decide
theorem test_wf_long_payloads : ∀ c ∈
    [Instr.frameDroppedBusy 3 1 (List.replicate 65 0), .frameIgnored 3 1 (List.replicate 65 0),
      .identify 3 (List.replicate 65 0), .readConfig 3 (List.replicate 65 0),
      .writeConfig 3 (List.replicate 65 0), .readStatus 3 (List.replicate 65 0),
      .clearCounters 3 (List.replicate 65 0), .reload 3 (List.replicate 65 0)],
    c.wellFormed = false := by decide

/-! ## Tables and examples of the spec -/

/-- R60: the table of the sixteen octets. -/
theorem test_octets_h0 : (List.range 8).map (fun c => wellFormedOctet false (BitVec.ofNat 3 c)) =
    [0x00, 0x1B, 0x2E, 0x35, 0x47, 0x5C, 0x69, 0x72] := by decide
theorem test_octets_h1 : (List.range 8).map (fun c => wellFormedOctet true (BitVec.ofNat 3 c)) =
    [0x8D, 0x96, 0xA3, 0xB8, 0xCA, 0xD1, 0xE4, 0xFF] := by decide

/-- R61: the syndrome of one bit in error. -/
theorem test_syndromes : (List.range 8).map (fun i => syndrome (invertBit 0 i)) =
    [0, 1, 2, 4, 5, 7, 3, 6] := by decide

/-- R75: a lost counter at 252 increased by 6 becomes 2 with its rollover flag. -/
theorem test_counter_rollover :
    (({ Station.reset with events := Station.reset.events.set 4 252 } : Station).bump .lost 6).events[4]
        = 2 ∧
      (({ Station.reset with events := Station.reset.events.set 4 252 } : Station).bump .lost
        6).rollover = 0b100000 := by decide

/-- R70: L is 3, H is 5 and c is 6: the record first is accepted with one lost and one withheld. -/
theorem test_skip_confirmed :
    (({ Station.reset with order := .skip, last := 3, held := some 5 } : Station).orderValid true 6
      0).1.events.toList = [0, 0, 0, 0, 1, 1, 0, 0, 0, 0] := by decide

/-- R70: the expiry first; the record is accepted in LATE with two lost. -/
theorem test_late_resumed :
    (({ Station.reset with order := .skip, last := 3, held := some 5 } : Station).fallLate.orderValid
      true 6 0).1.events.toList = [0, 0, 0, 0, 2, 0, 0, 1, 0, 0] := by decide

/-- R149, R150: a publication goes through 59 groups: the opening word, the header, 56 records and the
closing word. -/
theorem test_publication_groups :
    ((List.range 58).foldl (fun g _ => g.bind MirrorGroup.next) (some .opening)) = some .closing ∧
      MirrorGroup.next .closing = none := by decide

/-- R159: five 1 bits are followed by a 0. -/
theorem test_zero_insertion :
    zeroInsert 0 (octetBits 0xFF) =
      [true, true, true, true, true, false, true, true, true] := by decide

/-- The refusal of words: no row of the table has bits. -/
theorem test_no_word_spells_a_command : decodeTableWord 16 0 = none := by decide

/-! ## A small configured part -/

/-- An entry with these numbers at these bit positions. -/
def entry (fields : List (Nat × Nat)) : RawEntry :=
  BitVec.ofNat 256 (fields.foldl (fun a f => a + f.2 <<< f.1) 0)

def globalEntry : RawEntry :=
  entry [(0, 1), (8, 3), (16, 0), (40, 512), (64, 1024), (88, 1040), (112, 4096), (136, 64),
    (152, 200), (168, 1000), (184, 1000)]

/-- Pass 0 with outlets 0 and 1 and tip points 0 and 1. -/
def live : Live where
  global := globalEntry
  passes := #v[entry [(0, 500), (16, 50), (32, 300), (48, 400), (64, 350), (80, 100), (96, 5),
    (112, 50), (128, 100), (144, 5), (160, 60), (176, 30), (192, 10), (208, 1), (218, 24), (224, 3),
    (236, 4), (240, 3), (248, 5)], 0, 0, 0]
  outlets := #v[entry [(0, 1), (8, 0), (16, 10), (32, 1000), (48, 1000), (64, 500), (80, 5), (96, 5)],
    entry [(0, 1), (8, 1), (16, 10), (32, 1000), (48, 1000), (64, 500), (80, 5), (96, 5)],
    0, 0, 0, 0, 0, 0]
  tips := #v[entry [(0, 1), (8, 8), (16, 2), (32, 3), (40, 1)],
    entry [(0, 1), (8, 9), (32, 3), (40, 1)], 0, 0, 0, 0, 0, 0, 0, 0, 0, 0]
  stations := Vector.ofFn fun i : Fin 32 =>
    if i.val < 2 then
      entry [(0, 1), (1, 2), (8, i.val), (16, 500), (32, 1), (40, 10), (48, 5), (72, 300)]
    else if i.val = 8 ∨ i.val = 9 then
      entry [(0, 1), (1, 1), (8, i.val), (16, 500), (32, 1)]
    else if i.val = 24 then
      entry [(0, 1), (1, 3), (8, 24), (16, 500), (40, 1), (48, 1), (56, 1), (64, 1), (88, 1)]
    else 0

/-- A station in order, and healthy. -/
def freshStation : Station := { Station.reset with order := .locked, last := 3, healthy := true }

def filterAt (v : Tri) : Filter := { Filter.reset with value := v }

def slotWith (a b c : Word) : CommandSlot := { CommandSlot.reset with copy := ⟨a, b, c⟩ }

/-- The part in RUN at 100 s: pass 0 RUNNING and WORKING; every station FRESH; gates closed, receivers
present, no truck, grizzlies clear, booms parked; set-points of a DRAW in the copies of outlets. -/
def demo : State where
  __ := State.reset
  clock := 100000
  partState := .run
  loading := false
  live := live
  identity := 0x1234
  loadStatus := { code := .ok, entry := none }
  bases := some live.regions
  stations := Vector.replicate 32 freshStation
  quals := Vector.ofFn fun i : Fin 32 =>
    if i.val < 8 then
      { Qualifiers.reset with d0 := filterAt .yes, d1 := filterAt .no, d2 := filterAt .yes }
    else { Qualifiers.reset with d0 := filterAt .no, d1 := filterAt .yes, d2 := filterAt .yes }
  ctl :=
    { Ctl.reset with
      passes := Vector.replicate 4
        { Pass.reset with
          state := .running, inventory := 200, settled := true, high := 200, low := 200
          cls := .working, dwellTimer := some 99000 }
      outlets := Vector.replicate 8
        { Outlet.reset with lastRecord := some { weight := 40, identity := 7, position := 0 } }
      tips := Vector.replicate 12 { Tip.reset with state := .closed, park := .stopped }
      slots := Vector.ofFn fun k : Fin 24 => if k.val < 8 then slotWith 100 2 60 else slotWith 0 0 0 }
  link := { Link.reset with rx := .inFrame }

/-- `demo` with pass 0 changed. -/
def withPass (f : Pass → Pass) : State := { demo with ctl := demo.ctl.setPass 0 (f (demo.ctl.pass 0)) }
/-- `demo` with outlet 0 changed. -/
def withOutlet (f : Outlet → Outlet) : State :=
  { demo with ctl := demo.ctl.setOutlet 0 (f (demo.ctl.outlet 0)) }
/-- `demo` with tip point 0 changed. -/
def withTip (f : Tip → Tip) : State := { demo with ctl := demo.ctl.setTip 0 (f (demo.ctl.tip 0)) }
/-- `demo` with command slot `k` changed. -/
def withSlot (k : Fin 24) (f : CommandSlot → CommandSlot) : State :=
  { demo with ctl := demo.ctl.setSlot k (f (demo.ctl.slot k)) }
/-- `demo` with station 0 changed. -/
def withStation (f : Station → Station) : State := demo.setStation 0 (f (demo.station 0))
/-- `demo` with the qualifiers of station 0 changed. -/
def withQual (f : Qualifiers → Qualifiers) : State := demo.setQual 0 (f (demo.qual 0))
/-- `demo` with the staging of station slot 0 full. -/
def staged : State :=
  demo.setStationSlot 0 { StationSlot.reset with staging := Vector.replicate 10 (some 5) }

/-- What a command leaves, seen through `f`. -/
def after {α : Type} (c : Instr) (s : State) (f : State → α) : Option α :=
  match exec c s with
  | .next t => some (f t)
  | .fault _ => none
  | .refused _ => none

/-! ## One command on a small state -/

/-- R99: a DRAW opens its outlet with the target of set-point A. -/
theorem test_draw_opens :
    after (.draw 0 9) demo (fun t => ((t.ctl.outlet 0).state, (t.ctl.outlet 0).workingTarget)) =
      some (.opening, 100) := by decide +kernel

/-- R18, R99: under the wet restriction the target is lowered to 5 × 20 dt and the opening to 4 × 10 %. -/
theorem test_draw_clamped :
    after (.draw 0 9) (withPass fun r => { r with wetActive := true })
      (fun t => ((t.ctl.outlet 0).workingTarget, (t.ctl.outlet 0).workingOpening,
        (t.urgent.getLastD []).map (fun e => e.2) |>.drop 3)) =
      some (100, 40, [0x0901, 0x0902, 0x0001]) := by decide +kernel

/-- R43, section 9.3: a DRAW without a receiver is deferred with RECEIVER_ABSENT under its tag. -/
theorem test_draw_deferred :
    after (.draw 0 9) (withQual fun q => { q with d2 := filterAt .no })
      (fun t => (t.urgent.getLastD []).map (fun e => e.2)) = some [0x0903, 14] := by decide +kernel

/-- R128: a PERMIT opens a tip point whose boom rests and whose grizzly is clear. -/
theorem test_permit_opens :
    after (.permit 0 5) demo (fun t => (t.ctl.tip 0).state) = some .opened := by decide +kernel

/-- R130: a BOOM_WORK over an OPEN neighbour in the fall relation is refused, FALL_PATH. -/
theorem test_boom_work_refused :
    after (.boomWork 1 5) (withTip fun x => { x with state := .opened })
      (fun t => ((t.ctl.tip 1).state, (t.urgent.getLastD []).map (fun e => e.2))) =
      some (.closed, [0x0504, 19]) := by decide +kernel

/-- R23: LOCKOUT closes an OPEN tip point and stops a flowing outlet. -/
theorem test_lockout_stops :
    after (.lockout 0 1)
      { demo with
        ctl := (demo.ctl.setTip 0 { demo.ctl.tip 0 with state := .opened }).setOutlet 0
          { demo.ctl.outlet 0 with state := .flowing } }
      (fun t => ((t.ctl.tip 0).state, (t.ctl.outlet 0).state, (t.ctl.outlet 0).stopReason)) =
      some (.closed, .stopping, some .lockout) := by decide +kernel

/-- R65, R38: the next record in LOCKED is accepted and released as 12 words, the last one LOCKED and
FRESH. -/
theorem test_record_released :
    after (.closingWordWrite 0 0x00CA) staged
      (fun t => ((t.station 0).accepted, (t.urgent.getLastD []).length,
        ((t.urgent.getLastD []).getLastD (0, 0)).2)) = some (1, 12, 0x21) := by decide +kernel

/-- R117: a flow-start timeout stops the outlet and hands over a report. -/
theorem test_flow_start_timeout :
    after (.flowStartTimeout 0)
      (withOutlet fun o => { o with state := .flowing, timer := some (.flowStart, 99500) })
      (fun t => ((t.ctl.outlet 0).stopReason, (t.ctl.outlet 0).noFlowReports)) =
      some (some .noFlow, [0]) := by decide +kernel

/-- R51: with nothing else waiting a bulk word is written. -/
theorem test_bulk_word_written :
    after .arbiterGrant { demo with bulk := [(5, 0x0102)] } (fun t => (t.mem, t.bulk)) =
      some ([(10, 2), (11, 1)], []) := by decide +kernel

/-- R145: a GAP goes before the head while records are lost. -/
theorem test_gap_first :
    after .journalRecordWrite
      { demo with ctl := { demo.ctl with journal := { Journal.reset with lost := 1 } } }
      (fun t => t.bulk.length) = some 0 := by decide +kernel

/-- R162, section 9.8: IDENTIFY in RUN. -/
theorem test_identify :
    after (.identify 31 []) demo (fun t => t.link.tx.map fun r => r.octets.take 12) =
      some (some [3, 0x81, 0, 0x20, 0x41, 0x34, 0x12, 1, 255, 255, 2, 3]) := by decide +kernel

/-- R163: a WRITE_CONFIG with its pass in RUNNING is answered NOT_LOCKED_OUT. -/
theorem test_write_config_not_locked_out :
    after (.writeConfig 3 ([1, 0] ++ List.replicate 34 0)) demo
      (fun t => t.link.tx.map fun r => r.octets.take 3) = some (some [3, 0x83, 3]) := by
  decide +kernel

/-- R32, section 9.3: the row that a bus write is: slot 1 of the station region, word 10, and word 3 of slot 0
of the command region with order code 1. -/
theorem test_bus_write_names_its_slot :
    demo.busWrite 22 1 3 0x01CA = .closingWordWrite 1 0x01CA ∧
      demo.busWrite 513 0 3 7 = .setpointWrite 0 1 7 ∧ demo.busWrite 515 0 3 0x0901 = .draw 0 9 ∧
      demo.busWrite 635 0 3 0x0907 = .setInventory 0 9 ∧
      demo.busWrite 515 0 3 0x0905 = .commitBadCode 0 5 9 ∧
      demo.busWrite 1025 0 3 2 = .readIndexWrite 2 ∧
      demo.busWrite 22 0 3 0x01CA = .refusedWrite 22 0 3 0x01CA := by decide +kernel

/-- R147: the attention line stays asserted as RUN is entered, with START to be written. -/
theorem test_attention_as_run_begins :
    (match exec .safingEnd { demo with partState := .safing, safing := .writes } with
      | .next t => some (t.partState, t.unread, t.attention)
      | .fault _ => none
      | .refused _ => none) = some (.run, 0, true) := by decide +kernel

/-- R159: a delimiter that closes a frame of 552 bits or more has opened the next frame. -/
theorem test_long_frame_keeps_the_receiver :
    after (.frameDropped (List.replicate 552 false)) demo (fun t => (t.link.rx, t.link.lengthError)) =
      some (.inFrame, 1) := by decide +kernel

/-- R165: no record is written to the ring between the acceptance of a RELOAD and its taking effect. -/
theorem test_no_record_before_reload :
    after .journalRecordWrite
      { demo with
        partState := .starting, ctl := { demo.ctl with journal := { demo.ctl.journal with list := [
          { kind := .start, subject := 255, stamp := 0, d0 := 0, d1 := 0, d2 := 0, d3 := 0 }] } } }
      (fun t => (t.bulk.length, t.ctl.journal.list.length)) = some (0, 1) := by decide +kernel

/-! ## Witnesses: states and operands that meet the hypotheses of each statement, clause by clause -/

/-- `demo` in another part state. -/
def inPart (p : PartState) : State := { demo with partState := p }
/-- `demo` with a transaction held. -/
def holding (write : Bool) (purpose : Purpose) : State :=
  { demo with
    port := some { addr := 9, write := write, tag := 0, lanes := 3, data := 1, purpose := purpose } }
/-- Four full groups: 8 entries are free. -/
def crowded : State := { demo with urgent := List.replicate 4 (List.replicate 6 (0, 0)) }
/-- A response in transmission. -/
def answering (reload : Bool) : State :=
  { demo with link := { demo.link with tx := some { octets := [1], reload := reload } } }
/-- `demo` with another journal. -/
def withJournal (f : Journal → Journal) : State :=
  { demo with ctl := { demo.ctl with journal := f demo.ctl.journal } }
def aRecord : JournalRecord where
  kind := .start
  subject := 255
  stamp := 0
  d0 := 0
  d1 := 0
  d2 := 0
  d3 := 0
/-- `demo` with a publication in hand. -/
def publishing (g : MirrorGroup) : State :=
  { demo with mirror := { demo.mirror with cursor := some g, timer := some 99800, base := 4096 } }

theorem witness_ResetAndReloadSetRecords :
    demo.resetAsserted = false ∧ ({ demo with resetAsserted := true } : State).resetAsserted = true ∧
      (answering true).link.tx = some { octets := [1], reload := true } ∧
      (after .fullReset demo fun t => t.clock) = some 0 ∧
      (after .fullResetEnd { demo with resetAsserted := true } fun t => t.clock) = some 0 ∧
      (after .responseEnd (answering true) fun t => t.clock) = some 0 := by decide +kernel

theorem witness_ResetAndClock :
    (holding false .read).port = some
        { addr := 9, write := false, tag := 0, lanes := 3, data := 1, purpose := .read } ∧
      (holding true .passes).port ≠ none ∧
      ({ demo with clock := 4294967295 } : State).clock = 4294967295 := by decide +kernel

/-- An image of 1 834 octets whose length field is not the image's length. -/
def badImage : List Octet := List.replicate 1834 0

/-- The header and the global entry of an image with no other entry. -/
def goodHead : List Octet := [1, 0, 0x2A, 0x07, 0x34, 0x12] ++ entryOctets globalEntry

/-- That image with its check. -/
def goodImage : List Octet := goodHead ++ List.replicate 1792 0 ++ [165, 35, 225, 222]

/-- The check's register goes through these values, one for each 64 octets of zeros. -/
def zeroRuns : BitVec 32 → List (BitVec 32) → Bool
  | _, [] => true
  | v, w :: rest => (crcRun 0xEDB88320 v (List.replicate 64 0) == w) && zeroRuns w rest

theorem crcRun_append {w : Nat} (poly : BitVec w) (a b : List Octet) :
    ∀ reg, crcRun poly reg (a ++ b) = crcRun poly (crcRun poly reg a) b := by
  induction a with
  | nil => intro _; rfl
  | cons o a ih => intro reg; exact ih _

theorem crcRun_of_zeroRuns (ws : List (BitVec 32)) : ∀ v, zeroRuns v ws = true →
    crcRun 0xEDB88320 v (List.replicate (ws.length * 64) 0) = ws.getLastD v := by
  induction ws with
  | nil => intro _ _; rfl
  | cons w ws ih =>
    intro v h
    obtain ⟨h₁, h₂⟩ : crcRun 0xEDB88320 v (List.replicate 64 0) = w ∧ zeroRuns w ws = true := by
      simpa [zeroRuns] using h
    have split : (w :: ws).length * 64 = 64 + ws.length * 64 := by simp; omega
    rw [split, List.replicate_add, crcRun_append, h₁, ih w h₂]
    cases ws <;> rfl

def goodRuns : List (BitVec 32) :=
  [0x33D438D7, 0x9A1A5E17, 0x544FDB7B, 0x55C16955, 0x7FD4CD10, 0xC23C86B3, 0xB25C5E19,
    0x05E96927, 0xD0D9E0D5, 0x678AB3D4, 0x2A240E19, 0x630A287D, 0x7EC2BBCD, 0xD1339195,
    0x91C85DEC, 0x8C3EFE65, 0xCDF6681C, 0xD6CB02EB, 0x334FD85F, 0xA86ED39B, 0x22377495,
    0x22658E40, 0xF57AB6A1, 0xD074559A, 0x8A623CAC, 0xE7080A55, 0x9F953555, 0x211EDC5A]

theorem goodRuns_hold : zeroRuns 0x28FA1370 goodRuns = true := by decide +kernel

theorem goodImage_split : goodImage.take 1830 = goodHead ++ List.replicate 1792 0 ∧
    goodImage.drop 1830 = [165, 35, 225, 222] := by decide +kernel

/-- R153: the check of the image, through the values of its register. -/
theorem goodImage_check :
    natToOctets 4 (crc32 (goodImage.take 1830)).toNat = goodImage.drop 1830 := by
  have head : crcRun (0xEDB88320 : BitVec 32) 0xFFFFFFFF goodHead = 0x28FA1370 := by decide +kernel
  have zeros : crcRun (0xEDB88320 : BitVec 32) 0x28FA1370 (List.replicate 1792 0) = 0x211EDC5A :=
    crcRun_of_zeroRuns goodRuns _ goodRuns_hold
  rw [goodImage_split.1, goodImage_split.2, crc32, crcRun_append, head, zeros]
  decide

theorem witness_LoadCompletes :
    State.reset.resetAsserted = false ∧ State.reset.partState = .starting ∧
      State.reset.loading = true ∧ badImage.length = 1834 ∧
      imageFailure badImage = some (.badLength, none) ∧ goodImage.length = 1834 ∧
      (imageLive goodImage).safingReads = [] := by decide +kernel

theorem witness_LoadCompletes_good : imageFailure goodImage = none := by
  have header : payloadWord goodImage 2 = 1834 ∧ payloadWord goodImage 0 = 1 ∧
      (imageLive goodImage).failure = none := by decide +kernel
  rw [imageFailure, if_neg (not_not.2 header.1), if_neg (not_not.2 goodImage_check),
    if_neg (not_not.2 header.2.1), header.2.2]

/-- The image of the small configured part begins SAFING with the reads of slot 0. -/
theorem witness_LoadCompletes_reads : live.safingReads.head? = some (0, 0) := by decide +kernel

theorem witness_LoadChecksInOrder :
    payloadWord badImage 2 ≠ 1834 ∧ payloadWord goodImage 2 = 1834 ∧
      payloadWord goodImage 0 = 1 ∧ (globalCfg globalEntry).present = true ∧
      (globalCfg 0).present = false ∧
      (globalCfg (globalEntry ^^^ entry [(16, 1)])).regionsOk = false ∧
      payloadWord ([0, 0] ++ goodImage.drop 2) 0 ≠ 1 := by
  decide +kernel

/-- The image with another last octet fails its check alone. -/
theorem witness_LoadChecksInOrder_check :
    let image := goodImage.take 1830 ++ [165, 35, 225, 0]
    natToOctets 4 (crc32 (image.take 1830)).toNat ≠ image.drop 1830 := by
  have split : (goodImage.take 1830 ++ [165, 35, 225, 0]).take 1830 = goodImage.take 1830 ∧
      (goodImage.take 1830 ++ [165, 35, 225, 0]).drop 1830 = [165, 35, 225, 0] ∧
      goodImage.drop 1830 ≠ [165, 35, 225, 0] := by decide +kernel
  intro image
  rw [split.1, split.2.1, goodImage_check]
  exact split.2.2

theorem witness_SafingRunsItsStages :
    let s : State := { inPart .safing with safing := .reads 0 2 [] }
    let t : State := { inPart .safing with safing := .writes }
    s.safing = .reads 0 2 [] ∧ s.upstreamWaits = false ∧ t.safing = .writes ∧ t.urgent = [] ∧
      t.bulk = [] ∧ t.nextSource = none ∧ s.live.slotConfigured 20 = true ∧
      s.live.slotConfigured 23 = false := by decide +kernel

/-- Word 10 and word 11 of a station slot, word 3 and 4 of a command slot, both control words, the first
word of the ring and the last of the mirror, and an address outside every region. -/
theorem witness_WriteTreatment :
    demo.treatment 10 1 3 = .taken ∧ demo.treatment 11 1 3 = .refused ∧
      demo.treatment 515 0 3 = .taken ∧ demo.treatment 516 0 3 = .refused ∧
      demo.treatment 1024 0 3 = .refused ∧ demo.treatment 1025 0 3 = .taken ∧
      demo.treatment 1040 0 3 = .refused ∧ demo.treatment 4503 0 3 = .refused ∧
      demo.treatment 4504 0 3 = .passes ∧ (inPart .safing).treatment 4504 0 3 = .refused := by
  decide +kernel

theorem witness_ReadsWaitAndRefusedWritesComplete :
    demo.port = none ∧ demo.treatment 4504 2 1 = .passes ∧ demo.treatment 0 0 3 = .refused := by
  decide +kernel

theorem witness_WritesOutsideRunAreRefused :
    (inPart .safing).port = none ∧ (inPart .safing).partState ≠ .run ∧
      (commitSlot (.draw 7 1)).isSome = true ∧ orderCodeBad 0 5 = true ∧
      (commitSlot (.commitBadCode 0 5 1)).isSome = true := by decide +kernel

theorem witness_StagingWrites : demo.takesWrites := by decide +kernel

/-- The write index 5 is admitted with w at 5, and 6 is not. -/
theorem witness_ReadIndexIsChecked :
    let s := withJournal fun j => { j with w := 5 }
    s.takesWrites ∧ s.admits 5 = true ∧ s.admits 6 = false ∧ s.admits 64 = false := by
  decide +kernel

theorem witness_StretchedWritesWaitForRoom :
    crowded.takesWrites ∧ crowded.urgentFree < 12 ∧ crowded.bulk = [] ∧
      crowded.urgent = List.replicate 6 (0, 0) :: List.replicate 3 (List.replicate 6 (0, 0)) ∧
      12 ≤ 32 - ((List.replicate 3 (List.replicate 6 ((0, 0) : Entry))).map List.length).sum ∧
      crowded.safing = .off := by decide +kernel

theorem witness_GrantPerformsUpstream :
    (holding false .read).port ≠ none ∧ (holding true .passes).port ≠ none ∧
      (holding true (.readIndex true)).port ≠ none ∧
      ({ holding false .read with urgent := [[(1, 1)]], urgentWait := 3 } : State).urgentWait < 4 ∧
      ({ holding false .read with bulk := [(1, 1)], bulkWait := 15 } : State).bulkWait < 16 ∧
      demo.safing = .off := by decide +kernel

theorem witness_GrantWritesQueues :
    let s : State := { holding false .read with urgent := [[(1, 1)]], urgentWait := 4 }
    let t : State := { holding false .read with bulk := [(1, 1)], bulkWait := 16 }
    let u : State := { demo with urgent := [[(1, 1)]], bulk := [(2, 2)] }
    s.safing = .off ∧ 4 ≤ s.urgentWait ∧ t.urgent = [] ∧ 16 ≤ t.bulkWait ∧ u.urgent = [[(1, 1)]] ∧
      u.bulkWait < 16 ∧ u.upstreamWaits = false ∧ u.port = none ∧
      ({ demo with bulk := [(2, 2)] } : State).upstreamWaits = false := by decide +kernel

theorem witness_DrainerPlacesMarkedSource :
    let s := withSlot 3 fun x => { x with wb := { x.wb with verdict := some 1 } }
    let t := { crowded with
      urgent := List.replicate 32 [(0, 0)]
      stationSlots := crowded.stationSlots.set 2 { StationSlot.reset with latch := some 4 } }
    let u := { t with urgent := [] }
    s.nextSource = some 3 ∧ s.sourceWords 3 ≤ s.urgentFree ∧ t.nextSource = some 26 ∧
      t.urgentFree < t.sourceWords 26 ∧ u.sourceWords 26 ≤ u.urgentFree ∧
      (u.stationSlot 2).latch = some 4 := by decide +kernel

theorem witness_JournalWritesRecords :
    let s := withJournal fun j => { j with list := [aRecord], w := 62 }
    let t := withJournal fun j => { j with lost := 2 }
    let u := withJournal fun j => { j with zeroDue := [2048] }
    (s.ctl.journal.w + s.regions.records - s.ctl.journal.r) % s.regions.records + 2
        ≤ s.regions.records ∧
      s.partState = .run ∧ t.partState = .run ∧ s.bulk.length ≤ 7 ∧ s.ctl.journal.zeroDue = [] ∧
      s.ctl.journal.lost = 0 ∧
      s.ctl.journal.list = [aRecord] ∧ 0 < t.ctl.journal.lost ∧
      (t.ctl.journal.w + t.regions.records - t.ctl.journal.r) % t.regions.records + 2
        ≤ t.regions.records ∧
      u.ctl.journal.zeroDue = [2048] ∧ u.bulk.length ≤ 14 := by decide +kernel

theorem witness_MirrorPublishes : ∀ g ∈ [MirrorGroup.opening, .header, .pass 3, .outlet 7, .tip 11,
      .station 31, .closing],
    (publishing g).partState = .run ∧ (publishing g).mirror.cursor = some g ∧
      (publishing g).journalWaits = false ∧
      ((publishing g).groupWords g).2.length ≤ 16 - (publishing g).bulk.length := by decide +kernel

theorem witness_MirrorPublishes_period :
    (publishing .header).mirror.timer = some 99800 ∧
      (publishing .header).live.globalCfg.mirrorPeriod ≤ ((publishing .header).clock - 99800).toNat ∧
      ({ publishing .header with mirror := { Mirror.reset with timer := some 99800 } } : State).mirror.cursor
        = none := by decide +kernel

theorem witness_DiscardedRecords :
    demo.takesCommits ∧ demo.live.stationOfSlot 31 = none ∧ demo.live.stationOfSlot 0 = some 0 ∧
      (demo.stationSlot 0).complete = false ∧ staged.takesCommits ∧
      (staged.stationSlot 0).complete = true ∧ (highOctet 0x20CA).toNat ≠ 0 := by decide +kernel

theorem witness_RecordIsJudgedAndReleased :
    staged.takesCommits ∧ staged.live.stationOfSlot 0 = some 0 ∧
      (staged.stationSlot 0).complete = true ∧ (highOctet 0x00CA).toNat = 0 ∧
      (((staged.station 0).checkOctet 0xCA).1.orderOctet
        ((staged.station 0).checkOctet 0xCA).2 staged.clock).2 = true ∧
      (((staged.station 0).checkOctet 0xD1).1.orderOctet
        ((staged.station 0).checkOctet 0xD1).2 staged.clock).2 = false := by decide +kernel

theorem witness_CheckMachineTable :
    classifyOctet 0xCA = .noError ∧ classifyOctet 0xCB = .single 0 ∧ classifyOctet 0x4A = .single 7 ∧
      classifyOctet 0xCC = .double ∧ Station.reset.check = .correcting ∧
      ({ Station.reset with check := .detecting } : Station).check = .detecting := by decide +kernel

theorem witness_OrderMachineTables : ∀ o ∈ [OrderState.hunt, .trial, .locked, .skip, .doubt, .late],
    ({ Station.reset with order := o, last := 7, held := some 2 } : Station).order = o ∧
      (0 - 7 : BitVec 3) = 1 ∧ (7 - 7 : BitVec 3) = 0 ∧ (6 - 7 : BitVec 3) = 7 ∧
      (3 - 2 : BitVec 3) = 1 ∧ (1 - 7 : BitVec 3) = 2 := by decide +kernel

theorem witness_FillClassIsDecided :
    let k := live.passCfg 0
    let r := (withPass id).ctl.pass 0
    r.settled = true ∧ (r.estimate k).high = 200 ∧ k.fullMark ≤ 400 ∧
      (({ r with inventory := 400 } : Pass).estimate k).cls = .full ∧
      (({ r with inventory := 350, cls := .full } : Pass).estimate k).cls = .full ∧
      (({ r with inventory := 350 } : Pass).estimate k).cls = .high ∧
      (({ r with inventory := 49 } : Pass).estimate k).cls = .cushion ∧
      (({ r with inventory := 50 } : Pass).estimate k).cls = .working := by decide +kernel

theorem witness_BadCodesAreRefused :
    demo.takesCommits ∧ ownerOf 7 = .outlet 7 ∧ ownerOf 8 = .tip 0 ∧ ownerOf 19 = .tip 11 ∧
      ownerOf 20 = .pass 0 ∧ ownerOf 23 = .pass 3 := by decide +kernel

theorem witness_DrawStartsOrder :
    let sp := (demo.commitOf 0 1 9).sp
    demo.takesCommits ∧ (demo.live.outletCfg 0).present = true ∧
      (demo.ctl.pass 0).state = .running ∧ demo.env.outletFresh 0 = true ∧
      (demo.ctl.outlet 0).lastRecord = some { weight := 40, identity := 7, position := 0 } ∧
      (demo.ctl.pass 0).cls ≠ .unknown ∧ (demo.live.passCfg 0).cushionMark ≤ (demo.ctl.pass 0).low ∧
      (demo.ctl.outlet 0).state = .idle ∧ (demo.ctl.pass 0).wetActive = false ∧
      10 ≤ sp.a.toNat ∧ sp.a.toNat ≤ 5000 ∧ 1 ≤ sp.b.toNat ∧ sp.b.toNat ≤ 250 ∧
      20 ≤ sp.c.toNat ∧ sp.c.toNat ≤ 100 ∧ (demo.env.outletQual 0).d2.value = .yes ∧
      (demo.env.outletQual 0).d0.value = .yes := by decide +kernel

/-- Each check of R97 is the first to fail on some state. -/
theorem witness_DrawChecksInOrder :
    let c1 : Commit := { code := 1, tag := 0, sp := { a := 100, b := 2, c := 60 } }
    let why (s : State) (cm : Commit) := drawCheck s.env 0 cm s.ctl
    why (withPass fun r => { r with state := .lockout }) c1 = .refuse .lockout ∧
      why (withOutlet fun o => { o with state := .fault }) c1 = .refuse .outletFault ∧
      why (withPass fun r => { r with state := .hangup }) c1 = .refuse .hangup ∧
      why (withOutlet fun o => { o with lastRecord := none }) c1 = .refuse .feedbackStale ∧
      why (withPass fun r => { r with cls := .unknown }) c1 = .refuse .fillUnknown ∧
      why (withPass fun r => { r with low := 49 }) c1 = .refuse .cushion ∧
      why (withOutlet fun o => { o with state := .closing }) c1 = .refuse .busy ∧
      why { demo with
        ctl := (demo.ctl.setPass 0 { demo.ctl.pass 0 with wetActive := true }).setOutlet 1
          { demo.ctl.outlet 1 with state := .opening } } c1 = .refuse .busyPass ∧
      why demo { c1 with sp := { c1.sp with a := 9 } } = .refuse .range ∧
      why demo { c1 with sp := { c1.sp with b := 251 } } = .refuse .range ∧
      why demo { c1 with sp := { c1.sp with c := 19 } } = .refuse .range ∧
      why (withQual fun q => { q with d2 := filterAt .unknown }) c1 = .transient .receiverAbsent ∧
      why (withQual fun q => { q with d0 := filterAt .no }) c1 = .transient .gateNotClosed ∧
      (demo.live.outletCfg 7).present = false ∧ demo.live.globalCfg.outletLimit ≠ 0 ∧
      demo.takesCommits := by decide +kernel

theorem witness_AdjustLatchesValues :
    let s := withOutlet fun o => { o with state := .flowing }
    let sp := (s.commitOf 0 2 1).sp
    let low := ((withSlot 0 fun x => { x with copy := { x.copy with a := 9 } }).commitOf 0 2 1).sp
    s.takesCommits ∧ (s.live.outletCfg 0).present = true ∧ (s.ctl.outlet 0).state.active = true ∧
      10 ≤ sp.a.toNat ∧ sp.a.toNat ≤ 5000 ∧ sp.b.toNat ≤ 250 ∧ 20 ≤ sp.c.toNat ∧
      (demo.ctl.outlet 0).state.active = false ∧ low.a ≠ 0 ∧ low.a.toNat < 10 := by decide +kernel

/-- The outlet's orders are taken in every state. -/
theorem witness_StopAfterEndsOrder_CloseAndForceClose : ∀ x ∈
    [OutletState.idle, .opening, .flowing, .closing, .indexing, .stopping, .fault],
    (withOutlet fun o => { o with state := x }).takesCommits ∧
      ((withOutlet fun o => { o with state := x }).ctl.outlet 0).state = x ∧
      ((withOutlet fun o => { o with state := x }).live.outletCfg 0).present = true ∧
      ((withOutlet fun o => { o with state := x }).env.outletQual 0).d0.value = .yes ∧
      ((withQual fun q => { q with d0 := filterAt .no }).env.outletQual 0).d0.value ≠ .yes := by
  decide +kernel

/-- Each check of R127 is the first to fail on some state, and a PERMIT passes on one. -/
theorem witness_PermitChecksInOrder :
    let why (s : State) := permitCheck s.env 0 s.ctl
    why demo = .pass ∧ demo.takesCommits ∧
      why (withTip fun x => { x with state := .opened }) = .pass ∧
      why (withPass fun r => { r with state := .lockout }) = .refuse .lockout ∧
      why (withTip fun x => { x with state := .fault }) = .refuse .tipPointFault ∧
      why (withTip fun x => { x with state := .breaking }) = .refuse .boomFree ∧
      why (withPass fun r => { r with state := .hangup }) = .refuse .hangup ∧
      why (demo.setStation 8 Station.reset) = .refuse .feedbackStale ∧
      why (withPass fun r => { r with cls := .unknown }) = .refuse .fillUnknown ∧
      why (withPass fun r => { r with cls := .full }) = .refuse .full ∧
      why { demo with ctl := demo.ctl.setTip 1 { demo.ctl.tip 1 with state := .breaking } } =
        .refuse .fallPath ∧
      why (withTip fun x => { x with state := .parking }) = .transient .boomNotParked ∧
      why (demo.setQual 8 { demo.qual 8 with d1 := filterAt .no }) = .transient .grizzlyOccupied ∧
      (demo.live.tipCfg 11).present = false ∧ demo.live.globalCfg.tipLimit ≠ 0 ∧
      tipSetPointsOk { code := 1, tag := 0, sp := { a := 51, b := 0, c := 0 } } = false ∧
      tipSetPointsOk { code := 1, tag := 0, sp := { a := 50, b := 0, c := 0 } } = true := by
  decide +kernel

theorem witness_WithdrawClosesTip_BoomOrders : ∀ x ∈
    [TipState.closed, .opened, .breaking, .parking, .fault],
    (withTip fun y => { y with state := x }).takesCommits ∧
      ((withTip fun y => { y with state := x }).ctl.tip 0).state = x ∧
      ((withTip fun y => { y with state := x }).live.tipCfg 0).present = true ∧
      (demo.commitOf 8 0 1).sp = { a := 0, b := 0, c := 0 } ∧
      ((withSlot 8 fun y => { y with copy := { y.copy with b := 1 } }).commitOf 8 0 1).sp.b ≠ 0 ∧
      demo.env.tipFresh 0 = true ∧ demo.ctl.relatedIn demo.env 0 .opened = false ∧
      (demo.env.tipQual 0).d0.value = .no := by decide +kernel

/-- The pass orders are taken in every pass state. -/
theorem witness_pass_orders : ∀ x ∈ [PassState.lockout, .running, .hangup],
    (withPass fun r => { r with state := x }).takesCommits ∧
      ((withPass fun r => { r with state := x }).ctl.pass 0).state = x ∧
      ((withPass fun r => { r with state := x }).live.passCfg 0).present = true ∧
      (∀ code ∈ [(0 : Octet), 1, 2, 3, 4, 5, 6, 7],
        (demo.commitOf 20 code 1).sp = { a := 0, b := 0, c := 0 }) ∧
      (∀ n ∈ demo.live.outletsOf 0, demo.ctl.waits n = false) ∧
      ((withPass fun r => { r with levelValid := true }).ctl.pass 0).levelValid = true ∧
      (demo.ctl.pass 0).levelValid = false ∧
      (demo.live.passCfg 0).capacity <
        ((withSlot 20 fun y => { y with copy := { y.copy with a := 501 } }).commitOf 20 7
          1).sp.a.toNat ∧
      ((withPass fun r => { r with hostWet := true, wetActive := true }).ctl.pass 0).sensorWet
        ≠ .wet := by decide +kernel

theorem witness_frames :
    commitSlot (.lockout 0 1) = some 20 ∧ (after (.lockout 0 1) demo fun t => t.busReady) = some true ∧
      commitSlot (.permit 0 1) = some 8 ∧ (after (.permit 0 1) demo fun t => t.busReady) = some true ∧
      commitSlot (.draw 0 1) = some 0 ∧ (after (.draw 0 1) demo fun t => t.busReady) = some true ∧
      isControllerEvent (.parkTimeout 0) = true ∧
      (after (.parkTimeout 0) demo fun t => t.busReady) = some false := by decide +kernel

theorem witness_PassTimersExpire :
    let s := withPass fun r => { r with disagree := some 99000 }
    s.resetAsserted = false ∧ (s.live.passCfg 0).present = true ∧
      (s.ctl.pass 0).dwellTimer = some 99000 ∧ 1000 ≤ (s.clock - 99000).toNat ∧
      (s.ctl.pass 0).disagree = some 99000 ∧
      (s.live.passCfg 0).holdTime * 1000 ≤ (s.clock - 99000).toNat := by decide +kernel

theorem witness_ChuteNoFlowHangsUpRunningPass :
    ((withOutlet fun o => { o with noFlowReports := [0] }).ctl.outlet 0).noFlowReports = [0] ∧
      ((withOutlet fun o => { o with noFlowReports := [0] }).ctl.pass 0).state = .running ∧
      ((withPass fun r => { r with state := .hangup }).ctl.pass 0).state ≠ .running := by
  decide +kernel

theorem witness_DeferralExpires :
    let d : Deferred :=
      { commit := { code := 1, tag := 4, sp := SetPoints.zero }, since := 99000
        reason := .boomNotParked, limit := 1000 }
    ((withSlot 8 fun x => { x with holder := some d }).ctl.slot 8).holder = some d ∧
      d.limit ≤ (demo.clock - d.since).toNat := by decide +kernel

theorem witness_StationTimersExpire :
    ((withStation fun x => { x with late := some 99500 }).station 0).late = some 99500 ∧
      (demo.live.stationCfg 0).lateLimit ≤ (demo.clock - 99500).toNat ∧
      ((withQual fun q => { q with flow := { state := .dropping, rise := none, dropout := some 99700 } }).qual
        0).flow.dropout = some 99700 ∧
      (demo.live.stationCfg 0).dropout ≤ (demo.clock - 99700).toNat := by decide +kernel

theorem witness_CycleTimersStopOrder : ∀ x ∈ [(OutletState.opening, OutletTimer.openT),
      (.flowing, .flowStart), (.flowing, .cycleDraw)],
    let s := withOutlet fun o => { o with state := x.1, timer := some (x.2, 90000) }
    (s.ctl.outlet 0).state = x.1 ∧ (s.ctl.outlet 0).timer = some (x.2, 90000) ∧
      (s.live.outletCfg 0).openTimeout ≤ (s.clock - 90000).toNat ∧
      (s.live.outletCfg 0).flowStartTimeout ≤ (s.clock - 90000).toNat ∧
      (s.live.outletCfg 0).cycleDrawTimeout * 1000 ≤ (s.clock - 90000).toNat := by decide +kernel

theorem witness_IndexCloseAndParkTimersExpire :
    ((withOutlet fun o => { o with timer := some (.index, 95000) }).ctl.outlet 0).timer =
        some (.index, 95000) ∧
      (demo.live.outletCfg 0).indexTimeout * 1000 ≤ (demo.clock - 95000).toNat ∧
      ((withOutlet fun o => { o with timer := some (.close, 99000) }).ctl.outlet 0).timer =
        some (.close, 99000) ∧
      (demo.live.outletCfg 0).closeTimeout ≤ (demo.clock - 99000).toNat ∧
      ((withTip fun x => { x with park := .running 99000 }).ctl.tip 0).park = .running 99000 ∧
      (demo.live.tipCfg 0).parkTimeout * 1000 ≤ (demo.clock - 99000).toNat := by decide +kernel

/-- Frames of 552, 40, 31 and 8 bits, a check that fails, a busy link and the two units. -/
theorem witness_LinkReceiverDropsFrames :
    demo.link.rx = .inFrame ∧ 552 ≤ (zeroDelete 0 (List.replicate 552 false)).length ∧
      (zeroDelete 0 (List.replicate 31 false)).length = 31 ∧
      (zeroDelete 0 (List.replicate 40 false)).length = 40 ∧
      crc16 (bitsToOctets 69 (zeroDelete 0 (List.replicate 40 false))) ≠ 0 ∧
      (answering false).link.tx.isSome = true ∧
      (3 : Octet).toNat = (answering false).live.globalCfg.unit := by decide +kernel

theorem witness_requests : ∀ p ∈ [PartState.starting, .safing, .run, .unconfigured],
    (inPart p).takesRequest 3 [1] ∧ (inPart p).takesRequest 3 [4, 31] ∧ (inPart p).link.tx = none ∧
      (inPart p).takesRequest 3 [] ∧ namedEntry [4, 31] = some (.station, 31) ∧
      namedEntry [4, 32] = none ∧ 5 < (octetAt [6, 0] 0).toNat := by decide +kernel

theorem witness_CountersAreCleared :
    demo.takesRequest 3 [31] ∧ demo.takesRequest 3 [255] ∧ demo.takesRequest 3 [32] ∧
      demo.partState = .run ∧ (31 : Octet).toNat ≤ 31 ∧ 31 < (32 : Octet).toNat := by decide +kernel

/-- A WRITE_CONFIG of outlet 0 as it stands passes every check with pass 0 in LOCKOUT; the other outcomes
each have a state. -/
theorem witness_WriteConfigIsChecked :
    let s := withPass fun r => { r with state := .lockout }
    let payload := ([2, 0] : List Octet) ++ entryOctets (live.outlets.get 0) ++ ([1, 2] : List Octet)
    let x := live.outlets.get 0
    s.takesRequest 3 payload ∧ s.partState = .run ∧ payload.length = 36 ∧
      namedEntry payload = some (.outlet, 0) ∧ entryOfOctets ((payload.drop 2).take 32) = x ∧
      s.lockedOut (live.replace .outlet 0 x) .outlet 0 = true ∧
      demo.lockedOut (live.replace .outlet 0 x) .outlet 0 = false ∧
      s.noneStopping (live.replace .outlet 0 x) .outlet 0 = true ∧
      (withOutlet fun o => { o with state := .stopping }).noneStopping (live.replace .outlet 0 x)
        .outlet 0 = false ∧
      live.slotsMove (live.replace .outlet 0 x) = false ∧
      live.slotsMove (live.replace .global 0 (globalEntry ^^^ entry [(40, 16)])) = true ∧
      (live.replace .outlet 0 x).failure = none ∧
      (live.replace .outlet 0 (x ^^^ entry [(16, 1023)])).failure =
        some (.badRange, some (.outlet, 0)) := by decide +kernel

theorem witness_ReloadAndResponseEnd :
    (∀ p, (demo.live.passCfg p).present = true →
        ((withPass fun r => { r with state := .lockout }).ctl.pass p).state = .lockout) ∧
      ¬(∀ p, (demo.live.passCfg p).present = true → (demo.ctl.pass p).state = .lockout) ∧
      (answering false).link.tx = some { octets := [1], reload := false } ∧
      (answering true).link.tx = some { octets := [1], reload := true } ∧
      (∃ x, (holding true .passes).port = some x ∧ x.write = true) :=
  ⟨by decide +kernel, by decide +kernel, by decide +kernel, by decide +kernel, _, rfl, rfl⟩

theorem witness_memory_and_configuration :
    (after .msTick demo fun t => t.mem) = some [] ∧ Instr.msTick ≠ .arbiterGrant ∧
      (after .fullReset demo fun t => decide (t.live ≠ demo.live)) = some true := by decide +kernel

/-- The part at reset with a tick waiting meets every invariant, and steps. -/
theorem witness_invariants :
    let s : State := { State.reset with pending := [.msTick] }
    s.memoryCanonical ∧ s.urgentCount = 0 ∧ s.loading = true ∧ s.bulk = [] ∧ s.bases = none ∧
      (∀ t, (s.ctl.tip t).state.given = false ∧ (s.live.tipCfg t).present = false) ∧
      (∀ n, (s.ctl.outlet n).state.active = false ∧ (s.live.outletCfg n).present = false) ∧
      step s = .next { State.reset with clock := 1 } :=
  ⟨⟨List.Pairwise.nil, by simp [State.reset]⟩, by decide +kernel, rfl, rfl, rfl, by decide +kernel,
    by decide +kernel, rfl⟩

/-! ### The orders of checks, and the clauses over every kind -/

/-- Each table that R154 checks from the references on is bad at a first entry. -/
theorem witness_LoadChecksInOrder_entries :
    let bad (kind : EntryKind) (i : Nat) (fields : List (Nat × Nat)) : Live :=
      live.replace kind i (live.entry kind i ^^^ entry fields)
    live.failure = none ∧
    firstBad (bad .pass 0 [(218, 24)]).passRefsOk 0 ∧
    firstBad (bad .outlet 1 [(8, 1)]).outletRefsOk 0 ∧
    firstBad (bad .tipPoint 1 [(16, 2)]).tipRefsOk 1 ∧
    firstBad (bad .station 1 [(8, 1)]).stationRefsOk 0 ∧
    firstBad (fun p => ((bad .pass 0 [(32, 300 ^^^ 400)]).passCfg p).marksOk) 0 ∧
    (bad .global 0 [(8, 28)]).globalCfg.rangesOk = false ∧
    firstBad (fun p => ((bad .pass 0 [(80, 100)]).passCfg p).rangesOk) 0 ∧
    firstBad (fun n => ((bad .outlet 1 [(16, 1023)]).outletCfg n).rangesOk) 1 ∧
    firstBad (fun t => ((bad .tipPoint 1 [(32, 3)]).tipCfg t).rangesOk) 1 ∧
    firstBad (fun j => ((bad .station 24 [(40, 1)]).stationCfg j).rangesOk) 24 := by decide +kernel

/-- A configured station slot and one that is not, and a read with one more behind it. -/
theorem witness_SafingRunsItsStages_latches :
    let s : State := { inPart .safing with safing := .reads 0 1 [(0, 2)] }
    s.safing = .reads 0 1 [(0, 2)] ∧ (s.live.stationCfg 8).present = true ∧ s.live.slotOf 8 = 8 ∧
      ∀ i, (s.live.stationCfg i).present = true → s.live.slotOf i ≠ 30 := by decide +kernel

/-- One command of each slot kind and a bad code, while the queue is crowded. -/
theorem witness_StretchedWritesWaitForRoom_commits : ∀ x ∈
    [(Instr.close 7 2, (7 : Fin 24), (0x0200 : Word)), (.permit 11 2, 19, 0x0201),
      (.setInventory 3 2, 23, 0x0207), (.commitBadCode 0 5 2, 0, 0x0205)],
    commitSlot x.1 = some x.2.1 ∧ commitWord x.1 = some x.2.2 ∧ orderCodeBad 0 5 = true ∧
      crowded.takesWrites ∧ crowded.urgentFree < 12 := by decide +kernel

/-- A read index write overtaken by a change, and a held read and a held write in the first stage of SAFING.
-/
theorem witness_GrantPerformsUpstream_safing :
    let reads (s : State) : State := { s with partState := .safing, safing := .reads 0 1 [] }
    (holding true (.readIndex false)).port ≠ none ∧ (reads (holding false .read)).port ≠ none ∧
      (reads (holding true .passes)).port ≠ none ∧ (reads demo).safing = .reads 0 1 [] ∧
      (reads demo).upstreamWaits = false := by decide +kernel

/-- Nothing marked; the last source, from which the drainer comes round to the first. -/
theorem witness_DrainerPlacesMarkedSource_round :
    let s : State := { demo with
      stationSlots := demo.stationSlots.set 31 { StationSlot.reset with latch := some 5 } }
    demo.nextSource = none ∧ s.nextSource = some 55 ∧ s.sourceWords 55 ≤ s.urgentFree ∧
      after .drainerPlaceGroup s (fun t => t.drainer) = some 0 := by decide +kernel

/-- `staged` for a station of each kind, the station being in TRIAL and not FRESH where `first`. -/
def delivering (k : Fin 32) (first : Bool) : State :=
  let s := demo.setStationSlot k { StationSlot.reset with staging := Vector.replicate 10 (some 5) }
  if first then s.setStation k { freshStation with order := .trial, healthy := false } else s

/-- The closing words of those records. -/
def closing (k : Fin 32) : Word := joinWord (BitVec.ofNat 8 k.val) 0xCA

theorem witness_RecordIsJudgedAndReleased_delivered : ∀ first ∈ [false, true], ∀ x ∈
    [((0 : Fin 32), StationKind.outlet), (8, .tip), (24, .level)],
    let s := delivering x.1 first
    let y := (s.station x.1).checkOctet (lowOctet (closing x.1))
    let z := y.1.orderOctet y.2 s.clock
    s.takesCommits ∧ s.live.stationOfSlot x.1 = some x.1 ∧ (s.stationSlot x.1).complete = true ∧
      (highOctet (closing x.1)).toNat = x.1.val ∧ z.2 = true ∧ z.1.freshness = .fresh ∧
      (s.live.stationCfg x.1).kind = some x.2 ∧ (first = true ↔ (s.station x.1).freshness ≠ .fresh) ∧
      s.live.outletOfStation 0 = some 0 ∧ s.live.tipOfStation 8 = some 0 ∧
      s.live.passOfStation 24 = some 0 := by decide +kernel

/-- The states of the flow qualifier, and the two cases of a level and a moisture sample. -/
theorem witness_RecordIsJudgedAndReleased_samples :
    let k := live.stationCfg 0
    let l := live.stationCfg 24
    let rising : FlowQualifier := { state := .rising, rise := some 7, dropout := none }
    rising.rise = some 7 ∧ k.onThreshold = 10 ∧ k.offThreshold = 5 ∧ k.minOn = 0 ∧ k.dropout = 300 ∧
      l.qualityFloor = 0 ∧ l.poorLimit = 1 ∧ l.interval = 1 ∧
      LevelFilter.reset.distance = none ∧ LevelFilter.reset.poor + 1 = 1 := by decide +kernel

/-- A member that is not configured on each slot kind, and a set-point B that is not 0. -/
theorem witness_not_configured_and_range :
    demo.takesCommits ∧ (demo.live.outletCfg 7).present = false ∧
      (demo.live.tipCfg 11).present = false ∧ (demo.live.passCfg 3).present = false ∧
      (∀ c ∈ [Instr.lockout 0 1, .run 0 1, .releaseHangup 0 1, .declareWet 0 1, .clearWet 0 1,
        .emptyOut 0 1, .rebaseFromLevel 0 1, .setInventory 0 1], (commitWord c).isSome = true) ∧
      (∀ code ∈ [(0 : Octet), 1, 2, 3, 4, 5, 6, 7],
        ((withSlot 20 fun x => { x with copy := { x.copy with b := 1 } }).commitOf 20 code 1).sp.b ≠ 0) ∧
      (∀ code ∈ [(2 : Octet), 3],
        ((withSlot 8 fun x => { x with copy := { x.copy with c := 1 } }).commitOf 8 code 1).sp.c ≠ 0) := by
  decide +kernel

/-- A pass that accumulates up to its threshold, and one under the restriction that has loosened. -/
theorem witness_PassTimersExpire_debits :
    let k := live.passCfg 0
    let s := withPass fun r => { r with levelValid := true, accumulator := 0 }
    let t := withPass fun r => { r with wetActive := true, hostWet := true }
    k.threshold = 100 ∧ k.loosening = 30 ∧ k.fallStep = 5 ∧ (s.ctl.pass 0).state = .running ∧
      (s.ctl.pass 0).levelValid = true ∧ k.threshold ≤ min 65535 ((s.ctl.pass 0).accumulator + 100) ∧
      (t.ctl.pass 0).wetActive = true ∧ k.loosening ≤ min 65535 ((t.ctl.pass 0).loosened + 30) ∧
      min 65535 ((t.ctl.pass 0).loosened + 29) < k.loosening ∧ (demo.ctl.pass 0).sensorWet ≠ .wet := by
  decide +kernel

/-- A DRAW and a PERMIT that wait for `reason`. -/
def waiting (k : Fin 24) (reason : Reason) (s : State) : State :=
  { s with
    ctl := s.ctl.setSlot k
      { s.ctl.slot k with
        holder := some
          { commit := { code := 1, tag := 4, sp := { a := 100, b := 2, c := 60 } }, since := 99000
            reason := reason, limit := 1000 } } }

/-- R44: a holder is refused, kept under another reason, and executed. -/
theorem witness_DeferralExpires_rejudged :
    let verdict (k : Fin 24) (c : Ctl) := ((c.slot k).holder.map Deferred.reason, (c.slot k).wb.verdict)
    let draw (s : State) := verdict 0
      (rejudgeDraw (waiting 0 .receiverAbsent s).env 0 (waiting 0 .receiverAbsent s).ctl)
    let permit (s : State) := verdict 8
      (rejudgePermit (waiting 8 .boomNotParked s).env 0 (waiting 8 .boomNotParked s).ctl)
    draw (withPass fun r => { r with state := .lockout }) = (none, some 0x0404) ∧
      draw (withQual fun q => { q with d0 := filterAt .no }) = (some .gateNotClosed, none) ∧
      draw demo = (none, some 0x0401) ∧
      permit (withTip fun x => { x with state := .fault }) = (none, some 0x0404) ∧
      permit (demo.setQual 8 { demo.qual 8 with d1 := filterAt .no }) =
        (some .grizzlyOccupied, none) ∧
      permit demo = (none, some 0x0401) := by decide +kernel

/-- The input events of a member alone in its pass. -/
theorem witness_DeferralExpires_events :
    let s := waiting 0 .receiverAbsent (waiting 8 .boomNotParked demo)
    (0 : Fin 8) ∈ s.live.outletsOf 0 ∧ (s.ctl.outlet 0).state = .idle ∧
      (s.ctl.outlet 0).startPending = false ∧
      (∀ m ∈ s.live.outletsOf 0, m ≠ 0 → s.ctl.waits m = false) ∧
      (0 : Fin 12) ∈ s.live.tipsOf 0 ∧
      (∀ u ∈ s.live.tipsOf 0, u ≠ 0 → (s.ctl.slot (tipSlot u)).holder = none) ∧
      (s.ctl.tip 0).state = .closed ∧ (s.ctl.tip 0).park ≠ .waiting ∧
      (∀ x ∈ demo.live.tipsOf 0, (demo.ctl.slot (tipSlot x)).holder = none) ∧
      (∀ m ∈ demo.live.outletsOf 0, demo.ctl.waits m = false) := by decide +kernel

/-- A FRESH station of each kind whose late timer has run out. -/
theorem witness_StationTimersExpire_freshness : ∀ x ∈
    [((0 : Fin 32), StationKind.outlet), (8, .tip), (24, .level)],
    let s := demo.setStation x.1 { freshStation with late := some 99000 }
    (s.station x.1).late = some 99000 ∧
      (s.live.stationCfg x.1).lateLimit ≤ (s.clock - 99000).toNat ∧
      (s.station x.1).freshness = .fresh ∧ (s.live.stationCfg x.1).kind = some x.2 ∧
      s.live.outletOfStation 0 = some 0 ∧ s.live.tipOfStation 8 = some 0 ∧
      s.live.passOfStation 24 = some 0 ∧
      (∀ u ∈ s.live.tipsOf 0, (s.ctl.slot (tipSlot u)).holder = none) := by decide +kernel

/-- R101 to R107: a record in each state of an outlet, and the state that follows. -/
theorem witness_CycleTimersStopOrder_records :
    let x : LoadRecord := { weight := 100, identity := 7, position := 50 }
    let next (f : Outlet → Outlet) (q : Qualifiers → Qualifiers) : OutletState :=
      let s := (withOutlet f).setQual 0 (q ((withOutlet f).qual 0))
      ((outletRecord s.env 0 x s.ctl).1.outlet 0).state
    next (fun o => { o with state := .opening, workingOpening := 50 }) id = .flowing ∧
      next (fun o => { o with state := .opening, workingOpening := 56 }) id = .opening ∧
      next (fun o => { o with state := .flowing, workingTarget := 110 }) id = .closing ∧
      next (fun o => { o with state := .flowing, workingTarget := 111 }) id = .flowing ∧
      next (fun o => { o with state := .closing, remaining := 2 }) id = .indexing ∧
      next (fun o => { o with state := .closing, remaining := 1 }) id = .idle ∧
      next (fun o => { o with state := .closing, remaining := 1 }) (fun q => { q with d0 := filterAt .no })
        = .closing ∧
      next (fun o => { o with state := .stopping, stopReason := some .hostClose }) id = .idle ∧
      next (fun o => { o with state := .indexing, startIdentity := 6 }) id = .opening ∧
      next (fun o => { o with state := .indexing, startIdentity := 7 }) id = .indexing ∧
      next (fun o => { o with state := .fault }) id = .fault := by decide +kernel

/-- The states that a cycle start finds, and those of the value events. -/
theorem witness_CycleTimersStopOrder_start :
    let s := withOutlet fun o =>
      { o with state := .flowing, timer := some (.flowStart, 99000) }
    (demo.ctl.outlet 0).lastRecord = some { weight := 40, identity := 7, position := 0 } ∧
      (demo.ctl.pass 0).state = .running ∧ (demo.live.passCfg 0).cushionMark ≤ (demo.ctl.pass 0).low ∧
      ((withPass fun r => { r with low := 49 }).ctl.pass 0).low < (demo.live.passCfg 0).cushionMark ∧
      (demo.ctl.setOutlet 1 { demo.ctl.outlet 1 with state := .flowing }).otherDrawing demo.env 0 =
        true ∧
      (s.ctl.outlet 0).timer = some (.flowStart, 99000) ∧
      (∀ m ∈ s.live.outletsOf 0, m ≠ 0 → s.ctl.waits m = false) ∧ (s.ctl.slot 0).holder = none := by
  decide +kernel

/-- R135, R139, R140: each case of a tip record. -/
theorem witness_IndexCloseAndParkTimersExpire_records :
    let seen (st : TipState) (remaining : Nat) (counter : Octet) :=
      let s := withTip fun x => { x with known := true, lastCounter := 0, state := st, remaining := remaining }
      let c := (tipRecord s.env 0 counter 5 s.ctl).1
      ((c.tip 0).state, (c.tip 0).remaining, (c.pass 0).inventory)
    (live.tipCfg 0).maxJump = 3 ∧ seen .opened 2 0 = (.opened, 2, 200) ∧
      seen .opened 2 4 = (.opened, 2, 200) ∧ seen .opened 2 1 = (.opened, 1, 205) ∧
      seen .opened 2 2 = (.closed, 0, 215) ∧ seen .closed 0 2 = (.closed, 0, 215) := by decide +kernel

theorem witness_LinkReceiver_empty_frame : zeroDelete 0 ([] : List Bool) = [] := by decide

/-- Every record that READ_STATUS names, and an index out of each range. -/
theorem witness_ReadRequestsAnswered_records : ∀ p ∈
    [([0, 0] : List Octet), [1, 3], [2, 7], [3, 11], [0, 1], [5, 1], [1, 4], [2, 8], [3, 12], [4, 32]],
    demo.takesRequest 3 p ∧ p.length = 2 ∧ demo.partState = .run := by decide +kernel

/-- `demo` with every pass in LOCKOUT and inventory beyond a new capacity. -/
def lockedOut : State :=
  { demo with
    ctl := { demo.ctl with
      passes := Vector.replicate 4 { Pass.reset with inventory := 450, accumulator := 9 } } }

/-- The payload of a WRITE_CONFIG. -/
def writePayload (kind index : Octet) (x : RawEntry) : List Octet :=
  [kind, index] ++ entryOctets x ++ [1, 2]

/-- One accepted change of each kind: the journal control base and the mirror period, a capacity, an outlet's
lead, a tip point's park timeout and a station's slot. -/
theorem witness_WriteConfigIsChecked_kinds : ∀ x ∈
    [((0 : Octet), (0 : Octet), EntryKind.global,
        globalEntry ^^^ entry [(64, 1024 ^^^ 2048), (152, 200 ^^^ 300)]),
      (1, 0, .pass, live.passes.get 0 ^^^ entry [(0, 500 ^^^ 420)]),
      (2, 1, .outlet, live.outlets.get 1 ^^^ entry [(16, 1)]),
      (3, 0, .tipPoint, live.tips.get 0 ^^^ entry [(40, 3)]),
      (4, 8, .station, live.stations.get 8 ^^^ entry [(8, 8 ^^^ 20)]),
      (4, 8, .station, live.stations.get 8 ^^^ entry [(16, 500 ^^^ 400)])],
    let s := lockedOut
    let payload := writePayload x.1 x.2.1 x.2.2.2
    let new := s.live.replace x.2.2.1 x.2.1.toNat (entryOfOctets ((payload.drop 2).take 32))
    s.takesRequest 3 payload ∧ s.partState = .run ∧ payload.length = 36 ∧
      namedEntry payload = some (x.2.2.1, x.2.1.toNat) ∧ s.lockedOut new x.2.2.1 x.2.1.toNat = true ∧
      s.noneStopping new x.2.2.1 x.2.1.toNat = true ∧ s.live.slotsMove new = false ∧
      new.failure = none ∧ s.bases.isSome = true ∧
      after (.writeConfig 3 payload) s (fun t => t.ctl.journal.list.getLast?.map JournalRecord.kind) =
        some (some .configChange) := by decide +kernel

/-- The payloads that the first two checks turn away, in every part state. -/
theorem witness_WriteConfigIsChecked_refused : ∀ p ∈ [PartState.starting, .safing, .run, .unconfigured],
    (inPart p).takesRequest 3 [1] ∧ (inPart p).takesRequest 3 (writePayload 1 4 0) ∧
      (writePayload 1 4 0).length = 36 ∧ namedEntry (writePayload 1 4 0) = none := by decide +kernel

/-- R4: an inventory above the new capacity is brought down to it. -/
theorem test_write_config_clamps_inventory :
    after (.writeConfig 3 (writePayload 1 0 (live.passes.get 0 ^^^ entry [(0, 500 ^^^ 420)]))) lockedOut
      (fun t => (t.ctl.pass 0).inventory) = some 420 := by decide +kernel

/-! ### Attention, regions, counters, and the records that a change journals -/

/-- R147: unread at w 3 and r 2, a record that waits for its own command alone, one that waits for room, and
nothing. -/
theorem test_attention_in_run :
    (withJournal fun j => { j with w := 3, r := 2 }).attention = true ∧
      (withJournal fun j => { j with list := [aRecord] }).attention = true ∧
      ({ withJournal fun j => { j with list := [aRecord] } with
          bulk := List.replicate 8 (0, 0) } : State).attention = false ∧
      demo.attention = false ∧ (inPart .safing).attention = true := by decide +kernel

/-- A base off its boundary, a ring that runs into the mirror, and the regions of `demo`. -/
theorem witness_LoadChecksInOrder_regions :
    live.globalCfg.regionsOk = true ∧
      (globalCfg (globalEntry ^^^ entry [(64, 1024 ^^^ 1032)])).regionsOk = false ∧
      (globalCfg (globalEntry ^^^ entry [(136, 64 ^^^ 4096)])).regionsOk = false ∧
      4096 < 1040 + 8 * 4096 := by decide +kernel

/-- The group that makes the room, and a closing and a demand write that wait for it. -/
theorem witness_StretchedWritesWaitForRoom_taken : ∀ x ∈
    [crowded.closingTxn 0 0x00CA, crowded.demandTxn 7 0x0200],
    ((∃ k, x.purpose = .closing k) ∨ ∃ k, x.purpose = .demand k) ∧ crowded.bulk = [] ∧
      crowded.takesWrites ∧ crowded.urgentFree < 12 ∧ commitSlot (.close 7 2) = some 7 ∧
      commitWord (.close 7 2) = some 0x0200 := by decide +kernel

/-- R75: 65 535 accepted records and one more. -/
theorem test_accepted_rollover :
    let x : Station := { Station.reset with accepted := 65535 }
    ((x.accept true 1 0).accepted, (x.accept true 1 0).rollover) = (0, 1) := by decide

/-- R7: the four rows of the table, with level 60 and stock 40, and sides of 9 before. -/
theorem test_sides_of_the_estimate :
    let seen (level stock : Bool) :=
      let r := { Pass.reset with
        levelFill := 60, inventory := 40, levelValid := level, settled := stock, high := 9, low := 9
        cls := .working }
      let x := (recompute demo.env 0 (demo.ctl.setPass 0 r)).1.pass 0
      (x.high, x.low, x.cls)
    seen true true = (60, 40, .cushion) ∧ seen true false = (60, 60, .working) ∧
      seen false true = (40, 40, .cushion) ∧ seen false false = (9, 9, .unknown) := by decide +kernel

/-- R10: level and stock 100 apart with a tolerance of 50; then 50 apart; then without a level. -/
theorem test_disagreement_starts_and_stops :
    let seen (fill : Nat) (valid : Bool) (since : Option Clock) :=
      let r := { Pass.reset with
        levelFill := fill, inventory := 200, levelValid := valid, settled := true, disagree := since
        reported := true }
      let x := (recompute demo.env 0 (demo.ctl.setPass 0 r)).1.pass 0
      (x.disagree, x.reported)
    (live.passCfg 0).tolerance = 50 ∧
      seen 300 true none = (some 100000, true) ∧ seen 300 true (some 7) = (some 7, true) ∧
      seen 250 true (some 7) = (none, false) ∧ seen 300 false (some 7) = (none, true) := by
  decide +kernel

/-- What a change journals, oldest first. -/
def kindsOf (c : Ctl) : List RecordKind := c.journal.list.map JournalRecord.kind

/-- R5: the clamps of the example of R5: 200 dt less 300 dt LOW by 100, and 490 dt with 20 more HIGH by 10. -/
theorem test_clamps_are_journaled :
    let low := (debit demo.env 0 300 demo.ctl).1.journal.list.head?
    let high := (credit demo.env 0 20 (withPass fun r => { r with inventory := 490 }).ctl).1.journal.list.head?
    low.map (fun x => (x.kind, x.d0, x.d1)) = some (.inventoryClamp, 2, 100) ∧
      high.map (fun x => (x.kind, x.d0, x.d1)) = some (.inventoryClamp, 1, 10) := by decide +kernel

/-- R27: SET_INVENTORY journals REBASE with the cause SET, 200 dt before and 100 dt after. -/
theorem test_set_inventory_journals_rebase :
    after (.setInventory 0 1) (withSlot 20 fun x => { x with copy := { x.copy with a := 100 } })
      (fun t => t.ctl.journal.list.head?.map fun x => (x.kind, x.d0, x.d1, x.d2)) =
        some (some (.rebase, 3, 200, 100)) := by decide +kernel

/-- R139, R140, after the example of section 6.7: two tips on two remaining, and tips on a CLOSED tip point.
-/
theorem test_tips_are_journaled :
    let seen (st : TipState) (counter : Octet) :=
      let s := withTip fun x => { x with known := true, lastCounter := 0, state := st, remaining := 2 }
      kindsOf (tipRecord s.env 0 counter 5 s.ctl).1
    seen .opened 2 = [.tipSubstituted, .permitUsed] ∧ seen .opened 1 = [] ∧
      seen .closed 1 = [.tipWithoutPermit] ∧ seen .closed 2 = [.tipSubstituted, .tipWithoutPermit] ∧
      seen .closed 4 = [.counterResync] := by decide +kernel

/-- Every table that `demo` takes names LEVEL stations; one whose pass names an OUTLET station does not. -/
theorem witness_LevelsNamed :
    demo.live.LevelsNamed ∧ State.reset.live.LevelsNamed ∧
      ¬(live.replace .pass 0 (live.passes.get 0 ^^^ entry [(218, 24)])).LevelsNamed := by decide +kernel

/-- Payloads of a wrong length, in every part state. -/
theorem witness_wrong_lengths : ∀ p ∈ [PartState.starting, .safing, .run, .unconfigured],
    (inPart p).takesRequest 3 [] ∧ (inPart p).takesRequest 3 [1, 2] ∧ ([1, 2] : List Octet) ≠ [] ∧
      ([1, 2] : List Octet).length ≠ 1 := by decide +kernel

/-! ### What an event at one member does at the others -/

/-- R123: a park timer that is due is taken by a WRITE_CONFIG that changes the park timeout, and by no other. -/
theorem test_write_config_measures_park :
    let s := { lockedOut with
      ctl := lockedOut.ctl.setTip 0
        { Tip.reset with state := .parking, park := .running 90000, known := true } }
    let seen (change : RawEntry) :=
      after (.writeConfig 3 (writePayload 3 0 (live.tips.get 0 ^^^ change))) s fun t =>
        ((t.ctl.tip 0).state, (t.ctl.tip 0).park)
    seen (entry [(40, 3)]) = some (.fault, .stopped) ∧
      seen (entry [(32, 1)]) = some (.parking, .running 90000) := by decide +kernel

/-- The row of a demand write is a well-formed command. -/
theorem test_demand_write_is_well_formed :
    (demo.busWrite 515 0 3 0x0901).wellFormed = true ∧
      (demo.busWrite 515 0 3 0x0905).wellFormed = true ∧
      (Instr.commitBadCode 0 1 9).wellFormed = false := by decide +kernel

/-- R9, R137: SET_INVENTORY at the full mark closes the OPEN tip point, with RED_HOLD in its slot. -/
theorem test_full_closes_tips :
    after (.setInventory 0 1)
      { withSlot 20 fun x => { x with copy := { x.copy with a := 450 } } with
        ctl := ((withSlot 20 fun x => { x with copy := { x.copy with a := 450 } }).ctl.setTip 0
          { demo.ctl.tip 0 with state := .opened, remaining := 3 }) }
      (fun t => ((t.ctl.pass 0).cls, (t.ctl.tip 0).state, (t.ctl.tip 0).remaining,
        (t.ctl.slot 8).wb.demand)) = some (.full, .closed, 0, some 0x0000) := by decide +kernel

/-- Outlets 0 and 1 with these records. -/
def outletsWith (x y : Outlet) (s : State) : State :=
  { s with ctl := (s.ctl.setOutlet 0 x).setOutlet 1 y }

/-- R9, R115: SET_INVENTORY below the cushion mark stops outlet 0, and outlet 1 draws on with the grant. -/
theorem test_cushion_stops_outlets :
    let o := { demo.ctl.outlet 0 with state := .flowing }
    after (.setInventory 0 1)
      (outletsWith o { o with grantHeld := true }
        (withSlot 20 fun x => { x with copy := { x.copy with a := 40 } }))
      (fun t => ((t.ctl.outlet 0).state, (t.ctl.outlet 0).stopReason, (t.ctl.slot 0).wb.demand,
        (t.ctl.outlet 1).state)) = some (.stopping, some .cushion, some 0x0000, .flowing) := by
  decide +kernel

/-- A wet pass: outlet 0 waits to start its next cycle while outlet 1 draws. -/
def startWaits : State :=
  outletsWith { demo.ctl.outlet 0 with state := .indexing, startPending := true, remaining := 2 }
    { demo.ctl.outlet 1 with state := .flowing, tag := some 1 }
    (withPass fun r => { r with wetActive := true, hostWet := true })

/-- R107: the start is attempted again as outlet 1 leaves FLOWING. -/
theorem test_start_is_attempted_again :
    after (.close 1 2) startWaits (fun t => ((t.ctl.outlet 0).state, (t.ctl.outlet 1).state)) =
      some (.opening, .stopping) := by decide +kernel

/-- R125, R128: a BOOM_WORK at a related tip point refuses the deferred PERMIT, FALL_PATH. -/
theorem test_related_boom_refuses_permit :
    after (.boomWork 1 5) (waiting 8 .grizzlyOccupied demo)
      (fun t => ((t.ctl.tip 1).state, (t.ctl.slot 8).holder, (t.ctl.slot 8).wb.detail)) =
      some (.breaking, none, some 19) := by decide +kernel

/-- News of FULL and of CUSHION, and members that they act on, at and beside the marks. -/
theorem witness_ChuteNoFlowHangsUpRunningPass_news :
    let f (value : Nat) (c : Ctl) := recompute demo.env 0
      (settleInventory demo.env 0 3 value c)
    (f 400 demo.ctl).2.full = true ∧ (f 399 demo.ctl).2.full = false ∧
      ((f 400 demo.ctl).1.pass 0).cls = .full ∧ (f 49 demo.ctl).2.cushion = true ∧
      (f 50 demo.ctl).2.cushion = false ∧ (f 49 demo.ctl).2.hangup = false ∧
      (f 49 demo.ctl).2.lockout = false ∧ (f 49 demo.ctl).2.touched = true ∧
      0 ∈ demo.live.outletsOf 0 ∧ 0 ∈ demo.live.tipsOf 0 ∧ startWaits.ctl.waits 0 = true ∧
      startWaits.ctl.waits 1 = false := by decide +kernel

/-- A member that waits alone, and an event of each kind that reaches it: for the cycle start of outlet 0 one
of outlet 1, for the PERMIT of tip point 0 one of tip point 1. -/
theorem witness_DeferralExpires_others :
    let e := startWaits.env
    let c := startWaits.ctl
    let d := (waiting 8 .grizzlyOccupied demo).ctl
    let close : Commit := { code := 0, tag := 2, sp := SetPoints.zero }
    let work : Commit := { code := 2, tag := 2, sp := SetPoints.zero }
    (e.outletCfg 0).pass = 0 ∧ (e.outletCfg 1).pass = 0 ∧ (c.outlet 0).startPending = true ∧
      (c.slot 0).holder = none ∧ (∀ m ∈ e.live.outletsOf 0, m ≠ 0 → c.waits m = false) ∧
      (c.outlet 1).state.drawing = true ∧
      ((judgeOutlet e 1 close c).outlet 1).state.drawing = false ∧
      (judgeOutlet e 1 close c).waits 1 = false ∧
      ((timeoutStop e 1 .noFlow .noFlow c).outlet 1).state.drawing = false ∧
      (e.tipCfg 0).pass = 0 ∧ (e.tipCfg 1).pass = 0 ∧ (d.slot 8).holder.isSome = true ∧
      (∀ u ∈ e.live.tipsOf 0, u ≠ 0 → (d.slot (tipSlot u)).holder = none) ∧
      ((judgeTip e 1 work d).tip 1).state = .breaking ∧
      ((judgeTip e 1 work d).slot 9).holder = none := by decide +kernel

end Sys2Proof.Machine.Tests
end

section
/-! Proofs: the reset input, the millisecond and the attention line (R1, R52, R147, R158). -/

namespace Sys2Proof.Machine

/-! ### The transaction held when a reset takes effect (R52) -/

@[simp] theorem State.completeHeld_mem (s : State) : s.completeHeld.mem = s.mem := by
  unfold State.completeHeld
  split
  · rfl
  · split <;> rfl

theorem State.completeHeld_busReady {s : State} {x : Txn} (held : s.port = some x) :
    s.completeHeld.busReady = true := by
  unfold State.completeHeld
  simp only [held]
  split <;> rfl

theorem State.completeHeld_busData_of_read {s : State} {x : Txn} (held : s.port = some x)
    (read : x.write = false) : s.completeHeld.busData = Memory.readWord s.mem x.addr := by
  simp [State.completeHeld, held, read]

/-! ### The three commands, where their event can happen -/

theorem exec_fullReset_of_released {s : State} (released : s.resetAsserted = false) :
    exec .fullReset s =
      .next { s.completeHeld.cleared with resetAsserted := true, loading := false } := by
  simp [exec, execFullReset, State.fullReset, released]

theorem exec_fullResetEnd_of_asserted {s : State} (asserted : s.resetAsserted = true) :
    exec .fullResetEnd s = .next s.cleared := by
  simp [exec, execFullResetEnd, State.fullResetEnd, asserted]

theorem exec_msTick_of_released {s : State} (released : s.resetAsserted = false) :
    exec .msTick s = .next { s with clock := s.clock + 1 } := by
  simp [exec, execMsTick, quiet, released]

/-! ### The attention line (R147) -/

theorem State.attention_of_asserted_or_outside_run {s : State}
    (h : s.resetAsserted = true ∨ s.partState ≠ .run) : s.attention = true := by
  rcases h with asserted | outside
  · simp [State.attention, asserted]
  · simp [State.attention, outside]

/-- The free entries of the bulk queue are a difference that stops at 0; as a record takes 9 of them,
room for it means that the entries in the queue and those to come fit the 16. -/
theorem State.le_bulkFree_iff (s : State) {n : Nat} (pos : 0 < n) :
    n ≤ s.bulkFree ↔ s.bulk.length + n ≤ 16 := by
  unfold State.bulkFree
  omega

/-- R144, R145, R148: what a record that waits only for its own command needs (log 45). -/
theorem State.recordDue_iff (s : State) :
    s.recordDue = true ↔
      (s.ctl.journal.list ≠ [] ∨ 0 < s.ctl.journal.lost) ∧ s.unread + 2 ≤ s.regions.records ∧
        s.bulk.length + 9 + 2 * s.ctl.journal.zeroDue.length ≤ 16 := by
  have room := s.le_bulkFree_iff (n := 9 + 2 * s.ctl.journal.zeroDue.length) (by omega)
  simp [State.recordDue, State.ringFree, room, and_assoc, Nat.add_assoc]

theorem State.attention_iff_in_run {s : State} (released : s.resetAsserted = false)
    (run : s.partState = .run) :
    s.attention = true ↔ 0 < s.unread ∨ s.recordDue = true := by
  simp [State.attention, released, run]

/-! ### The statement -/

/-- Settles O4: the reset clauses from the cleared state and the transaction completed before it, the
millisecond from its command, the attention line from what a due record needs. -/
theorem resetAndClock : Obligations.ResetAndClock := by
  unfold Obligations.ResetAndClock
  refine ⟨fun s => ⟨fun released => ?assertion, fun asserted => ?release⟩,
    fun s released => ?millisecond, fun s => ?attention⟩
  case assertion =>
    refine ⟨_, exec_fullReset_of_released released, rfl, s.completeHeld_mem, rfl, rfl, rfl, rfl, rfl,
      rfl, rfl, rfl, State.attention_of_asserted_or_outside_run (.inl rfl), fun x held => ?_⟩
    exact ⟨State.completeHeld_busReady held, State.completeHeld_busData_of_read held⟩
  case release =>
    exact ⟨_, exec_fullResetEnd_of_asserted asserted, rfl, rfl, rfl, rfl, rfl, rfl, rfl, rfl, rfl,
      rfl, rfl⟩
  case millisecond =>
    refine ⟨exec_msTick_of_released released, fun last => ?_⟩
    rw [last]
    decide
  case attention =>
    refine ⟨State.attention_of_asserted_or_outside_run, fun released run => ?_⟩
    exact (State.attention_iff_in_run released run).trans (or_congr_right s.recordDue_iff)

end Sys2Proof.Machine
end

section
/-! Proofs: what the controllers can do to the state of an outlet and of a tip point. A property of `Ctl`
that survives the guarded moves below survives every operation of the controllers. -/

namespace Sys2Proof.Machine

/-! ### The guarded moves -/

/-- An order is running after the change only where one was running, or on a configured outlet of a RUNNING
pass (R97, R107). -/
def OrderMove (l : Live) (c : Ctl) (n : Fin 8) (o : Outlet) : Prop :=
  o.state.active = true → (c.outlet n).state.active = true ∨
    ((l.outletCfg n).present = true ∧ (c.pass (l.outletCfg n).pass).state = .running)

/-- What a configured tip point needs to become OPEN (R127) or BREAKING (R130). -/
structure TipAdvance (l : Live) (c : Ctl) (t : Fin 12) (x : TipState) : Prop where
  present : (l.tipCfg t).present = true
  opens : x = .opened → (c.pass (l.tipCfg t).pass).state = .running ∧
    ∀ u, l.related t u = true → (c.tip u).state ≠ .breaking
  breaks : x = .breaking → (c.pass (l.tipCfg t).pass).state ≠ .lockout ∧
    ∀ u, l.related t u = true → (c.tip u).state ≠ .opened

/-- A tip point is OPEN or BREAKING after the change only where it was, or where it may become so. -/
def TipMove (l : Live) (c : Ctl) (t : Fin 12) (x : Tip) : Prop :=
  x.state.given = true → x.state = (c.tip t).state ∨ TipAdvance l c t x.state

theorem OrderMove.of_inactive {l : Live} {c : Ctl} {n : Fin 8} {o : Outlet}
    (h : o.state.active = false) : OrderMove l c n o := fun ha => by simp [h] at ha

theorem OrderMove.of_same {l : Live} {c : Ctl} {n : Fin 8} {o : Outlet}
    (h : o.state = (c.outlet n).state) : OrderMove l c n o := fun ha => .inl (h ▸ ha)

theorem OrderMove.of_active {l : Live} {c : Ctl} {n : Fin 8} {o : Outlet}
    (h : (c.outlet n).state.active = true) : OrderMove l c n o := fun _ => .inl h

theorem TipMove.of_same {l : Live} {c : Ctl} {t : Fin 12} {x : Tip}
    (h : x.state = (c.tip t).state) : TipMove l c t x := fun _ => .inl h

theorem TipMove.of_not_given {l : Live} {c : Ctl} {t : Fin 12} {x : Tip}
    (h : x.state.given = false) : TipMove l c t x := fun hg => by simp [h] at hg

/-- A property that survives what a settling of the members does: journal requests, changes of the members'
own slots, the guarded moves, and the taking of a grant (R98). -/
structure SettleClosed (l : Live) (P : Ctl → Prop) : Prop where
  journal : ∀ j c, P c → P { c with journal := j }
  free : ∀ c, P c → P { c with freeCount := c.freeCount + 1 }
  slot : ∀ (k : Fin 24) (f : CommandSlot → CommandSlot) c, k.val < 20 →
    (∀ x, (f x).staged = x.staged) → P c → P (c.updSlot k f)
  grant : ∀ p c, P c → P (c.setPass p { c.pass p with grant := false })
  outlet : ∀ n o c, OrderMove l c n o → P c → P (c.setOutlet n o)
  tip : ∀ t x c, TipMove l c t x → P c → P (c.setTip t x)

/-- Also the start of the dwell interval (R16). -/
structure DeliveryClosed (l : Live) (P : Ctl → Prop) : Prop extends SettleClosed l P where
  timer : ∀ p t c, P c → P (c.setPass p { c.pass p with dwellTimer := t })

/-- A property that survives every change of slots and journal, every change of a pass record that keeps the
pass state, and the guarded moves. -/
structure MembersClosed (l : Live) (P : Ctl → Prop) : Prop where
  other : ∀ c d, d.passes = c.passes → d.outlets = c.outlets → d.tips = c.tips → P c → P d
  pass : ∀ p r c, r.state = (c.pass p).state → P c → P (c.setPass p r)
  outlet : ∀ n o c, OrderMove l c n o → P c → P (c.setOutlet n o)
  tip : ∀ t x c, TipMove l c t x → P c → P (c.setTip t x)

section
variable {l : Live} {P : Ctl → Prop} (h : MembersClosed l P)
include h

theorem MembersClosed.toPassClosed : PassClosed P where
  report _ _ _ _ _ _ _ _ hc := h.other _ _ (by simp) (by simp) (by simp) hc
  slot _ _ c _ hc := h.other c _ rfl rfl rfl hc
  pass _ _ _ hr hc := h.pass _ _ _ hr hc

theorem MembersClosed.toDelivery : DeliveryClosed l P where
  journal _ c hc := h.other c _ rfl rfl rfl hc
  free c hc := h.other c _ rfl rfl rfl hc
  slot _ _ c _ _ hc := h.other c _ rfl rfl rfl hc
  grant _ _ hc := h.pass _ _ _ rfl hc
  timer _ _ _ hc := h.pass _ _ _ rfl hc
  outlet := h.outlet
  tip := h.tip

theorem MembersClosed.updSlot {k : Fin 24} {f : CommandSlot → CommandSlot} {c : Ctl} (hc : P c) :
    P (c.updSlot k f) := h.other c _ rfl rfl rfl hc

theorem MembersClosed.report {e : Env} {kd : RecordKind} {j a b d g : Nat} {c : Ctl} (hc : P c) :
    P (c.report e kd j a b d g) := h.toPassClosed.report _ _ _ _ _ _ _ _ hc

end

/-! ### Slots, lists of members, and what the checks find -/

section
variable {e : Env}

theorem outletSlot_lt (n : Fin 8) : (outletSlot n).val < 20 := by
  have := n.isLt
  simp only [outletSlot]
  omega

theorem tipSlot_lt (t : Fin 12) : (tipSlot t).val < 20 := by
  have := t.isLt
  simp only [tipSlot]
  omega

/-- A table of checks is passed where the first check does not fail and the rest is passed. -/
theorem refuse_else_eq_pass {a : Prop} [Decidable a] {r : Reason} {j : Judgement} :
    (if a then .refuse r else j) = .pass ↔ ¬a ∧ j = .pass := by
  by_cases ha : a <;> simp [ha]

theorem running_of_not_lockout_not_hangup {s : PassState} (hl : s ≠ .lockout) (hh : s ≠ .hangup) :
    s = .running := by cases s <;> simp_all

/-- R97: a DRAW passes its checks only over a RUNNING pass. -/
theorem running_of_drawCheck_pass {n : Fin 8} {cm : Commit} {c : Ctl}
    (hp : drawCheck e n cm c = .pass) : (c.pass (e.outletCfg n).pass).state = .running := by
  simp only [drawCheck, refuse_else_eq_pass] at hp
  obtain ⟨notLockout, -, notHangup, -⟩ := hp
  exact running_of_not_lockout_not_hangup notLockout notHangup

theorem takeGrant_pass_state (p q : Fin 4) (c : Ctl) :
    ((takeGrant p c).1.pass q).state = (c.pass q).state := by
  simp only [takeGrant]
  split
  · rw [Ctl.pass_setPass]; split
    · next hq => subst hq; rfl
    · rfl
  · rfl

/-- R133, R134: PARKING, or CLOSED where the boom is at rest. -/
theorem enterParking_not_given (t : Fin 12) (x : Tip) : (enterParking e t x).state.given = false := by
  unfold enterParking
  split <;> rfl

/-- R125: no tip point in the fall relation is in this state. -/
theorem not_relatedIn_iff {t : Fin 12} {x : TipState} {c : Ctl} :
    c.relatedIn e t x = false ↔ ∀ u, e.live.related t u = true → (c.tip u).state ≠ x := by
  simp [Ctl.relatedIn]

/-- R127: what a PERMIT that passes its checks has found. -/
theorem permitCheck_pass {t : Fin 12} {c : Ctl} (hp : permitCheck e t c = .pass) :
    (c.pass (e.tipCfg t).pass).state = .running ∧ c.relatedIn e t .breaking = false := by
  simp only [permitCheck, refuse_else_eq_pass, Bool.not_eq_true] at hp
  obtain ⟨notLockout, -, -, notHangup, -, -, -, clear, -⟩ := hp
  exact ⟨running_of_not_lockout_not_hangup notLockout notHangup, clear⟩

/-- A fold keeps what each of its steps keeps at the elements of the list. -/
theorem foldl_keeps_mem {α β : Type} {Q : β → Prop} {f : β → α → β} (xs : List α)
    (hf : ∀ a ∈ xs, ∀ b, Q b → Q (f b a)) : ∀ b, Q b → Q (xs.foldl f b) := by
  induction xs with
  | nil => exact fun b hb => hb
  | cons a rest ih =>
    exact fun b hb => ih (fun x hx => hf x (by simp [hx])) _ (hf a (by simp) b hb)

theorem mem_outletsOf {l : Live} {p : Fin 4} {n : Fin 8} :
    n ∈ l.outletsOf p ↔ (l.outletCfg n).present = true ∧ (l.outletCfg n).pass = p := by
  simp [Live.outletsOf]

theorem mem_tipsOf {l : Live} {p : Fin 4} {t : Fin 12} :
    t ∈ l.tipsOf p ↔ (l.tipCfg t).present = true ∧ (l.tipCfg t).pass = p := by
  simp [Live.tipsOf]

theorem mem_insertByKey {key : Fin 8 → Nat} {n m : Fin 8} {ns : List (Fin 8)} :
    m ∈ insertByKey key n ns ↔ m = n ∨ m ∈ ns := by
  induction ns with
  | nil => simp [insertByKey]
  | cons a rest ih =>
    unfold insertByKey
    split
    · simp
    · simp [ih, or_left_comm]

theorem mem_sortByKey {key : Fin 8 → Nat} {m : Fin 8} {ns : List (Fin 8)} :
    m ∈ sortByKey key ns ↔ m ∈ ns := by
  induction ns with
  | nil => rfl
  | cons a rest ih => simp [sortByKey, mem_insertByKey, ih]

/-- Log 11: the free order visits the outlets that wait and no other. -/
theorem mem_takingOrder {c : Ctl} {m : Fin 8} {ns : List (Fin 8)} :
    m ∈ takingOrder c ns ↔ m ∈ ns := by
  unfold takingOrder
  split
  · exact mem_sortByKey
  · rfl

end

/-! ### A settling of the members -/

section
variable {e : Env} {P : Ctl → Prop} (h : SettleClosed e.live P)
include h

theorem SettleClosed.report {kd : RecordKind} {j a b d g : Nat} {c : Ctl} (hc : P c) :
    P (c.report e kd j a b d g) := by
  unfold Ctl.report
  split
  · exact h.journal _ _ hc
  · exact hc

section
variable {k : Fin 24} {c : Ctl} (hk : k.val < 20)
include hk

theorem SettleClosed.ownDemand {code : Octet} (hc : P c) : P (c.ownDemand k code) :=
  h.slot _ _ _ hk (fun _ => rfl) hc

theorem SettleClosed.accept {sp : SetPoints} {code tag : Octet} {v : Verdict} {detail : Octet}
    (hc : P c) : P (c.accept k sp code tag v detail) := h.slot _ _ _ hk (fun _ => rfl) hc

theorem SettleClosed.refuse {tag : Octet} {r : Reason} (hc : P c) : P (c.refuse k tag r) :=
  h.slot _ _ _ hk (fun _ => rfl) hc

theorem SettleClosed.defer {cm : Commit} {r : Reason} {limit : Nat} (hc : P c) :
    P (c.defer e k cm r limit) := by
  unfold Ctl.defer
  split
  · exact h.refuse hk hc
  · exact h.slot _ _ _ hk (fun _ => rfl) hc

theorem SettleClosed.clearHolder (hc : P c) : P (c.clearHolder k) :=
  h.slot _ _ _ hk (fun _ => rfl) hc

theorem SettleClosed.refuseDeferred {tag : Octet} {r : Reason} (hc : P c) :
    P (c.refuseDeferred k tag r) := h.refuse hk (h.clearHolder hk hc)

theorem SettleClosed.keepDeferred {d : Deferred} {r : Reason} (hc : P c) :
    P (c.keepDeferred k d r) := by
  unfold Ctl.keepDeferred
  split
  · exact hc
  · exact h.slot _ _ _ hk (fun _ => rfl) hc

end

theorem SettleClosed.takeGrant {p : Fin 4} {c : Ctl} (hc : P c) : P (Machine.takeGrant p c).1 := by
  simp only [Machine.takeGrant]
  split
  · exact h.grant _ _ hc
  · exact hc

theorem SettleClosed.endOrder {n : Fin 8} {r : EndReason} {c : Ctl} (hc : P c) :
    P (Machine.endOrder e n r c) := h.report (h.outlet _ _ _ (.of_inactive rfl) hc)

theorem SettleClosed.executeDraw {n : Fin 8} {cm : Commit} {c : Ctl}
    (present : (e.outletCfg n).present = true)
    (running : (c.pass (e.outletCfg n).pass).state = .running) (hc : P c) :
    P (Machine.executeDraw e n cm c) := by
  refine h.accept (outletSlot_lt _) (h.outlet _ _ _ (fun _ => .inr ⟨present, ?_⟩)
    (h.takeGrant hc))
  exact (takeGrant_pass_state ..).trans running

theorem SettleClosed.rejudgeDraw {n : Fin 8} {c : Ctl} (present : (e.outletCfg n).present = true)
    (hc : P c) : P (Machine.rejudgeDraw e n c) := by
  unfold Machine.rejudgeDraw
  split
  · exact hc
  · split
    · next hp =>
      exact h.executeDraw present (running_of_drawCheck_pass hp) (h.clearHolder (outletSlot_lt _) hc)
    · exact h.refuseDeferred (outletSlot_lt _) hc
    · exact h.keepDeferred (outletSlot_lt _) hc

/-- R107: a cycle starts only over a RUNNING pass; the outlet is configured, or holds its order still. -/
theorem SettleClosed.cycleStart {n : Fin 8} {c : Ctl}
    (may : (e.outletCfg n).present = true ∨ (c.outlet n).state.active = true) (hc : P c) :
    P (Machine.cycleStart e n c) := by
  simp only [Machine.cycleStart]
  split
  · exact h.endOrder hc
  next notLockout =>
  split
  · exact h.endOrder hc
  next notHangup =>
  have running := running_of_not_lockout_not_hangup notLockout notHangup
  split
  · exact h.endOrder hc
  split
  · exact h.outlet _ _ _ (.of_same rfl) hc
  · unfold beginCycle
    refine h.slot _ _ _ (outletSlot_lt _) (fun _ => rfl) (h.outlet _ _ _ (fun _ => ?_) hc)
    exact may.elim (fun hp => .inr ⟨hp, running⟩) .inl

theorem SettleClosed.visitOutlet {n : Fin 8} {c : Ctl} (present : (e.outletCfg n).present = true)
    (hc : P c) : P (Machine.visitOutlet e c n) := by
  unfold Machine.visitOutlet
  exact keeps_ite (h.cycleStart (.inl present) hc) (h.rejudgeDraw present hc)

theorem SettleClosed.executePermit {t : Fin 12} {cm : Commit} {c : Ctl}
    (present : (e.tipCfg t).present = true) (hp : permitCheck e t c = .pass) (hc : P c) :
    P (Machine.executePermit t cm c) := by
  obtain ⟨running, clear⟩ := permitCheck_pass hp
  refine h.accept (tipSlot_lt _) (h.tip _ _ _ (fun _ => .inr ⟨present, fun _ => ?_, nofun⟩) hc)
  exact ⟨running, not_relatedIn_iff.1 clear⟩

theorem SettleClosed.rejudgePermit {t : Fin 12} {c : Ctl} (present : (e.tipCfg t).present = true)
    (hc : P c) : P (Machine.rejudgePermit e t c) := by
  unfold Machine.rejudgePermit
  split
  · exact hc
  · split
    · next hp => exact h.executePermit present hp (h.slot _ _ _ (tipSlot_lt _) (fun _ => rfl) hc)
    · exact h.refuseDeferred (tipSlot_lt _) hc
    · exact h.keepDeferred (tipSlot_lt _) hc

theorem SettleClosed.settleOutlets {p : Fin 4} {c : Ctl} (hc : P c) :
    P (Machine.settleOutlets e p c) := by
  have visits (d : Ctl) := foldl_keeps_mem (Q := P) (f := Machine.visitOutlet e)
    (takingOrder c ((e.live.outletsOf p).filter c.waits)) (fun n hn b hb => by
      have hn' := (List.mem_filter.1 (mem_takingOrder.1 hn)).1
      exact h.visitOutlet (mem_outletsOf.1 hn').1 hb) d
  have drawn (ns : List (Fin 8)) : P (drawOrder c ns) := by
    unfold drawOrder
    split
    · exact h.free _ hc
    · exact hc
  exact visits _ (visits _ (drawn _))

theorem SettleClosed.settleTips {p : Fin 4} {c : Ctl} (hc : P c) :
    P (Machine.settleTips e p c) :=
  foldl_keeps_mem _ (fun _ ht _ hb => h.rejudgePermit (mem_tipsOf.1 ht).1 hb) _ hc

theorem SettleClosed.settle {p : Fin 4} {c : Ctl} (hc : P c) : P (Machine.settle e p c) :=
  h.settleTips (h.settleOutlets hc)

end

section
variable {e : Env} {P : Ctl → Prop} (h : DeliveryClosed e.live P)
include h

/-! ### One outlet -/

theorem DeliveryClosed.flowLeft {p : Fin 4} {c : Ctl} (hc : P c) : P (Machine.flowLeft e p c) := by
  unfold Machine.flowLeft
  split
  · exact hc
  · exact h.timer _ _ _ hc

theorem DeliveryClosed.stopOutlet {n : Fin 8} {r : EndReason} {c : Ctl} (hc : P c) :
    P (Machine.stopOutlet e n r c) := by
  have stopped (o : Outlet) (ho : o.state = .stopping) : P (c.setOutlet n o) :=
    h.outlet _ _ _ (.of_inactive (by rw [ho]; rfl)) hc
  have demanded (b : Bool) (d : Ctl) (hd : P d) :
      P (if b then d.ownDemand (outletSlot n) 0 else d) := keeps_ite (h.slot _ _ _ (outletSlot_lt _) (fun _ => rfl) hd) hd
  simp only [Machine.stopOutlet]
  split
  · split
    · exact h.flowLeft (demanded _ _ (stopped _ rfl))
    · exact demanded _ _ (stopped _ rfl)
  · exact hc

theorem DeliveryClosed.faultOutlet {n : Fin 8} {c : Ctl} (hc : P c) :
    P (Machine.faultOutlet e n c) := h.report (h.outlet _ _ _ (.of_inactive rfl) hc)

theorem DeliveryClosed.preClose {n : Fin 8} {c : Ctl} (active : (c.outlet n).state.active = true)
    (hc : P c) : P (Machine.preClose e n c) :=
  h.flowLeft (h.ownDemand (outletSlot_lt _) (h.outlet _ _ _ (.of_active active) hc))

theorem DeliveryClosed.closeCycle {n : Fin 8} {c : Ctl} (active : (c.outlet n).state.active = true)
    (hc : P c) : P (Machine.closeCycle e n c) := by
  have counted := fun o => h.outlet n o c (.of_active active) hc
  simp only [Machine.closeCycle]
  repeat' split
  · exact h.endOrder (counted _)
  · exact h.endOrder (counted _)
  · exact h.outlet _ _ _ (.of_active (by simpa using active)) (counted _)

theorem DeliveryClosed.indexRecord {n : Fin 8} {i : Nat} {c : Ctl}
    (active : (c.outlet n).state.active = true) (hc : P c) : P (Machine.indexRecord e n i c) := by
  simp only [Machine.indexRecord]
  split
  · exact h.outlet _ _ _ (.of_same rfl) hc
  · split
    · exact h.cycleStart (.inr active) hc
    · exact hc
  · exact hc

theorem DeliveryClosed.flowBegins {n : Fin 8} {c : Ctl} (hc : P c) :
    P (Machine.flowBegins e n c) := by
  simp only [Machine.flowBegins]
  repeat' split
  all_goals first | exact h.outlet _ _ _ (.of_same rfl) hc | exact hc

theorem DeliveryClosed.receiverLost {n : Fin 8} {c : Ctl} (hc : P c) :
    P (Machine.receiverLost e n c) := by
  unfold Machine.receiverLost
  exact keeps_ite (h.stopOutlet hc) hc

theorem DeliveryClosed.feedbackLost {n : Fin 8} {c : Ctl} (hc : P c) :
    P (Machine.feedbackLost e n c) := h.stopOutlet (h.outlet _ _ _ (.of_same rfl) hc)

theorem DeliveryClosed.timeoutStop {n : Fin 8} {r : EndReason} {k : FaultCode} {c : Ctl}
    (hc : P c) : P (Machine.timeoutStop e n r k c) := h.stopOutlet (h.outlet _ _ _ (.of_same rfl) hc)

theorem DeliveryClosed.judgeDraw {n : Fin 8} {cm : Commit} {c : Ctl}
    (present : (e.outletCfg n).present = true) (hc : P c) : P (Machine.judgeDraw e n cm c) := by
  unfold Machine.judgeDraw
  split
  · next hp => exact h.executeDraw present (running_of_drawCheck_pass hp) hc
  · exact h.refuse (outletSlot_lt _) hc
  · exact h.defer (outletSlot_lt _) hc

theorem DeliveryClosed.judgeAdjust {n : Fin 8} {cm : Commit} {c : Ctl} (hc : P c) :
    P (Machine.judgeAdjust e n cm c) := by
  simp only [Machine.judgeAdjust]
  split
  · exact h.refuse (outletSlot_lt _) hc
  split
  · exact h.refuse (outletSlot_lt _) hc
  · exact h.accept (outletSlot_lt _) (h.outlet _ _ _ (.of_same rfl) hc)

theorem DeliveryClosed.acceptOutlet {n : Fin 8} {tag : Octet} {c : Ctl} (hc : P c) :
    P (Machine.acceptOutlet n tag c) := h.accept (outletSlot_lt _) hc

theorem DeliveryClosed.judgeStopAfter {n : Fin 8} {tag : Octet} {c : Ctl} (hc : P c) :
    P (Machine.judgeStopAfter e n tag c) := by
  simp only [Machine.judgeStopAfter]
  split
  all_goals
    first
      | exact h.acceptOutlet (h.outlet _ _ _ (.of_same rfl) hc)
      | exact h.acceptOutlet (h.endOrder hc)
      | exact h.refuse (outletSlot_lt _) hc

theorem DeliveryClosed.judgeClose {n : Fin 8} {tag : Octet} {c : Ctl} (hc : P c) :
    P (Machine.judgeClose e n tag c) := by
  simp only [Machine.judgeClose]
  repeat' split
  all_goals
    first
      | exact h.acceptOutlet hc
      | exact h.acceptOutlet (h.stopOutlet hc)
      | exact h.acceptOutlet (h.endOrder hc)
      | exact h.refuse (outletSlot_lt _) hc
      | exact h.acceptOutlet (h.outlet _ _ _ (.of_same rfl) hc)
      | exact h.acceptOutlet (h.outlet _ _ _ (.of_inactive rfl) hc)

theorem DeliveryClosed.judgeForceClose {n : Fin 8} {tag : Octet} {c : Ctl} (hc : P c) :
    P (Machine.judgeForceClose e n tag c) := by
  simp only [Machine.judgeForceClose]
  repeat' split
  all_goals
    first
      | exact h.acceptOutlet hc
      | exact h.acceptOutlet (h.stopOutlet hc)
      | exact h.acceptOutlet (h.outlet _ _ _ (.of_inactive rfl) hc)

/-- R96: DRAW alone starts an order, and it asks for a configured outlet. -/
theorem DeliveryClosed.judgeOutlet {n : Fin 8} {cm : Commit} {c : Ctl} (hc : P c) :
    P (Machine.judgeOutlet e n cm c) := by
  unfold Machine.judgeOutlet
  split
  · exact h.refuse (outletSlot_lt _) hc
  split
  · exact h.judgeForceClose hc
  split
  · exact h.refuse (outletSlot_lt _) hc
  next configured =>
  split
  · exact h.judgeClose hc
  split
  · exact h.judgeDraw (by simpa using configured) hc
  split
  · exact h.judgeAdjust hc
  · exact h.judgeStopAfter hc

/-! ### One tip point -/

theorem DeliveryClosed.withdrawTip {t : Fin 12} {c : Ctl} (hc : P c) :
    P (Machine.withdrawTip t c) := by
  unfold Machine.withdrawTip
  split
  · exact h.slot _ _ _ (tipSlot_lt _) (fun _ => rfl) (h.tip _ _ _ (.of_not_given rfl) hc)
  · exact hc

theorem DeliveryClosed.parkTip {t : Fin 12} {c : Ctl} (hc : P c) : P (Machine.parkTip e t c) := by
  unfold Machine.parkTip
  split
  · exact h.slot _ _ _ (tipSlot_lt _) (fun _ => rfl) (h.tip _ _ _ (.of_not_given (enterParking_not_given ..)) hc)
  · exact hc

theorem DeliveryClosed.boomRests {t : Fin 12} {c : Ctl} (hc : P c) : P (Machine.boomRests t c) := by
  simp only [Machine.boomRests]
  split <;> first | exact h.tip _ _ _ (.of_not_given rfl) hc | exact hc

theorem DeliveryClosed.boomLeaves {t : Fin 12} {c : Ctl} (hc : P c) :
    P (Machine.boomLeaves e t c) := by
  have moved := h.tip t { c.tip t with state := .parking, remaining := 0, park := .running e.clock } c
    (.of_not_given rfl) hc
  simp only [Machine.boomLeaves]
  split <;> first | exact h.report (h.slot _ _ _ (tipSlot_lt _) (fun _ => rfl) moved) | exact h.report moved | exact hc

theorem DeliveryClosed.tipLost {t : Fin 12} {c : Ctl} (hc : P c) : P (Machine.tipLost e t c) :=
  h.parkTip (h.withdrawTip (h.tip _ _ _ (.of_same rfl) hc))

theorem DeliveryClosed.tipRestored {t : Fin 12} {c : Ctl} (hc : P c) :
    P (Machine.tipRestored e t c) := by
  simp only [Machine.tipRestored]
  split <;> first | exact h.tip _ _ _ (.of_same rfl) hc | exact hc

theorem DeliveryClosed.parkExpires {t : Fin 12} {c : Ctl} (hc : P c) :
    P (Machine.parkExpires e t c) := by
  simp only [Machine.parkExpires]
  split <;> first | exact h.report (h.tip _ _ _ (.of_not_given rfl) hc) | exact hc

theorem DeliveryClosed.acceptTip {t : Fin 12} {tag : Octet} {c : Ctl} (hc : P c) :
    P (Machine.acceptTip t tag c) := h.accept (tipSlot_lt _) hc

theorem DeliveryClosed.judgeWithdraw {t : Fin 12} {tag : Octet} {c : Ctl} (hc : P c) :
    P (Machine.judgeWithdraw t tag c) := by
  unfold Machine.judgeWithdraw
  split
  · exact h.acceptTip (h.tip _ _ _ (.of_not_given rfl) hc)
  · exact h.acceptTip hc

theorem DeliveryClosed.judgePermit {t : Fin 12} {cm : Commit} {c : Ctl}
    (present : (e.tipCfg t).present = true) (hc : P c) : P (Machine.judgePermit e t cm c) := by
  unfold Machine.judgePermit
  split
  · next hp => exact h.executePermit present hp hc
  · exact h.refuse (tipSlot_lt _) hc
  · exact h.defer (tipSlot_lt _) hc

theorem DeliveryClosed.judgeBoomWork {t : Fin 12} {tag : Octet} {c : Ctl}
    (present : (e.tipCfg t).present = true) (hc : P c) : P (Machine.judgeBoomWork e t tag c) := by
  have refused (r : Reason) := h.refuse (tipSlot_lt t) (tag := tag) (r := r) hc
  simp only [Machine.judgeBoomWork]
  split
  · exact refused _
  next notLockout =>
  split
  · exact refused _
  split
  · exact h.acceptTip hc
  split
  · exact refused _
  split
  · exact refused _
  next clear =>
  split
  · exact refused _
  · refine h.acceptTip (h.tip _ _ _ (fun _ => .inr ⟨present, nofun, fun _ => ⟨notLockout, ?_⟩⟩) hc)
    exact not_relatedIn_iff.1 (by simpa using clear)

theorem DeliveryClosed.judgeBoomPark {t : Fin 12} {tag : Octet} {c : Ctl} (hc : P c) :
    P (Machine.judgeBoomPark e t tag c) := by
  unfold Machine.judgeBoomPark
  split
  · exact h.acceptTip (h.tip _ _ _ (.of_not_given (enterParking_not_given ..)) hc)
  · exact h.acceptTip hc

/-- R126: every order that can move a tip point to OPEN or BREAKING asks for a configured one. -/
theorem DeliveryClosed.judgeTip {t : Fin 12} {cm : Commit} {c : Ctl} (hc : P c) :
    P (Machine.judgeTip e t cm c) := by
  unfold Machine.judgeTip
  split
  · exact h.refuse (tipSlot_lt _) hc
  split
  · exact h.refuse (tipSlot_lt _) hc
  next configured =>
  split
  · exact h.refuse (tipSlot_lt _) hc
  split
  · exact h.judgeWithdraw hc
  next notWithdraw =>
  have present : (e.tipCfg t).present = true := by simpa using fun hn => configured ⟨notWithdraw, hn⟩
  split
  · exact h.judgePermit present hc
  split
  · exact h.judgeBoomWork present hc
  · exact h.judgeBoomPark hc

theorem DeliveryClosed.permitAccounting {t : Fin 12} {n m : Nat} {c : Ctl} (hc : P c) :
    P (Machine.permitAccounting e t n m c) := by
  simp only [Machine.permitAccounting]
  repeat' split
  · exact hc
  · exact h.tip _ _ _ (.of_same rfl) hc
  · exact h.report (h.slot _ _ _ (tipSlot_lt _) (fun _ => rfl) (h.tip _ _ _ (.of_not_given rfl) hc))
  · exact h.report hc

/-! ### The members of a pass, and events at one of them -/

theorem DeliveryClosed.closeTips {p : Fin 4} {c : Ctl} (hc : P c) : P (Machine.closeTips e p c) :=
  foldl_keeps (fun _ _ hb => h.withdrawTip hb) _ _ hc

theorem DeliveryClosed.parkTips {p : Fin 4} {c : Ctl} (hc : P c) : P (Machine.parkTips e p c) :=
  foldl_keeps (fun _ _ hb => h.parkTip hb) _ _ hc

theorem DeliveryClosed.stopOutlets {p : Fin 4} {r : EndReason} {c : Ctl} (hc : P c) :
    P (Machine.stopOutlets e p r c) := foldl_keeps (fun _ _ hb => h.stopOutlet hb) _ _ hc

theorem DeliveryClosed.stopForCushion {p : Fin 4} {c : Ctl} (hc : P c) :
    P (Machine.stopForCushion e p c) :=
  foldl_keeps (fun _ _ hb => keeps_ite (h.stopOutlet hb) hb) _ _ hc

theorem DeliveryClosed.outletValue {n : Fin 8} {sig : Signal} {v : Tri} {c : Ctl} (hc : P c) :
    P (Machine.outletValue e n sig v c) := by
  unfold Machine.outletValue
  split
  · exact h.settleOutlets hc
  · exact hc
  · split
    · exact h.settleOutlets (h.receiverLost hc)
    · exact h.settleOutlets hc
  · split
    · exact h.flowBegins hc
    · exact hc

theorem DeliveryClosed.outletFreshness {n : Fin 8} {new : Freshness} {c : Ctl} (hc : P c) :
    P (Machine.outletFreshness e n new c) := by
  unfold Machine.outletFreshness
  split
  · exact h.settleOutlets hc
  · exact h.settleOutlets (h.feedbackLost hc)

theorem DeliveryClosed.tipValue {t : Fin 12} {sig : Signal} {v : Tri} {c : Ctl} (hc : P c) :
    P (Machine.tipValue e t sig v c) := by
  unfold Machine.tipValue
  split
  · exact hc
  · exact hc
  · exact h.settleTips hc
  · refine h.settleTips ?_
    split
    · exact h.boomRests hc
    · exact h.boomLeaves hc
    · exact hc

theorem DeliveryClosed.tipFreshness {t : Fin 12} {old new : Freshness} {c : Ctl} (hc : P c) :
    P (Machine.tipFreshness e t old new c) := by
  unfold Machine.tipFreshness
  refine h.settleTips ?_
  repeat' split
  · exact h.tipRestored hc
  · exact h.tipLost hc
  · exact hc

theorem DeliveryClosed.timeoutEvent {n : Fin 8} {r : EndReason} {k : FaultCode} {c : Ctl}
    (hc : P c) : P (Machine.timeoutEvent e n r k c) := h.settleOutlets (h.timeoutStop hc)

theorem DeliveryClosed.noFlowTimeout {n : Fin 8} {c : Ctl} (hc : P c) :
    P (Machine.noFlowTimeout e n c) :=
  h.settleOutlets (h.outlet _ _ _ (.of_same rfl) (h.timeoutStop hc))

theorem DeliveryClosed.commitOutlet {n : Fin 8} {cm : Commit} {c : Ctl} (hc : P c) :
    P (Machine.commitOutlet e n cm c) := by
  simp only [Machine.commitOutlet]
  split
  · exact h.judgeOutlet hc
  · exact h.settleOutlets (h.judgeOutlet hc)

theorem DeliveryClosed.commitTip {t : Fin 12} {cm : Commit} {c : Ctl} (hc : P c) :
    P (Machine.commitTip e t cm c) := by
  simp only [Machine.commitTip]
  split
  · exact h.judgeTip hc
  · exact h.settleTips (h.judgeTip hc)

end

/-! ### Records at an outlet and at a tip point -/

section
variable {e : Env} {P : Ctl → Prop} (h : MembersClosed e.live P)
include h

theorem MembersClosed.reactRecord {n : Fin 8} {x : LoadRecord} {c : Ctl} (hc : P c) :
    P (Machine.reactRecord e n x c) := by
  have active {s : OutletState} (hs : (c.outlet n).state = s) (ha : s.active = true) :
      (c.outlet n).state.active = true := hs ▸ ha
  simp only [Machine.reactRecord]
  split
  case h_1 hs => split <;> first | exact h.toPassClosed.flowEntered (h.outlet _ _ _ (.of_active (active hs rfl)) hc) | exact hc
  case h_2 hs => split <;> first | exact h.toDelivery.preClose (active hs rfl) hc | exact hc
  case h_3 hs => split <;> first | exact h.toDelivery.closeCycle (active hs rfl) hc | exact hc
  case h_4 hs => exact h.toDelivery.indexRecord (active hs rfl) hc
  case h_5 => split <;> first | exact h.toDelivery.endOrder hc | exact hc
  case h_6 => exact hc
  case h_7 => exact hc

theorem MembersClosed.tipRecord {t : Fin 12} {k : Octet} {m : Nat} {c : Ctl} (hc : P c) :
    P (Machine.tipRecord e t k m c).1 := by
  have counted : P (c.setTip t { c.tip t with lastCounter := k, known := true }) :=
    h.tip _ _ _ (.of_same rfl) hc
  simp only [Machine.tipRecord, creditTips]
  split
  · exact counted
  split
  · exact h.report counted
  · refine h.toPassClosed.credit (h.toDelivery.permitAccounting ?_)
    split
    · exact counted
    · exact h.report (h.tip _ _ _ (.of_same rfl) counted)

end

end Sys2Proof.Machine
end

section
/-! Proofs: what a change of a pass record owes its members until its news are delivered (R14, R23, R115,
R137), and the operations of the controllers that deliver news. -/

namespace Sys2Proof.Machine

/-- No pass event is still to reach the members of any pass. -/
def noNews : Fin 4 → News := fun _ => News.quiet

/-- The pass events of one change of the record of `p` are still to reach its members. -/
def newsAt (p : Fin 4) (news : News) : Fin 4 → News := fun q => if q = p then news else News.quiet

@[simp] theorem newsAt_same (p : Fin 4) (news : News) : newsAt p news p = news := if_pos rfl

/-- Every HANGUP and LOCKOUT that is owed under `a` is owed under `b`. -/
def Owes (a b : Fin 4 → News) : Prop :=
  ∀ q, ((a q).hangup = true → (b q).hangup = true) ∧ ((a q).lockout = true → (b q).lockout = true)

theorem owes_noNews (b : Fin 4 → News) : Owes noNews b := fun _ => ⟨nofun, nofun⟩

theorem owes_newsAt {p : Fin 4} {a b : News} (hangup : a.hangup = true → b.hangup = true)
    (lockout : a.lockout = true → b.lockout = true) : Owes (newsAt p a) (newsAt p b) := fun q => by
  unfold newsAt
  split
  · exact ⟨hangup, lockout⟩
  · exact ⟨id, id⟩

/-- News without HANGUP and LOCKOUT owe what no news owe. -/
theorem owes_noNews_of_members (p : Fin 4) {news : News} (hangup : news.hangup = false)
    (lockout : news.lockout = false) : Owes (newsAt p news) noNews := fun q => by
  unfold newsAt
  split
  · simp [hangup, lockout]
  · exact ⟨id, id⟩

theorem owes_join_left (p : Fin 4) (a b : News) : Owes (newsAt p a) (newsAt p (a.join b)) :=
  owes_newsAt (fun ha => by simp [News.join, ha]) (fun ha => by simp [News.join, ha])

/-- The members of a pass have taken a HANGUP: no order runs, and no tip point is OPEN. -/
structure Hung (l : Live) (p : Fin 4) (c : Ctl) : Prop where
  outlets : ∀ n ∈ l.outletsOf p, (c.outlet n).state.active = false
  tips : ∀ t ∈ l.tipsOf p, (c.tip t).state ≠ .opened

/-- The members of a pass have taken a LOCKOUT: none is BREAKING either. -/
structure LockedOut (l : Live) (p : Fin 4) (c : Ctl) : Prop extends Hung l p c where
  boom : ∀ t ∈ l.tipsOf p, (c.tip t).state ≠ .breaking

/-! ### What the delivery brings about at the members -/

/-- What a fold's step establishes at its element, and every step keeps, holds at every element after it. -/
theorem foldl_establishes {α β : Type} {Q : α → β → Prop} {f : β → α → β}
    (here : ∀ a b, Q a (f b a)) (kept : ∀ a a' b, Q a b → Q a (f b a')) (xs : List α) :
    ∀ a ∈ xs, ∀ b, Q a (xs.foldl f b) := by
  induction xs with
  | nil => exact fun a ha => absurd ha (by simp)
  | cons x rest ih =>
    intro a ha b
    rcases List.mem_cons.1 ha with rfl | ha'
    · exact foldl_keeps (Q := Q a) (fun b a' => kept a a' b) rest _ (here a b)
    · exact ih a ha' _

theorem flowLeft_outlet (e : Env) (p : Fin 4) (c : Ctl) (n : Fin 8) :
    (flowLeft e p c).outlet n = c.outlet n := by unfold flowLeft; split <;> rfl

/-- R114: the outlet after a stop. -/
def stoppedOutlet (now : Clock) (reason : EndReason) (o : Outlet) : Outlet :=
  if o.state.active then
    { o with
      state := .stopping, stopReason := some reason, startPending := false
      timer := if o.state = .closing then o.timer else some (.close, now) }
  else o

theorem stopOutlet_outlet_same (e : Env) (n : Fin 8) (r : EndReason) (c : Ctl) :
    (stopOutlet e n r c).outlet n = stoppedOutlet e.clock r (c.outlet n) := by
  by_cases ha : (c.outlet n).state.active = true
  · simp only [stopOutlet, stoppedOutlet, if_pos ha]
    split <;> (try rw [flowLeft_outlet]) <;> split <;> simp [Ctl.ownDemand]
  · simp only [stopOutlet, stoppedOutlet, if_neg ha]

theorem stopOutlet_outlet_other (e : Env) {n m : Fin 8} (r : EndReason) (c : Ctl) (hne : n ≠ m) :
    (stopOutlet e n r c).outlet m = c.outlet m := by
  simp only [stopOutlet]
  split
  · split <;> (try rw [flowLeft_outlet]) <;> split <;>
      simp [Ctl.ownDemand, Ctl.outlet_setOutlet_other _ _ hne]
  · rfl

theorem stoppedOutlet_active (now : Clock) (r : EndReason) (o : Outlet) :
    (stoppedOutlet now r o).state.active = false := by
  unfold stoppedOutlet
  split
  · rfl
  · next ha => simpa using ha

theorem stopOutlets_active (e : Env) (p : Fin 4) (r : EndReason) (c : Ctl) :
    ∀ n ∈ e.live.outletsOf p, ((stopOutlets e p r c).outlet n).state.active = false := by
  refine fun n hn => foldl_establishes (Q := fun n b => (b.outlet n).state.active = false)
    (fun n b => ?_) (fun n m b hb => ?_) _ n hn c
  · rw [stopOutlet_outlet_same]; exact stoppedOutlet_active ..
  · by_cases hm : m = n
    · subst hm; rw [stopOutlet_outlet_same]; exact stoppedOutlet_active ..
    · rw [stopOutlet_outlet_other _ _ _ hm]; exact hb

@[simp] theorem withdrawTip_outlets (t : Fin 12) (c : Ctl) :
    (withdrawTip t c).outlets = c.outlets := by unfold withdrawTip; split <;> rfl

@[simp] theorem parkTip_outlets (e : Env) (t : Fin 12) (c : Ctl) :
    (parkTip e t c).outlets = c.outlets := by unfold parkTip; split <;> rfl

theorem withdrawTip_tip (t u : Fin 12) (c : Ctl) : (withdrawTip t c).tip u =
    if t = u ∧ (c.tip t).state = .opened then { c.tip t with state := .closed, remaining := 0 }
    else c.tip u := by
  unfold withdrawTip
  by_cases hs : (c.tip t).state = .opened <;> simp [hs, Ctl.ownDemand, Ctl.tip_setTip]

theorem parkTip_tip (e : Env) (t u : Fin 12) (c : Ctl) : (parkTip e t c).tip u =
    if t = u ∧ (c.tip t).state = .breaking then enterParking e t (c.tip t) else c.tip u := by
  unfold parkTip
  by_cases hs : (c.tip t).state = .breaking <;> simp [hs, Ctl.ownDemand, Ctl.tip_setTip]

theorem not_opened_withdrawTip (t u : Fin 12) (c : Ctl)
    (hu : t = u ∨ (c.tip u).state ≠ .opened) : ((withdrawTip t c).tip u).state ≠ .opened := by
  rw [withdrawTip_tip]
  split
  · exact nofun
  · next hs =>
    intro ho
    rcases hu with rfl | hu
    · exact hs ⟨rfl, ho⟩
    · exact hu ho

/-- A tip point in PARKING, CLOSED or FAULT by `given = false` is neither OPEN nor BREAKING. -/
theorem not_given_iff {x : TipState} : x.given = false ↔ x ≠ .opened ∧ x ≠ .breaking := by
  cases x <;> simp [TipState.given]

theorem not_opened_parkTip (e : Env) (t u : Fin 12) (c : Ctl) (hu : (c.tip u).state ≠ .opened) :
    ((parkTip e t c).tip u).state ≠ .opened := by
  rw [parkTip_tip]
  split
  · exact (not_given_iff.1 (enterParking_not_given ..)).1
  · exact hu

theorem not_breaking_parkTip (e : Env) (t u : Fin 12) (c : Ctl)
    (hu : t = u ∨ (c.tip u).state ≠ .breaking) : ((parkTip e t c).tip u).state ≠ .breaking := by
  rw [parkTip_tip]
  split
  · exact (not_given_iff.1 (enterParking_not_given ..)).2
  · next hs =>
    intro ho
    rcases hu with rfl | hu
    · exact hs ⟨rfl, ho⟩
    · exact hu ho

theorem closeTips_not_opened (e : Env) (p : Fin 4) (c : Ctl) :
    ∀ t ∈ e.live.tipsOf p, ((closeTips e p c).tip t).state ≠ .opened := fun t ht =>
  foldl_establishes (Q := fun t b => (b.tip t).state ≠ .opened)
    (fun t b => not_opened_withdrawTip t t b (.inl rfl))
    (fun t u b hb => not_opened_withdrawTip u t b (.inr hb)) _ t ht c

theorem parkTips_not_breaking (e : Env) (p : Fin 4) (c : Ctl) :
    ∀ t ∈ e.live.tipsOf p, ((parkTips e p c).tip t).state ≠ .breaking := fun t ht =>
  foldl_establishes (Q := fun t b => (b.tip t).state ≠ .breaking)
    (fun t b => not_breaking_parkTip e t t b (.inl rfl))
    (fun t u b hb => not_breaking_parkTip e u t b (.inr hb)) _ t ht c

@[simp] theorem closeTips_outlets (e : Env) (p : Fin 4) (c : Ctl) :
    (closeTips e p c).outlets = c.outlets :=
  foldl_keeps (Q := fun b => b.outlets = c.outlets)
    (fun b t hb => (withdrawTip_outlets t b).trans hb) _ _ rfl

@[simp] theorem parkTips_outlets (e : Env) (p : Fin 4) (c : Ctl) :
    (parkTips e p c).outlets = c.outlets :=
  foldl_keeps (Q := fun b => b.outlets = c.outlets)
    (fun b t hb => (parkTip_outlets e t b).trans hb) _ _ rfl

theorem Ctl.outlet_congr {c d : Ctl} (h : d.outlets = c.outlets) (n : Fin 8) :
    d.outlet n = c.outlet n := by unfold Ctl.outlet; rw [h]

/-- R14, R115, R137: what HANGUP does at the members. -/
theorem hung_of_hangup (e : Env) (p : Fin 4) (r : EndReason) (c : Ctl) :
    Hung e.live p (closeTips e p (stopOutlets e p r c)) where
  outlets n hn := by
    rw [Ctl.outlet_congr (closeTips_outlets ..)]; exact stopOutlets_active e p r c n hn
  tips := closeTips_not_opened e p _

/-- R23, R115, R137: what LOCKOUT does at the members. -/
theorem lockedOut_of_lockout (e : Env) (p : Fin 4) (r : EndReason) (c : Ctl) :
    LockedOut e.live p (parkTips e p (closeTips e p (stopOutlets e p r c))) where
  outlets n hn := by
    rw [Ctl.outlet_congr (parkTips_outlets ..)]; exact (hung_of_hangup e p r c).outlets n hn
  tips t ht := foldl_keeps (Q := fun b => (b.tip t).state ≠ .opened)
    (fun b u hb => not_opened_parkTip e u t b hb) _ _ ((hung_of_hangup e p r c).tips t ht)
  boom := parkTips_not_breaking e p _

/-! ### Invariants of the members -/

/-- A property of the members under a table, with the HANGUPs and LOCKOUTs that are still to reach them. -/
structure MemberInvariant (P : Live → (Fin 4 → News) → Ctl → Prop) : Prop where
  closed : ∀ l owed, MembersClosed l (P l owed)
  /-- owing more asks less -/
  owing : ∀ {l a b c}, Owes a b → P l a c → P l b c
  /-- a pass may enter RUNNING, and HANGUP or LOCKOUT if its members are still to hear of it -/
  enters : ∀ {l owed c} p r, P l owed c →
    (r.state = .running ∨ (r.state = .hangup ∧ (owed p).hangup = true) ∨ (owed p).lockout = true) →
    P l owed (c.setPass p r)
  /-- members that have taken the events are owed nothing -/
  hung : ∀ {l p c} (news : News), news.lockout = false → Hung l p c → P l (newsAt p news) c → P l noNews c
  lockedOut : ∀ {l p c news}, LockedOut l p c → P l (newsAt p news) c → P l noNews c

section
variable {P : Live → (Fin 4 → News) → Ctl → Prop} (h : MemberInvariant P) {e : Env}
include h

/-- Section 1.9: delivered news are owed no longer. -/
theorem MemberInvariant.deliver {p : Fin 4} {news : News} {c : Ctl}
    (hc : P e.live (newsAt p news) c) : P e.live noNews (Machine.deliver e p news c) := by
  have closed := h.closed e.live
  have h1 := keeps_ite (b := news.full) ((closed _).toDelivery.closeTips (e := e) (p := p) hc) hc
  have h2 := keeps_ite (b := news.cushion) ((closed _).toDelivery.stopForCushion (e := e) (p := p) h1) h1
  have settled {d : Ctl} (hd : P e.live noNews d) :
      P e.live noNews (if news.touched then settle e p d else d) :=
    keeps_ite ((closed _).toDelivery.settle hd) hd
  unfold Machine.deliver
  extract_lets c1 c2 c3 c4
  have h3 : P e.live (newsAt p news) c3 :=
    keeps_ite ((closed _).toDelivery.closeTips ((closed _).toDelivery.stopOutlets h2)) h2
  have h4 : P e.live noNews c4 := by
    cases hl : news.lockout with
    | true =>
      simp only [c4, hl, if_true]
      exact h.lockedOut (lockedOut_of_lockout ..)
        ((closed _).toDelivery.parkTips ((closed _).toDelivery.closeTips ((closed _).toDelivery.stopOutlets h3)))
    | false =>
      simp only [c4, hl, Bool.false_eq_true, if_false]
      cases hh : news.hangup with
      | true =>
        refine h.hung news hl ?_ h3
        simp only [c3, hh, if_true]
        exact hung_of_hangup ..
      | false =>
        exact h.owing (owes_noNews_of_members p hh hl) h3
  exact settled h4

theorem MemberInvariant.withNews {p : Fin 4} {f : Ctl → Ctl × News} {c : Ctl}
    (hf : P e.live (newsAt p (f c).2) (f c).1) : P e.live noNews (Machine.withNews e p f c) :=
  h.deliver hf

/-- A change of a pass record that keeps the pass state owes the members nothing of this kind. -/
theorem MemberInvariant.withNews_quiet {p : Fin 4} {f : Ctl → Ctl × News} {c : Ctl}
    (hf : P e.live noNews (f c).1) : P e.live noNews (Machine.withNews e p f c) :=
  h.withNews (h.owing (owes_noNews _) hf)

theorem MemberInvariant.enterHangup {p : Fin 4} {k : HangCause} {c : Ctl}
    (hc : P e.live noNews c) :
    P e.live (newsAt p (Machine.enterHangup e p k c).2) (Machine.enterHangup e p k c).1 :=
  (h.closed _ _).report ((h.closed _ _).updSlot
    (h.enters _ _ (h.owing (owes_noNews _) hc) (.inr (.inl ⟨rfl, by simp [Machine.enterHangup]⟩))))

theorem MemberInvariant.accumulate {p : Fin 4} {m : Nat} {c : Ctl} (hc : P e.live noNews c) :
    P e.live (newsAt p (Machine.accumulate e p m c).2) (Machine.accumulate e p m c).1 := by
  have fed (r : Pass) (hr : r.state = (c.pass p).state) : P e.live noNews (c.setPass p r) :=
    (h.closed _ _).pass _ _ _ hr hc
  simp only [Machine.accumulate]
  split
  · split
    · exact h.enterHangup (fed _ rfl)
    · exact h.owing (owes_noNews _) (fed _ rfl)
  · exact h.owing (owes_noNews _) hc

/-- R5, R12: a debit owes the members the HANGUP that its accumulation made. -/
theorem MemberInvariant.debit {p : Fin 4} {m : Nat} {c : Ctl} (hc : P e.live noNews c) :
    P e.live (newsAt p (Machine.debit e p m c).2) (Machine.debit e p m c).1 := by
  have closed := (h.closed e.live noNews).toPassClosed
  simp only [Machine.debit, andThen]
  refine (h.closed _ _).toPassClosed.loosen (h.owing ?_ (h.accumulate ?_))
  · refine owes_newsAt (fun ha => ?_) (fun ha => ?_)
    · simp [News.join, ha]
    · simp [News.join, ha]
  · have drawn := closed.pass p { c.pass p with inventory := (c.pass p).inventory - m } c rfl hc
    have clamped := closed.report e .inventoryClamp p.val 2 (m - (c.pass p).inventory) 0 0 _ drawn
    split <;> split <;>
      first
        | exact clamped
        | exact drawn
        | exact closed.recompute clamped
        | exact closed.recompute drawn

theorem MemberInvariant.weigh {n : Fin 8} {w : Nat} {c : Ctl} (hc : P e.live noNews c) :
    P e.live (newsAt (e.outletCfg n).pass (Machine.weigh e n w c).2) (Machine.weigh e n w c).1 := by
  simp only [Machine.weigh]
  split
  · exact h.debit ((h.closed _ _).outlet _ _ _ (.of_same rfl) hc)
  · exact h.owing (owes_noNews _) hc

/-- R91, R103: a record at an outlet, with the news of its debit. -/
theorem MemberInvariant.outletRecord {n : Fin 8} {x : LoadRecord} {c : Ctl}
    (hc : P e.live noNews c) :
    P e.live (newsAt (e.outletCfg n).pass (Machine.outletRecord e n x c).2)
      (Machine.outletRecord e n x c).1 := by
  refine (h.closed _ _).reactRecord (h.owing (owes_join_left _ _ _) (h.weigh ?_))
  exact (h.closed _ _).outlet _ _ _ (.of_same rfl) hc

theorem MemberInvariant.takeNoFlow {n : Fin 8} {c : Ctl} (hc : P e.live noNews c) :
    P e.live noNews (Machine.takeNoFlow e n c) := by
  simp only [Machine.takeNoFlow]
  split
  · exact hc
  · have taken (o : Outlet) (ho : o.state = (c.outlet n).state) : P e.live noNews (c.setOutlet n o) :=
      (h.closed _ _).outlet _ _ _ (.of_same ho) hc
    split
    · exact h.withNews (h.enterHangup (taken _ rfl))
    · exact taken _ rfl

/-! ### Pass commits -/

theorem MemberInvariant.enterLockout {p : Fin 4} {c : Ctl} (hc : P e.live noNews c) :
    P e.live (newsAt p (Machine.enterLockout e p c).2) (Machine.enterLockout e p c).1 :=
  (h.closed _ _).report (h.enters _ _ (h.owing (owes_noNews _) hc)
    (.inr (.inr (by simp [Machine.enterLockout]))))

theorem MemberInvariant.enterRunning {p : Fin 4} {c : Ctl} (hc : P e.live noNews c) :
    P e.live noNews (Machine.enterRunning e p c).1 :=
  (h.closed _ _).report (h.enters _ _ hc (.inl rfl))

theorem MemberInvariant.acceptPass {p : Fin 4} {cm : Commit} {c : Ctl} (hc : P e.live noNews c) :
    P e.live noNews (Machine.acceptPass p cm c) := (h.closed _ _).toPassClosed.accept hc

theorem MemberInvariant.refusePass {k : Fin 24} {tag : Octet} {r : Reason} {c : Ctl}
    (hc : P e.live noNews c) : P e.live noNews (c.refuse k tag r) :=
  (h.closed _ _).toPassClosed.refuse hc

theorem MemberInvariant.judgeLockout {p : Fin 4} {cm : Commit} {c : Ctl} (hc : P e.live noNews c) :
    P e.live noNews (Machine.judgeLockout e p cm c) := by
  unfold Machine.judgeLockout
  split
  · exact h.acceptPass hc
  · exact h.acceptPass (h.withNews (h.enterLockout hc))

theorem MemberInvariant.judgeRun {p : Fin 4} {cm : Commit} {c : Ctl} (hc : P e.live noNews c) :
    P e.live noNews (Machine.judgeRun e p cm c) := by
  unfold Machine.judgeRun
  split
  · exact h.acceptPass (h.withNews_quiet (h.enterRunning hc))
  · exact h.acceptPass hc
  · exact h.refusePass hc

theorem MemberInvariant.judgeReleaseHangup {p : Fin 4} {cm : Commit} {c : Ctl}
    (hc : P e.live noNews c) : P e.live noNews (Machine.judgeReleaseHangup e p cm c) := by
  unfold Machine.judgeReleaseHangup
  split
  · exact h.acceptPass (h.withNews_quiet (h.enterRunning hc))
  · exact h.refusePass hc
  · exact h.refusePass hc

theorem MemberInvariant.judgeWet {p : Fin 4} {wet : Bool} {cm : Commit} {c : Ctl}
    (hc : P e.live noNews c) : P e.live noNews (Machine.judgeWet e p wet cm c) := by
  have closed := (h.closed e.live noNews).toPassClosed
  unfold Machine.judgeWet
  split
  · exact h.acceptPass hc
  · exact h.acceptPass (h.withNews_quiet (closed.wetTests (closed.pass _ _ _ rfl hc)))

theorem MemberInvariant.judgeEmptyOut {p : Fin 4} {cm : Commit} {c : Ctl} (hc : P e.live noNews c) :
    P e.live noNews (Machine.judgeEmptyOut e p cm c) := by
  unfold Machine.judgeEmptyOut
  split
  · exact h.refusePass hc
  split
  · exact h.acceptPass hc
  · exact h.acceptPass (h.withNews_quiet ((h.closed _ _).pass _ _ _ rfl hc))

theorem MemberInvariant.judgeRebase {p : Fin 4} {cm : Commit} {c : Ctl} (hc : P e.live noNews c) :
    P e.live noNews (Machine.judgeRebase e p cm c) := by
  have closed := (h.closed e.live noNews).toPassClosed
  unfold Machine.judgeRebase
  split
  · exact h.acceptPass (h.withNews_quiet (closed.recompute (closed.settleInventory hc)))
  · exact h.refusePass hc

theorem MemberInvariant.judgeSetInventory {p : Fin 4} {cm : Commit} {c : Ctl}
    (hc : P e.live noNews c) : P e.live noNews (Machine.judgeSetInventory e p cm c) := by
  have closed := (h.closed e.live noNews).toPassClosed
  unfold Machine.judgeSetInventory
  split
  · exact h.refusePass hc
  · exact h.acceptPass (h.withNews_quiet (closed.recompute (closed.settleInventory hc)))

theorem MemberInvariant.judgePass {p : Fin 4} {cm : Commit} {c : Ctl} (hc : P e.live noNews c) :
    P e.live noNews (Machine.judgePass e p cm c) := by
  unfold Machine.judgePass
  split
  · exact h.refusePass hc
  split
  · exact h.refusePass hc
  split
  · exact h.refusePass hc
  split
  · exact h.judgeLockout hc
  split
  · exact h.judgeRun hc
  split
  · exact h.judgeReleaseHangup hc
  split
  · exact h.judgeWet hc
  split
  · exact h.judgeWet hc
  split
  · exact h.judgeEmptyOut hc
  split
  · exact h.judgeRebase hc
  · exact h.judgeSetInventory hc

theorem MemberInvariant.judgeCommit {k : Fin 24} {cm : Commit} {c : Ctl} (hc : P e.live noNews c) :
    P e.live noNews (Machine.judgeCommit e k cm c) := by
  unfold Machine.judgeCommit
  split
  · exact (h.closed _ _).toDelivery.commitOutlet hc
  · exact (h.closed _ _).toDelivery.commitTip hc
  · exact h.judgePass hc

/-! ### Timers -/

theorem MemberInvariant.dwellEvent {p : Fin 4} {c : Ctl} (hc : P e.live noNews c) :
    P e.live noNews (Machine.dwellEvent p e c) := by
  unfold Machine.dwellEvent
  split
  · exact hc
  · exact h.withNews_quiet ((h.closed _ _).toPassClosed.dwellExpires hc)

theorem MemberInvariant.disagreementEvent {p : Fin 4} {c : Ctl} (hc : P e.live noNews c) :
    P e.live noNews (Machine.disagreementEvent p e c) :=
  keeps_ite ((h.closed _ _).toPassClosed.disagreementExpires hc) hc

theorem MemberInvariant.deferralEvent {k : Fin 24} {c : Ctl} (hc : P e.live noNews c) :
    P e.live noNews (Machine.deferralEvent k e c) := by
  unfold Machine.deferralEvent
  repeat' split
  · exact hc
  · exact (h.closed _ _).toPassClosed.refuseDeferred hc
  · exact hc

theorem MemberInvariant.openTimeoutEvent {n : Fin 8} {c : Ctl} (hc : P e.live noNews c) :
    P e.live noNews (Machine.openTimeoutEvent n e c) :=
  keeps_ite ((h.closed _ _).toDelivery.timeoutEvent hc) hc

theorem MemberInvariant.flowStartTimeoutEvent {n : Fin 8} {c : Ctl} (hc : P e.live noNews c) :
    P e.live noNews (Machine.flowStartTimeoutEvent n e c) :=
  keeps_ite ((h.closed _ _).toDelivery.noFlowTimeout hc) hc

theorem MemberInvariant.cycleDrawTimeoutEvent {n : Fin 8} {c : Ctl} (hc : P e.live noNews c) :
    P e.live noNews (Machine.cycleDrawTimeoutEvent n e c) :=
  keeps_ite ((h.closed _ _).toDelivery.timeoutEvent hc) hc

theorem MemberInvariant.indexTimeoutEvent {n : Fin 8} {c : Ctl} (hc : P e.live noNews c) :
    P e.live noNews (Machine.indexTimeoutEvent n e c) :=
  keeps_ite ((h.closed _ _).toDelivery.endOrder hc) hc

theorem MemberInvariant.closeTimeoutEvent {n : Fin 8} {c : Ctl} (hc : P e.live noNews c) :
    P e.live noNews (Machine.closeTimeoutEvent n e c) :=
  keeps_ite ((h.closed _ _).toDelivery.faultOutlet hc) hc

theorem MemberInvariant.parkTimeoutEvent {t : Fin 12} {c : Ctl} (hc : P e.live noNews c) :
    P e.live noNews (Machine.parkTimeoutEvent t e c) :=
  keeps_ite ((h.closed _ _).toDelivery.settleTips ((h.closed _ _).toDelivery.parkExpires hc)) hc

/-! ### A changed entry -/

theorem MemberInvariant.clampInventory {p : Fin 4} {c : Ctl} (hc : P e.live noNews c) :
    P e.live noNews (Machine.clampInventory e p c) := by
  simp only [Machine.clampInventory]
  split
  · exact (h.closed _ _).report ((h.closed _ _).pass _ _ _ rfl hc)
  · exact hc

omit h in
theorem takeStation_state (moved : Bool) (q : Qualifiers) (r : Pass) :
    (r.takeStation moved q).state = r.state := by cases moved <;> rfl

/-- R4: a configured pass brought into line with its new entry keeps its state. -/
theorem MemberInvariant.realignPass {old : PassCfg} {p : Fin 4} {c : Ctl}
    (hc : P e.live noNews c) : P e.live noNews (Machine.realignPass old p e c) := by
  have closed := (h.closed e.live noNews).toPassClosed
  refine h.withNews_quiet (closed.wetTests (keeps_ite (closed.disagreementExpires ?_) ?_)) <;>
    exact h.withNews_quiet (closed.recomputeFrom
      (closed.pass _ _ _ (takeStation_state ..) (h.clampInventory hc)))

/-- R4: a pass that is configured now, or no longer, is in LOCKOUT before and after. -/
theorem MemberInvariant.restartPass {p : Fin 4} {c : Ctl} (locked : (c.pass p).state = .lockout)
    (hc : P e.live noNews c) : P e.live noNews (Machine.restartPass p e c) :=
  (h.closed _ _).pass _ _ _ locked.symm hc

theorem MemberInvariant.applyOutlet {old : OutletCfg} {n : Fin 8} {c : Ctl}
    (hc : P e.live noNews c) : P e.live noNews (Machine.applyOutlet old n e c) := by
  simp only [Machine.applyOutlet]
  repeat' split
  · exact hc
  · exact (h.closed _ _).outlet _ _ _ (.of_same rfl) hc
  · exact (h.closed _ _).outlet _ _ _ (.of_inactive rfl) hc
  · exact hc

theorem MemberInvariant.applyTip {old : TipCfg} {t : Fin 12} {c : Ctl} (hc : P e.live noNews c) :
    P e.live noNews (Machine.applyTip old t e c) := by
  have dropped (b : Bool) : P e.live noNews (dropKnown t b c) :=
    keeps_ite ((h.closed _ _).tip _ _ _ (.of_same rfl) hc) hc
  simp only [Machine.applyTip]
  repeat' split
  · exact keeps_ite ((h.closed _ _).toDelivery.settleTips ((h.closed _ _).toDelivery.parkExpires (dropped _))) (dropped _)
  · exact (h.closed _ _).tip _ _ _ (.of_not_given rfl) hc
  · exact hc

end

end Sys2Proof.Machine
end

section
/-! Proofs: an invariant of the members, carried from the controllers to every command and to the step. -/

namespace Sys2Proof.Machine

/-- From `s` to `t` an invariant of the members is kept, and the table, the part state and the reading of the
image are as before. -/
structure Carries (P : Live → (Fin 4 → News) → Ctl → Prop) (s t : State) : Prop where
  keeps : P s.live noNews s.ctl → P s.live noNews t.ctl
  live : t.live = s.live
  loading : t.loading = s.loading
  partState : t.partState = s.partState

section
variable {P : Live → (Fin 4 → News) → Ctl → Prop}

theorem Carries.refl (s : State) : Carries P s s := ⟨id, rfl, rfl, rfl⟩

theorem Carries.trans {s t u : State} (h : Carries P s t) (g : Carries P t u) : Carries P s u where
  keeps hs := by
    have := g.keeps
    rw [h.live] at this
    exact this (h.keeps hs)
  live := g.live.trans h.live
  loading := g.loading.trans h.loading
  partState := g.partState.trans h.partState

/-- `Carries.trans` with the later part first. -/
theorem Carries.after {s t u : State} (g : Carries P t u) (h : Carries P s t) : Carries P s u := h.trans g

theorem Carries.ite {s t u : State} {b : Prop} [Decidable b] (ht : Carries P s t) (hu : Carries P s u) :
    Carries P s (if b then t else u) := by split <;> assumption

/-- Nothing that the members' invariant reads differs. -/
theorem Carries.of_ctl {s t : State} (ctl : t.ctl = s.ctl) (live : t.live = s.live)
    (loading : t.loading = s.loading) (partState : t.partState = s.partState) : Carries P s t :=
  ⟨fun hs => ctl ▸ hs, live, loading, partState⟩

theorem Carries.onCtl {s : State} {f : Env → Ctl → Ctl}
    (hf : ∀ e c, P e.live noNews c → P e.live noNews (f e c)) : Carries P s (s.onCtl f) :=
  ⟨hf s.env s.ctl, rfl, rfl, rfl⟩

theorem Carries.seek (s : State) : Carries P s s.seek := by
  have hs := seek_only s
  unfold DrainerOnly at hs
  rw [hs]
  exact .of_ctl rfl rfl rfl rfl

end

section
variable {P : Live → (Fin 4 → News) → Ctl → Prop} (h : MemberInvariant P)
include h

/-! ### Qualifiers -/

theorem MemberInvariant.valueEvent (i : Fin 32) (sig : Signal) (v : Tri) (s : State) :
    Carries P s (s.valueEvent i sig v) := by
  unfold State.valueEvent
  split
  · split
    · exact .refl s
    · exact .onCtl fun _ _ hc => (h.closed _ _).toDelivery.outletValue hc
  · split
    · exact .refl s
    · exact .onCtl fun _ _ hc => (h.closed _ _).toDelivery.tipValue hc
  · exact .refl s

theorem MemberInvariant.reportLevel (i : Fin 32) (s : State) : Carries P s (s.reportLevel i) := by
  unfold State.reportLevel
  split
  · exact .refl s
  · exact .onCtl fun _ _ hc => h.withNews_quiet ((h.closed _ _).toPassClosed.levelReport hc)

theorem MemberInvariant.reportMoisture (i : Fin 32) (s : State) :
    Carries P s (s.reportMoisture i) := by
  unfold State.reportMoisture
  split
  · exact .refl s
  · exact .onCtl fun _ _ hc => h.withNews_quiet ((h.closed _ _).toPassClosed.sensorReport hc)

theorem MemberInvariant.outletTakes (i : Fin 32) (pl : Payload) (s : State) :
    Carries P s (s.outletTakes i pl) := by
  unfold State.outletTakes
  split
  · exact .refl s
  · exact .onCtl fun _ _ hc => h.withNews (h.outletRecord hc)

theorem MemberInvariant.tipTakes (i : Fin 32) (pl : Payload) (s : State) :
    Carries P s (s.tipTakes i pl) := by
  unfold State.tipTakes
  split
  · exact .refl s
  · exact .onCtl fun _ _ hc => h.withNews_quiet ((h.closed _ _).tipRecord hc)

omit h in
theorem Carries.setQual (i : Fin 32) (q : Qualifiers) (s : State) : Carries P s (s.setQual i q) :=
  .of_ctl rfl rfl rfl rfl

theorem MemberInvariant.filterSample (i : Fin 32) (sig : Signal) (raw : Bool) (s : State) :
    Carries P s (s.filterSample i sig raw) :=
  .ite (.setQual ..) ((Carries.setQual ..).trans (h.valueEvent ..))

theorem MemberInvariant.discreteSample (i : Fin 32) (w : Word) (s : State) :
    Carries P s (s.discreteSample i w) :=
  ((h.filterSample ..).trans (h.filterSample ..)).trans (h.filterSample ..)

theorem MemberInvariant.flowSample (i : Fin 32) (level : Nat) (s : State) :
    Carries P s (s.flowSample i level) :=
  .ite (.setQual ..) ((Carries.setQual ..).trans (h.valueEvent ..))

theorem MemberInvariant.levelSample (i : Fin 32) (d q : Nat) (s : State) :
    Carries P s (s.levelSample i d q) :=
  .ite ((Carries.setQual ..).trans (h.reportLevel ..)) (.setQual ..)

theorem MemberInvariant.moistureSample (i : Fin 32) (r : Nat) (s : State) :
    Carries P s (s.moistureSample i r) :=
  .ite (.setQual ..) ((Carries.setQual ..).trans (h.reportMoisture ..))

theorem MemberInvariant.deliverRecord (i : Fin 32) (pl : Payload) (s : State) :
    Carries P s (s.deliverRecord i pl) := by
  unfold State.deliverRecord
  split
  · exact ((h.discreteSample ..).trans (h.flowSample ..)).trans (h.outletTakes ..)
  · exact (h.discreteSample ..).trans (h.tipTakes ..)
  · exact (h.levelSample ..).trans (h.moistureSample ..)
  · exact .refl s

theorem MemberInvariant.reportCleared (i : Fin 32) (q : Qualifiers) (s : State) :
    Carries P s (s.reportCleared i q) := by
  have level : Carries P s (if q.level.distance.isSome then s.reportLevel i else s) :=
    .ite (h.reportLevel ..) (.refl s)
  exact .ite level (level.trans (h.reportMoisture ..))

theorem MemberInvariant.clearQualifiers (i : Fin 32) (s : State) :
    Carries P s (s.clearQualifiers i) :=
  (Carries.setQual ..).trans (h.reportCleared ..)

theorem MemberInvariant.forgetValue (i : Fin 32) (sig : Signal) (v : Tri) (s : State) :
    Carries P s (s.forgetValue i sig v) := .ite (.refl s) (h.valueEvent ..)

theorem MemberInvariant.resetQualifiers (i : Fin 32) (s : State) :
    Carries P s (s.resetQualifiers i) :=
  ((((((Carries.setQual ..).trans (h.forgetValue ..)).trans (h.forgetValue ..)).trans
    (h.forgetValue ..)).trans (h.forgetValue ..)).trans (h.reportCleared ..))

theorem MemberInvariant.dropoutExpires (i : Fin 32) (s : State) :
    Carries P s (s.dropoutExpires i) := (Carries.setQual ..).trans (h.valueEvent ..)

/-! ### The Sequence Tracker and the Slot Store -/

theorem MemberInvariant.tellConsumer (i : Fin 32) (old new : Freshness) (s : State) :
    Carries P s (s.tellConsumer i old new) := by
  unfold State.tellConsumer
  split
  · split
    · exact .refl s
    · exact .onCtl fun _ _ hc => (h.closed _ _).toDelivery.outletFreshness hc
  · split
    · exact .refl s
    · exact .onCtl fun _ _ hc => (h.closed _ _).toDelivery.tipFreshness hc
  · exact .refl s

theorem MemberInvariant.freshnessEvent (i : Fin 32) (old : Freshness) (k : FreshnessCause)
    (s : State) : Carries P s (s.freshnessEvent i old k) := by
  have journaled (new : Station) : Carries P s (s.onCtl fun e c =>
      c.report e .freshness i.val old.code new.freshness.code new.order.code k.code) :=
    .onCtl fun _ _ hc => (h.closed _ _).report hc
  refine .ite (.refl s) (.trans ?_ (h.tellConsumer ..))
  exact .ite ((journaled _).trans (h.clearQualifiers ..)) (journaled _)

omit h in
theorem Carries.answerRecord (i k : Fin 32) (pl : Payload) (cl : Word) (b : Bool) (old : Word)
    (s : State) : Carries P s (s.answerRecord i k pl cl b old) :=
  .ite (.of_ctl rfl rfl rfl rfl) (.ite (.refl s) (.of_ctl rfl rfl rfl rfl))

theorem MemberInvariant.judgeRecord (i k : Fin 32) (pl : Payload) (cl : Word) (s : State) :
    Carries P s (s.judgeRecord i k pl cl) := by
  have judged (x : Station) : Carries P s (s.setStation i x) := .of_ctl rfl rfl rfl rfl
  refine .ite ?_ (judged _)
  have answered (x : Station) (w : Word) (b : Bool) (old : Word) (was : Freshness)
      (cause : FreshnessCause) : Carries P s
        (((s.setStation i x).answerRecord i k pl w b old).freshnessEvent i was cause) :=
    ((judged _).trans (.answerRecord ..)).trans (h.freshnessEvent ..)
  exact .ite ((answered ..).trans (h.deliverRecord ..)) (answered ..)

theorem MemberInvariant.takeClosing (k : Fin 32) (cl : Word) (s : State) :
    Carries P s (s.takeClosing k cl) := by
  have emptied : Carries P s (s.emptyStaging k) := .of_ctl rfl rfl rfl rfl
  unfold State.takeClosing
  split
  · exact emptied
  · exact .ite (emptied.trans (h.judgeRecord ..)) (emptied.trans (.of_ctl rfl rfl rfl rfl))

theorem MemberInvariant.lateExpires (i : Fin 32) (s : State) : Carries P s (s.lateExpires i) :=
  .trans (t := (s.setStation i (s.station i).fallLate).putLatch _ _) (.of_ctl rfl rfl rfl rfl)
    (h.freshnessEvent ..)

/-- What changes the slots and the journal alone is nothing to the members. -/
theorem MemberInvariant.of_members {s t : State} (passes : t.ctl.passes = s.ctl.passes)
    (outlets : t.ctl.outlets = s.ctl.outlets) (tips : t.ctl.tips = s.ctl.tips)
    (live : t.live = s.live) (loading : t.loading = s.loading)
    (partState : t.partState = s.partState) : Carries P s t :=
  ⟨(h.closed _ _).other _ _ passes outlets tips, live, loading, partState⟩

theorem MemberInvariant.placeSlot (k : Fin 24) (s : State) : Carries P s (s.placeSlot k) :=
  .ite (h.of_members rfl rfl rfl rfl rfl rfl) (.refl s)

theorem MemberInvariant.supersede (k : Fin 24) (s : State) : Carries P s (s.supersede k) := by
  unfold State.supersede
  split
  · exact .refl s
  · exact (h.placeSlot ..).after (h.of_members rfl rfl rfl rfl rfl rfl)

theorem MemberInvariant.takeCommit (k : Fin 24) (d : Word) (s : State) :
    Carries P s (s.takeCommit k d) := by
  have cleared : Carries P s (s.clearStaged k) := h.of_members rfl rfl rfl rfl rfl rfl
  exact ((cleared.trans (h.supersede ..)).trans (.onCtl fun _ _ hc => h.judgeCommit hc)).trans
    (h.placeSlot ..)

theorem MemberInvariant.takeStretched (s : State) : Carries P s s.takeStretched := by
  unfold State.takeStretched
  split
  · exact .refl s
  · refine .ite (.refl s) ?_
    split
    · exact (h.takeClosing ..).trans (.of_ctl rfl rfl rfl rfl)
    · exact (h.takeCommit ..).trans (.of_ctl rfl rfl rfl rfl)
    all_goals exact .refl s

/-! ### The Memory Port -/

theorem MemberInvariant.drain (s : State) : Carries P s s.drain := by
  have placed (i : Fin 56) : Carries P s (s.placeSource i) := by
    unfold State.placeSource
    split
    · exact h.placeSlot ..
    · unfold State.placeLatch
      split
      · exact .refl s
      · exact .of_ctl rfl rfl rfl rfl
  unfold State.drain
  split
  · exact .refl s
  · exact .ite ((placed _).trans (.of_ctl rfl rfl rfl rfl)) (.of_ctl rfl rfl rfl rfl)

theorem MemberInvariant.safeSlots (l : Live) {owed : Fin 4 → News} (m : Live) {c : Ctl}
    (hc : P l owed c) : P l owed (c.safeSlots m) :=
  foldl_keeps (fun _ _ hb => (h.closed _ _).updSlot hb) _ _ hc

theorem MemberInvariant.beginSafing (reads : List (Fin 24 × Fin 3)) (s : State) :
    Carries P s (s.beginSafing reads) := by
  unfold State.beginSafing
  split
  · rw [safeWrites_only]
    exact ⟨h.safeSlots _ _, rfl, rfl, rfl⟩
  · exact .of_ctl rfl rfl rfl rfl

theorem MemberInvariant.readSetPoint (k : Fin 24) (w : Fin 3) (rest : List (Fin 24 × Fin 3))
    (s : State) : Carries P s (s.readSetPoint k w rest) :=
  (h.beginSafing ..).after (h.of_members rfl rfl rfl rfl rfl rfl)

theorem MemberInvariant.performUpstream (s : State) : Carries P s s.performUpstream := by
  unfold State.performUpstream
  split
  · exact .refl s
  · split
    · exact .of_ctl rfl rfl rfl rfl
    · exact .of_ctl rfl rfl rfl rfl
    · refine h.of_members ?_ ?_ ?_ rfl rfl rfl <;> dsimp only <;> split <;> rfl
    all_goals exact .refl s

theorem MemberInvariant.grant (s : State) : Carries P s s.grant := by
  have counted (g : Grant) : Carries P s (s.countGrant g) := .of_ctl rfl rfl rfl rfl
  unfold State.grant
  split
  · exact .ite (h.performUpstream s) (h.readSetPoint ..)
  all_goals
    split
    · exact (h.performUpstream _).after (counted _)
    · refine (counted .urgent).trans ?_
      unfold State.performUrgent
      split
      · exact .refl _
      · exact (h.takeStretched _).after (.of_ctl rfl rfl rfl rfl)
    · refine (counted .bulk).trans ?_
      unfold State.performBulk
      split
      · exact .refl _
      · exact .of_ctl rfl rfl rfl rfl
    · exact .refl s

/-! ### The journal and the mirror -/

theorem MemberInvariant.writeHead (s : State) : Carries P s s.writeHead := by
  unfold State.writeHead
  split
  · exact .refl s
  · exact .ite (h.of_members rfl rfl rfl rfl rfl rfl) (.refl s)

theorem MemberInvariant.writeGap (s : State) : Carries P s s.writeGap :=
  .ite (h.of_members rfl rfl rfl rfl rfl rfl) (.refl s)

theorem MemberInvariant.placeZeros (s : State) : Carries P s s.placeZeros := by
  unfold State.placeZeros
  split
  · exact .refl s
  · exact .ite (h.of_members rfl rfl rfl rfl rfl rfl) (.refl s)

omit h in
theorem Carries.publish (s : State) : Carries P s s.publish := by
  unfold State.publish
  split
  · exact .refl s
  · refine .ite ?_ (.refl s)
    simp only [State.placeGroup, State.advanceCursor]
    split
    · exact .of_ctl rfl rfl rfl rfl
    · exact .ite (.of_ctl rfl rfl rfl rfl) (.of_ctl rfl rfl rfl rfl)

omit h in
theorem Carries.periodExpires (s : State) : Carries P s s.periodExpires := by
  unfold State.periodExpires
  split
  · exact .refl s
  · exact .ite (.of_ctl rfl rfl rfl rfl) (.of_ctl rfl rfl rfl rfl)

/-! ### Bus writes -/

omit h in
theorem Carries.present {f : State → State} {s : State} (hf : Carries P s (f s)) :
    Carries P s (s.present f) := .ite (.refl s) hf

omit h in
theorem Carries.inRun {f : State → State} {s : State} (hf : Carries P s (f s)) :
    Carries P s (s.inRun f) := .ite hf (.of_ctl rfl rfl rfl rfl)

theorem MemberInvariant.closingWrite (k : Fin 32) (v : Word) (s : State) :
    Carries P s (s.closingWrite k v) := (h.takeStretched _).after (.of_ctl rfl rfl rfl rfl)

theorem MemberInvariant.demandWrite (k : Fin 24) (v : Word) (s : State) :
    Carries P s (s.demandWrite k v) := (h.takeStretched _).after (.of_ctl rfl rfl rfl rfl)

/-! ### Configuration changes -/

omit h in
theorem Carries.refillAt (i : Nat) (s : State) : Carries P s (s.refillAt i) := by
  unfold State.refillAt
  split
  · exact .refl s
  · exact .of_ctl rfl rfl rfl rfl

theorem MemberInvariant.applyPass (old : PassCfg) (p : Fin 4) (s : State)
    (locked : (s.ctl.pass p).state = .lockout) : Carries P s (s.applyPass old p) := by
  have refilled (b : Bool) (i : Nat) (t : State) : Carries P t (if b then t.refillAt i else t) :=
    .ite (.refillAt ..) (.refl t)
  have refilledCtl (b : Bool) (i : Nat) (t : State) : (if b then t.refillAt i else t).ctl = t.ctl := by
    unfold State.refillAt
    repeat' split
    all_goals rfl
  unfold State.applyPass
  extract_lets new s1 s2
  have both : Carries P s s2 := (refilled ..).after (refilled ..)
  have ctl : s2.ctl = s.ctl := (refilledCtl ..).trans (refilledCtl ..)
  refine .ite (both.trans (.onCtl fun _ _ hc => h.realignPass hc)) (.ite (both.trans ?_) both)
  exact ⟨fun hc => h.restartPass (e := s2.env) (ctl ▸ locked) hc, rfl, rfl, rfl⟩

theorem MemberInvariant.restartStation (old : StationCfg) (i : Fin 32) (s : State) :
    Carries P s (s.restartStation old i) := by
  have latched (k : StationCfg) (t : State) : Carries P t (t.staleLatch k) :=
    .ite (.of_ctl rfl rfl rfl rfl) (.refl t)
  have reset : Carries P s (s.setStation i Station.reset) := .of_ctl rfl rfl rfl rfl
  unfold State.restartStation
  extract_lets before s1 s2
  have stale : Carries P s s1 := (latched _ _).after ((latched _ _).after reset)
  exact (Carries.setQual ..).after ((h.freshnessEvent ..).after stale)

theorem MemberInvariant.applyStation (old : StationCfg) (i : Fin 32) (s : State) :
    Carries P s (s.applyStation old i) := by
  have late : Carries P s (if old.lateLimit ≠ (s.live.stationCfg i).lateLimit ∧ s.lateDue i = true
      then s.lateExpires i else s) := .ite (h.lateExpires ..) (.refl s)
  exact .ite (.ite (.ite (late.trans (h.resetQualifiers ..)) late) (.refl s))
    (h.restartStation ..)

theorem MemberInvariant.applyGlobal (old : GlobalCfg) (s : State) :
    Carries P s (s.applyGlobal old) := by
  rw [applyGlobal_only]
  refine h.of_members ?_ ?_ ?_ rfl rfl rfl
  all_goals
    simp only [State.applyGlobal, State.restartJournal]
    split <;> split <;> rfl

/-- R164: the block that holds state for the entry keeps the members in order under the new table. -/
theorem MemberInvariant.applyEntry (old : Live) (kind : EntryKind) (i : Nat) (s : State)
    (locked : ∀ p : Fin 4, kind = .pass → p.val = i → (s.ctl.pass p).state = .lockout) :
    Carries P s (s.applyEntry old kind i) := by
  unfold State.applyEntry
  split
  · exact h.applyGlobal ..
  · split
    · exact h.applyPass _ _ _ (locked _ rfl rfl)
    · exact .refl s
  · split
    · exact .onCtl fun _ _ hc => h.applyOutlet hc
    · exact .refl s
  · split
    · exact .onCtl fun _ _ hc => h.applyTip hc
    · exact .refl s
  · split
    · exact h.applyStation ..
    · exact .refl s

end

/-! ### The commands -/

/-- An invariant of the members that the resets, the load and every change of the table keep: `Bare` is what
the table is like while the image is read. -/
structure TableInvariant (P : Live → (Fin 4 → News) → Ctl → Prop) (Bare : Live → Prop) : Prop
    extends MemberInvariant P where
  bareReset : Bare Live.reset
  reset : ∀ n, P Live.reset noNews { Ctl.reset with freeCount := n }
  loaded : ∀ {l l' c}, Bare l → P l noNews c → P l' noNews c
  changed : ∀ {s : State} {kind i x}, s.lockedOut (s.live.replace kind i x) kind i = true →
    P s.live noNews s.ctl → P (s.live.replace kind i x) noNews s.ctl

/-- The invariant of a state: it holds of the members, and while the image is read the part is in STARTING
under a bare table. -/
structure Kept (P : Live → (Fin 4 → News) → Ctl → Prop) (Bare : Live → Prop) (s : State) : Prop where
  members : P s.live noNews s.ctl
  loading : s.loading = true → s.partState = .starting ∧ Bare s.live

section
variable {P : Live → (Fin 4 → News) → Ctl → Prop} {Bare : Live → Prop}

theorem Kept.carried {s t : State} (hs : Kept P Bare s) (h : Carries P s t) : Kept P Bare t where
  members := by rw [h.live]; exact h.keeps hs.members
  loading hl := by
    rw [h.live, h.partState]
    exact hs.loading (h.loading ▸ hl)

/-- A state in which no image is read. -/
theorem Kept.of_members {s : State} (hs : P s.live noNews s.ctl) (hl : s.loading = false) :
    Kept P Bare s := ⟨hs, fun h => by simp [hl] at h⟩

/-- Outside STARTING no image is read. -/
theorem Kept.not_loading {s : State} (hs : Kept P Bare s) (hp : s.partState ≠ .starting) :
    s.loading = false := by
  by_contra hl
  exact hp (hs.loading (by simpa using hl)).1

variable (h : TableInvariant P Bare)
include h

theorem TableInvariant.cleared (s : State) : Kept P Bare s.cleared :=
  ⟨h.reset _, fun _ => ⟨rfl, h.bareReset⟩⟩

theorem TableInvariant.fullReset {s : State} (hs : Kept P Bare s) : Kept P Bare s.fullReset := by
  unfold State.fullReset
  split
  · exact hs
  · exact .of_members (h.reset _) rfl

theorem TableInvariant.fullResetEnd {s : State} (hs : Kept P Bare s) :
    Kept P Bare s.fullResetEnd := by
  unfold State.fullResetEnd
  split
  · exact h.cleared s
  · exact hs

theorem TableInvariant.endResponse {s : State} (hs : Kept P Bare s) :
    Kept P Bare s.endResponse := by
  unfold State.endResponse
  split
  · exact hs
  · split
    · exact ⟨h.reset _, fun _ => ⟨rfl, h.bareReset⟩⟩
    · exact hs.carried (.of_ctl rfl rfl rfl rfl)

omit h in
theorem MemberInvariant.startDwell (g : MemberInvariant P) (l m : Live) (now : Clock) {c : Ctl}
    (hc : P l noNews c) : P l noNews (c.startDwell m now) := by
  have started (b : Ctl) (p : Fin 4) (hb : P l noNews b) :
      P l noNews (b.setPass p { b.pass p with dwellTimer := some now }) :=
    (g.closed _ _).pass _ _ _ rfl hb
  exact foldl_keeps started _ _ hc

/-- R156: the table was bare, so no member is in the way of the one read. -/
theorem TableInvariant.goodLoad (image : List Octet) {s : State} (hs : Kept P Bare s)
    (loading : s.loading = true) : Kept P Bare (s.goodLoad image) := by
  have members : P (imageLive image) noNews (s.ctl.startDwell (imageLive image) s.clock) :=
    h.toMemberInvariant.startDwell _ _ _ (h.loaded (hs.loading loading).2 hs.members)
  exact (Kept.of_members (s := { s with
      partState := .safing, loading := false, live := imageLive image
      identity := payloadWord image 4, loadStatus := { code := .ok, entry := none }
      bases := some (imageLive image).regions
      ctl := s.ctl.startDwell (imageLive image) s.clock }) members rfl).carried (h.beginSafing ..)

theorem TableInvariant.completeLoad (image : Option (List Octet)) {s : State} (hs : Kept P Bare s)
    (loading : s.loading = true) : Kept P Bare (s.completeLoad image) := by
  have bad (f : Failure) : Kept P Bare (s.badLoad f) := .of_members hs.members rfl
  unfold State.completeLoad
  split
  · exact bad _
  · split
    · split
      · exact bad _
      · exact h.goodLoad _ hs loading
    · exact hs

theorem TableInvariant.enterRun {s : State} (hs : Kept P Bare s) (done : s.safingDone = true) :
    Kept P Bare s.enterRun := by
  have safing : s.partState = .safing := by
    simp only [State.safingDone, Bool.and_eq_true, beq_iff_eq] at done
    exact done.1.1.1.1
  refine .of_members ((h.closed _ _).report hs.members) ?_
  exact hs.not_loading (by rw [safing]; exact nofun)

theorem TableInvariant.applyConfig {kind : EntryKind} {i : Nat} {x : RawEntry} {w : Word} {s : State}
    (hs : Kept P Bare s) (run : s.partState = .run)
    (locked : s.lockedOut (s.live.replace kind i x) kind i = true) :
    Kept P Bare (s.applyConfig kind i x w) := by
  have replaced : Kept P Bare { s with live := s.live.replace kind i x, identity := w } :=
    .of_members (h.changed locked hs.members) (hs.not_loading (by rw [run]; exact nofun))
  refine (replaced.carried (h.applyEntry s.live kind i _ fun p hk hp => ?_)).carried
    (.onCtl fun _ _ hc => (h.closed _ _).report hc)
  subst hk
  have lockedAll := List.all_eq_true.1 locked p (List.mem_finRange p)
  simpa [Live.affectsPass, hp] using lockedAll

theorem TableInvariant.changeEntry (unit : Octet) (kind : EntryKind) (i : Nat) (x : RawEntry)
    (w : Word) {s : State} (hs : Kept P Bare s) (run : s.partState = .run) :
    Kept P Bare (s.changeEntry unit kind i x w) := by
  have answered (t : State) (status : Status) (octets : List Octet) :
      Carries P t (t.respond unit 3 status octets) := .of_ctl rfl rfl rfl rfl
  simp only [State.changeEntry]
  split
  · exact hs.carried (answered ..)
  next locked =>
  split
  · exact hs.carried (answered ..)
  split
  · exact hs.carried (answered ..)
  split
  · exact hs.carried (answered ..)
  · exact (h.applyConfig hs run (by simpa using locked)).carried (answered ..)

theorem TableInvariant.answerWriteConfig (unit : Octet) (payload : List Octet) {s : State}
    (hs : Kept P Bare s) (run : s.partState = .run) :
    Kept P Bare (s.answerWriteConfig unit payload) := by
  unfold State.answerWriteConfig
  split
  · exact hs.carried (.of_ctl rfl rfl rfl rfl)
  · exact h.changeEntry _ _ _ _ _ hs run

omit h in
theorem Kept.respond {s : State} (hs : Kept P Bare s) (unit code : Octet) (status : Status)
    (octets : List Octet) : Kept P Bare (s.respond unit code status octets) :=
  hs.carried (.of_ctl rfl rfl rfl rfl)

omit h in
theorem Kept.setLink {s : State} (hs : Kept P Bare s) (f : Link → Link) : Kept P Bare (s.setLink f) :=
  hs.carried (.of_ctl rfl rfl rfl rfl)

omit h in
theorem Kept.inFrame {s : State} (hs : Kept P Bare s) {f : State → State} (hf : Kept P Bare (f s)) :
    Kept P Bare (s.inFrame f) := by
  unfold State.inFrame
  split
  · exact hf
  · exact hs

omit h in
theorem Kept.request {s : State} (hs : Kept P Bare s) {f : State → State} (hf : Kept P Bare (f s))
    (unit : Octet) (b : Bool) (payload : List Octet) :
    Kept P Bare (s.request unit b payload f) := by
  refine hs.inFrame ?_
  split
  · split
    · exact hs.setLink _
    · exact hf
  · exact hs

omit h in
theorem Kept.answerInRun {s : State} (hs : Kept P Bare s) (unit code : Octet) {f : State → State}
    (hf : s.partState = .run → Kept P Bare (f s)) : Kept P Bare (s.answerInRun unit code f) := by
  unfold State.answerInRun
  split
  · next run => exact hf run
  all_goals exact hs.respond ..

omit h in
theorem Kept.withLength {s : State} (hs : Kept P Bare s) (unit code : Octet) (n : Nat)
    (payload : List Octet) {f : State → State} (hf : Kept P Bare (f s)) :
    Kept P Bare (s.withLength unit code n payload f) := by
  unfold State.withLength
  split
  · exact hf
  · exact hs.respond ..

omit h in
theorem Kept.answerClearCounters {s : State} (hs : Kept P Bare s) (unit : Octet)
    (payload : List Octet) : Kept P Bare (s.answerClearCounters unit payload) := by
  have cleared (which : Nat) : Kept P Bare (s.clearStations which) := by
    unfold State.clearStations
    exact hs.carried (.of_ctl rfl rfl rfl rfl)
  unfold State.answerClearCounters
  dsimp only
  split
  · exact hs.respond ..
  · exact (cleared _).respond ..

omit h in
theorem Kept.answerReadConfig {s : State} (hs : Kept P Bare s) (unit : Octet)
    (payload : List Octet) : Kept P Bare (s.answerReadConfig unit payload) := by
  unfold State.answerReadConfig
  split <;> exact hs.respond ..

omit h in
theorem Kept.answerReadStatus {s : State} (hs : Kept P Bare s) (unit : Octet)
    (payload : List Octet) : Kept P Bare (s.answerReadStatus unit payload) := by
  unfold State.answerReadStatus
  split <;> exact hs.respond ..

omit h in
/-- R165: an accepted RELOAD takes the part to STARTING; no image is read until it takes effect. -/
theorem Kept.acceptReload {s : State} (hs : Kept P Bare s) (unit : Octet) :
    Kept P Bare (s.acceptReload unit) := by
  have held : s.refuseHeldWrite.live = s.live ∧ s.refuseHeldWrite.ctl = s.ctl ∧
      s.refuseHeldWrite.loading = s.loading := by
    unfold State.refuseHeldWrite
    repeat' split
    all_goals exact ⟨rfl, rfl, rfl⟩
  obtain ⟨live, ctl, loading⟩ := held
  refine ⟨?_, fun hl => ⟨rfl, ?_⟩⟩
  · show P s.refuseHeldWrite.live noNews s.refuseHeldWrite.ctl
    rw [live, ctl]; exact hs.members
  · show Bare s.refuseHeldWrite.live
    rw [live]; exact (hs.loading (loading.symm.trans hl)).2

omit h in
theorem Kept.answerReload {s : State} (hs : Kept P Bare s) (unit : Octet) :
    Kept P Bare (s.answerReload unit) := by
  unfold State.answerReload
  split
  · split
    · exact hs.acceptReload unit
    · exact hs.respond ..
  · exact hs.respond ..
  · exact hs.respond ..
  · exact hs.acceptReload unit

omit h in
/-- A command that the part takes outside its resets, by what it does. -/
theorem Kept.of_quiet {f : State → State} {s t : State} (hs : Kept P Bare s)
    (ht : quiet f s = .next t) (hf : Kept P Bare (f s)) : Kept P Bare t := by
  unfold quiet at ht
  split at ht <;> cases ht <;> assumption

omit h in
theorem Kept.of_event {f : State → State} {s t : State} (hs : Kept P Bare s)
    (ht : event f s = .next t) (hf : Kept P Bare (f s)) : Kept P Bare t :=
  hs.of_quiet (f := fun u => (f u).seek) ht (hf.carried (.seek _))

omit h in
theorem Kept.of_onCtl {f : Env → Ctl → Ctl} {s t : State} (hs : Kept P Bare s)
    (ht : event (State.onCtl f) s = .next t)
    (hf : ∀ e c, P e.live noNews c → P e.live noNews (f e c)) : Kept P Bare t :=
  hs.of_event ht (hs.carried (.onCtl hf))

theorem TableInvariant.commitWrite {k : Fin 24} {code tag : Octet} {s t : State}
    (hs : Kept P Bare s) (ht : Machine.commitWrite k code tag s = .next t) : Kept P Bare t :=
  hs.of_event ht (hs.carried (.present (.inRun (h.demandWrite ..))))

/-- Every command keeps the invariant. -/
theorem TableInvariant.exec {c : Instr} {s t : State} (hs : Kept P Bare s)
    (ht : Machine.exec c s = .next t) : Kept P Bare t := by
  cases c
  all_goals
    dsimp only [Machine.exec, execFullReset, execFullResetEnd, execMsTick, execConfigLoadComplete,
      execSafingSetpointRead, execSafingEnd, execUpstreamRead, execPassThroughWrite, execRefusedWrite,
      execStationPayloadWrite, execClosingWordWrite, execSetpointWrite, execReadIndexWrite,
      execArbiterGrant, execDrainerPlaceGroup, execJournalRecordWrite, execGapRecordWrite,
      execJournalControlZeroPlace, execMirrorGroupPlace, execMirrorPeriodExpiry,
      execDwellIntervalExpiry, execDisagreementExpiry, execChuteNoFlowReport, execDeferralExpiry,
      execLateTimerExpiry, execDropoutExpiry, execOpenTimeout, execFlowStartTimeout,
      execCycleDrawTimeout, execIndexTimeout, execCloseTimeout, execParkTimeout, execFrameAbort,
      execFrameDropped, execFrameDroppedBusy, execFrameIgnored, execUnknownRequest, execIdentify,
      execReadConfig, execWriteConfig, execReadStatus, execClearCounters, execReload, execResponseEnd,
      execFrameOpeningDelimiter, execFrameDroppedAt69thOctet] at ht
  case fullReset => cases ht; exact h.fullReset hs
  case fullResetEnd => cases ht; exact h.fullResetEnd hs
  case msTick => exact hs.of_quiet ht (hs.carried (.of_ctl rfl rfl rfl rfl))
  case configLoadComplete image =>
    refine hs.of_event ht ?_
    split
    · next starts => exact h.completeLoad image hs starts.2
    · exact hs
  case safingSetpointRead =>
    refine hs.of_event ht ?_
    split
    · split
      · exact hs
      · exact hs.carried (h.readSetPoint ..)
    all_goals exact hs
  case safingEnd =>
    refine hs.of_event ht ?_
    split
    · next done => exact h.enterRun hs done
    · exact hs
  case upstreamRead => exact hs.of_quiet ht (hs.carried (.present (.of_ctl rfl rfl rfl rfl)))
  case passThroughWrite =>
    exact hs.of_quiet ht (hs.carried (.present (.ite (.of_ctl rfl rfl rfl rfl) (.refl _))))
  case refusedWrite =>
    exact hs.of_quiet ht (hs.carried (.present (.ite (.of_ctl rfl rfl rfl rfl) (.refl _))))
  case stationPayloadWrite =>
    exact hs.of_quiet ht (hs.carried (.present (.inRun (.of_ctl rfl rfl rfl rfl))))
  case closingWordWrite => exact hs.of_event ht (hs.carried (.present (.inRun (h.closingWrite ..))))
  case setpointWrite =>
    exact hs.of_quiet ht (hs.carried (.present (.inRun (h.of_members rfl rfl rfl rfl rfl rfl))))
  case commitBadCode k code tag =>
    unfold execCommitBadCode at ht
    split at ht
    · exact h.commitWrite hs ht
    · cases ht; exact hs
  case close | draw | adjust | stopAfter | forceClose | withdraw | permit | boomWork | boomPark | lockout
    | run | releaseHangup | declareWet | clearWet | emptyOut | rebaseFromLevel | setInventory =>
    exact h.commitWrite hs ht
  case readIndexWrite =>
    exact hs.of_quiet ht (hs.carried (.present (.inRun (.ite (.of_ctl rfl rfl rfl rfl)
      (h.of_members rfl rfl rfl rfl rfl rfl)))))
  case arbiterGrant => exact hs.of_event ht (hs.carried (h.grant s))
  case drainerPlaceGroup => exact hs.of_event ht (hs.carried (h.drain s))
  case journalRecordWrite => exact hs.of_quiet ht (hs.carried (h.writeHead s))
  case gapRecordWrite => exact hs.of_quiet ht (hs.carried (h.writeGap s))
  case journalControlZeroPlace => exact hs.of_quiet ht (hs.carried (h.placeZeros s))
  case mirrorGroupPlace => exact hs.of_quiet ht (hs.carried (.publish s))
  case mirrorPeriodExpiry => exact hs.of_quiet ht (hs.carried (.ite (.periodExpires s) (.refl s)))
  case dwellIntervalExpiry => exact hs.of_onCtl ht (fun _ _ hc => h.dwellEvent hc)
  case disagreementExpiry => exact hs.of_onCtl ht (fun _ _ hc => h.disagreementEvent hc)
  case chuteNoFlowReport => exact hs.of_onCtl ht (fun _ _ hc => h.takeNoFlow hc)
  case deferralExpiry => exact hs.of_onCtl ht (fun _ _ hc => h.deferralEvent hc)
  case lateTimerExpiry => exact hs.of_event ht (hs.carried (.ite (h.lateExpires ..) (.refl s)))
  case dropoutExpiry => exact hs.of_event ht (hs.carried (.ite (h.dropoutExpires ..) (.refl s)))
  case openTimeout => exact hs.of_onCtl ht (fun _ _ hc => h.openTimeoutEvent hc)
  case flowStartTimeout => exact hs.of_onCtl ht (fun _ _ hc => h.flowStartTimeoutEvent hc)
  case cycleDrawTimeout => exact hs.of_onCtl ht (fun _ _ hc => h.cycleDrawTimeoutEvent hc)
  case indexTimeout => exact hs.of_onCtl ht (fun _ _ hc => h.indexTimeoutEvent hc)
  case closeTimeout => exact hs.of_onCtl ht (fun _ _ hc => h.closeTimeoutEvent hc)
  case parkTimeout => exact hs.of_onCtl ht (fun _ _ hc => h.parkTimeoutEvent hc)
  case frameAbort => exact hs.of_quiet ht (hs.inFrame (hs.setLink _))
  case frameDropped => exact hs.of_quiet ht (hs.inFrame (hs.setLink _))
  case frameDroppedBusy => exact hs.of_quiet ht (hs.request hs ..)
  case frameIgnored => exact hs.of_quiet ht hs
  case unknownRequest =>
    refine hs.of_quiet ht ?_
    split
    · exact hs.request (hs.respond ..) ..
    · exact hs
  case identify unit payload =>
    refine hs.of_quiet ht (hs.request ?_ ..)
    exact hs.withLength _ _ _ _ (hs.respond ..)
  case readConfig =>
    exact hs.of_quiet ht (hs.request (hs.withLength _ _ _ _ (hs.answerInRun _ _ fun _ =>
      hs.answerReadConfig ..)) ..)
  case writeConfig =>
    exact hs.of_event ht (hs.request (hs.withLength _ _ _ _ (hs.answerInRun _ _ fun run =>
      h.answerWriteConfig _ _ hs run)) ..)
  case readStatus =>
    exact hs.of_quiet ht (hs.request (hs.withLength _ _ _ _ (hs.answerInRun _ _ fun _ =>
      hs.answerReadStatus ..)) ..)
  case clearCounters =>
    exact hs.of_quiet ht (hs.request (hs.withLength _ _ _ _ (hs.answerInRun _ _ fun _ =>
      hs.answerClearCounters ..)) ..)
  case reload => exact hs.of_quiet ht (hs.request (hs.withLength _ _ _ _ (hs.answerReload _)) ..)
  case responseEnd => exact hs.of_quiet ht (h.endResponse hs)
  case frameOpeningDelimiter => exact hs.of_quiet ht (hs.setLink _)
  case frameDroppedAt69thOctet => exact hs.of_quiet ht (hs.inFrame (hs.setLink _))

/-- Every step keeps the invariant. -/
theorem TableInvariant.step {s t : State} (hs : Kept P Bare s) (ht : Machine.step s = .next t) :
    Kept P Bare t := by
  unfold Machine.step at ht
  split at ht
  · cases ht; exact hs
  · next c rest _ =>
    exact h.exec (s := { s with pending := rest }) (hs.carried (.of_ctl rfl rfl rfl rfl)) ht

end

end Sys2Proof.Machine
end

section
/-! Proofs: the fall paths stay clear and orders run only in RUNNING passes, at every step from reset (R14,
R23, R97, R107, R115, R125, R127, R130). -/

namespace Sys2Proof.Machine

/-! ### A changed entry of the table -/

theorem tipCfg_replace_of_ne {l : Live} {kind : EntryKind} {i : Nat} {x : RawEntry} {t : Fin 12}
    (h : ¬(kind = .tipPoint ∧ t.val = i)) : (l.replace kind i x).tipCfg t = l.tipCfg t := by
  cases kind with
  | tipPoint =>
    have hne : i ≠ t.val := fun e => h ⟨rfl, e.symm⟩
    simp [Live.tipCfg, Live.replace, Vector.getElem_setIfInBounds_ne, hne]
  | global | pass | outlet | station => rfl

theorem outletCfg_replace_of_ne {l : Live} {kind : EntryKind} {i : Nat} {x : RawEntry} {n : Fin 8}
    (h : ¬(kind = .outlet ∧ n.val = i)) : (l.replace kind i x).outletCfg n = l.outletCfg n := by
  cases kind with
  | outlet =>
    have hne : i ≠ n.val := fun e => h ⟨rfl, e.symm⟩
    simp [Live.outletCfg, Live.replace, Vector.getElem_setIfInBounds_ne, hne]
  | global | pass | tipPoint | station => rfl

/-- R163, check 2: a pass that the entry affects under the table before is in LOCKOUT. -/
theorem lockout_of_affectsPass {s : State} {new : Live} {kind : EntryKind} {i : Nat} {p : Fin 4}
    (locked : s.lockedOut new kind i = true) (affected : s.live.affectsPass kind i p = true) :
    (s.ctl.pass p).state = .lockout := by
  simpa [affected] using List.all_eq_true.1 locked p (List.mem_finRange p)

theorem related_congr {l m : Live} {t u : Fin 12} (ht : m.tipCfg t = l.tipCfg t)
    (hu : m.tipCfg u = l.tipCfg u) : m.related t u = l.related t u := by
  simp [Live.related, ht, hu]

theorem related_symm {l : Live} {t u : Fin 12} (h : l.related t u = true) : l.related u t = true := by
  simpa [Live.related, Bool.or_comm] using h

/-! ### The fall paths -/

/-- `State.FallPathsClear` of the controllers' state, less what HANGUP and LOCKOUT have still to do. -/
structure TipsClear (l : Live) (owed : Fin 4 → News) (c : Ctl) : Prop where
  configured : ∀ t, (c.tip t).state.given = true → (l.tipCfg t).present = true
  openRunning : ∀ t, (c.tip t).state = .opened →
    (c.pass (l.tipCfg t).pass).state = .running ∨ (owed (l.tipCfg t).pass).hangup = true ∨
      (owed (l.tipCfg t).pass).lockout = true
  breakingAllowed : ∀ t, (c.tip t).state = .breaking →
    (c.pass (l.tipCfg t).pass).state ≠ .lockout ∨ (owed (l.tipCfg t).pass).lockout = true
  fallPath : ∀ t u, l.related t u = true → (c.tip t).state = .breaking → (c.tip u).state ≠ .opened

theorem given_of_opened {x : TipState} (h : x = .opened) : x.given = true := h ▸ rfl
theorem given_of_breaking {x : TipState} (h : x = .breaking) : x.given = true := h ▸ rfl

theorem TipsClear.congr {l : Live} {owed : Fin 4 → News} {c d : Ctl} (hc : TipsClear l owed c)
    (pass : ∀ p, (d.pass p).state = (c.pass p).state) (tip : ∀ t, (d.tip t).state = (c.tip t).state) :
    TipsClear l owed d where
  configured t := by rw [tip]; exact hc.configured t
  openRunning t := by rw [tip, pass]; exact hc.openRunning t
  breakingAllowed t := by rw [tip, pass]; exact hc.breakingAllowed t
  fallPath t u := by rw [tip, tip]; exact hc.fallPath t u

theorem Ctl.pass_congr {c d : Ctl} (h : d.passes = c.passes) (p : Fin 4) : d.pass p = c.pass p := by
  unfold Ctl.pass; rw [h]

theorem Ctl.tip_congr {c d : Ctl} (h : d.tips = c.tips) (t : Fin 12) : d.tip t = c.tip t := by
  unfold Ctl.tip; rw [h]

/-- A pass record with the state of the one before leaves every pass state. -/
theorem setPass_pass_state {c : Ctl} {p : Fin 4} {r : Pass} (hr : r.state = (c.pass p).state)
    (q : Fin 4) : ((c.setPass p r).pass q).state = (c.pass q).state := by
  rw [Ctl.pass_setPass]
  split
  · next hq => subst hq; exact hr
  · rfl

/-- R125, R127, R130: a tip point that becomes OPEN or BREAKING has found its pass and its fall relation
free. -/
theorem TipsClear.setTip {l : Live} {owed : Fin 4 → News} {c : Ctl} {t : Fin 12} {x : Tip}
    (move : TipMove l c t x) (hc : TipsClear l owed c) : TipsClear l owed (c.setTip t x) where
  configured u hu := by
    rw [Ctl.tip_setTip] at hu
    split at hu
    · next htu =>
      subst htu
      rcases move hu with same | adv
      · exact hc.configured _ (same ▸ hu)
      · exact adv.present
    · exact hc.configured u hu
  openRunning u hu := by
    rw [Ctl.tip_setTip] at hu
    split at hu
    · next htu =>
      subst htu
      rcases move (given_of_opened hu) with same | adv
      · exact hc.openRunning _ (same ▸ hu)
      · exact .inl (adv.opens hu).1
    · exact hc.openRunning u hu
  breakingAllowed u hu := by
    rw [Ctl.tip_setTip] at hu
    split at hu
    · next htu =>
      subst htu
      rcases move (given_of_breaking hu) with same | adv
      · exact hc.breakingAllowed _ (same ▸ hu)
      · exact .inl (adv.breaks hu).1
    · exact hc.breakingAllowed u hu
  fallPath u v related hu hv := by
    rw [Ctl.tip_setTip] at hu hv
    split at hu <;> split at hv
    · exact nomatch hu.symm.trans hv
    · next htu _ =>
      subst htu
      rcases move (given_of_breaking hu) with same | adv
      · exact hc.fallPath _ v related (same ▸ hu) hv
      · exact (adv.breaks hu).2 v related hv
    · next htv =>
      subst htv
      rcases move (given_of_opened hv) with same | adv
      · exact hc.fallPath u _ related hu (same ▸ hv)
      · exact (adv.opens hv).2 u (related_symm related) hu
    · exact hc.fallPath u v related hu hv

theorem tipsClear_closed (l : Live) (owed : Fin 4 → News) : MembersClosed l (TipsClear l owed) where
  other c d passes _ tips hc :=
    hc.congr (fun p => by rw [Ctl.pass_congr passes]) (fun t => by rw [Ctl.tip_congr tips])
  pass _ _ _ hr hc := hc.congr (setPass_pass_state hr) fun _ => rfl
  outlet _ _ _ _ hc := hc.congr (fun _ => rfl) fun _ => rfl
  tip _ _ _ move hc := hc.setTip move

/-- Owing more, or entering RUNNING, or entering a state whose news are owed, asks no more of the tip
points. -/
theorem TipsClear.mono {l : Live} {a b : Fin 4 → News} {c d : Ctl} (hc : TipsClear l a c)
    (tips : d.tips = c.tips)
    (openRunning : ∀ p, (c.pass p).state = .running ∨ (a p).hangup = true ∨ (a p).lockout = true →
      (d.pass p).state = .running ∨ (b p).hangup = true ∨ (b p).lockout = true)
    (breakingAllowed : ∀ p, (c.pass p).state ≠ .lockout ∨ (a p).lockout = true →
      (d.pass p).state ≠ .lockout ∨ (b p).lockout = true) : TipsClear l b d where
  configured t := by rw [Ctl.tip_congr tips]; exact hc.configured t
  openRunning t := by
    rw [Ctl.tip_congr tips]; exact fun ht => openRunning _ (hc.openRunning t ht)
  breakingAllowed t := by
    rw [Ctl.tip_congr tips]; exact fun ht => breakingAllowed _ (hc.breakingAllowed t ht)
  fallPath t u := by rw [Ctl.tip_congr tips, Ctl.tip_congr tips]; exact hc.fallPath t u

theorem newsAt_other {p q : Fin 4} (h : q ≠ p) (news : News) : newsAt p news q = News.quiet := if_neg h

/-- No tip point that an order on RUNNING or HANGUP put at risk is left. -/
theorem TipsClear.of_hung {l : Live} {p : Fin 4} {c : Ctl} {news : News} (lockout : news.lockout = false)
    (hung : Hung l p c) (hc : TipsClear l (newsAt p news) c) : TipsClear l noNews c where
  configured := hc.configured
  openRunning t ht := by
    have hne : (l.tipCfg t).pass ≠ p := fun hp =>
      hung.tips t (mem_tipsOf.2 ⟨hc.configured t (given_of_opened ht), hp⟩) ht
    simpa [newsAt_other hne, News.quiet, noNews] using hc.openRunning t ht
  breakingAllowed t ht := by
    refine .inl ((hc.breakingAllowed t ht).resolve_right ?_)
    unfold newsAt
    split <;> simp [lockout, News.quiet]
  fallPath := hc.fallPath

theorem TipsClear.of_lockedOut {l : Live} {p : Fin 4} {c : Ctl} {news : News}
    (locked : LockedOut l p c) (hc : TipsClear l (newsAt p news) c) : TipsClear l noNews c where
  configured := hc.configured
  openRunning t ht := by
    have hne : (l.tipCfg t).pass ≠ p := fun hp =>
      locked.tips t (mem_tipsOf.2 ⟨hc.configured t (given_of_opened ht), hp⟩) ht
    simpa [newsAt_other hne, News.quiet, noNews] using hc.openRunning t ht
  breakingAllowed t ht := by
    have hne : (l.tipCfg t).pass ≠ p := fun hp =>
      locked.boom t (mem_tipsOf.2 ⟨hc.configured t (given_of_breaking ht), hp⟩) ht
    simpa [newsAt_other hne, News.quiet, noNews] using hc.breakingAllowed t ht
  fallPath := hc.fallPath

theorem TipsClear.enters {l : Live} {owed : Fin 4 → News} {c : Ctl} (p : Fin 4) (r : Pass)
    (hc : TipsClear l owed c) (may : r.state = .running ∨
      (r.state = .hangup ∧ (owed p).hangup = true) ∨ (owed p).lockout = true) :
    TipsClear l owed (c.setPass p r) := by
  refine hc.mono rfl (fun q hq => ?_) (fun q hq => ?_) <;> rw [Ctl.pass_setPass] <;> split
  · next hp => subst hp; tauto
  · exact hq
  · next hp => subst hp; rcases may with run | ⟨hung, -⟩ | locked <;> simp_all
  · exact hq

theorem tipsClear_invariant : MemberInvariant TipsClear where
  closed := tipsClear_closed
  owing more hc := hc.mono rfl (fun p => .imp_right (.imp (more p).1 (more p).2))
    (fun p => .imp_right (more p).2)
  enters p r hc may := hc.enters p r may
  hung _ lockout hung hc := hc.of_hung lockout hung
  lockedOut locked hc := hc.of_lockedOut locked

/-- No tip point is OPEN or BREAKING. -/
theorem TipsClear.of_none_given {l : Live} {owed : Fin 4 → News} {c : Ctl}
    (h : ∀ t, (c.tip t).state.given = false) : TipsClear l owed c where
  configured t ht := by simp [h] at ht
  openRunning t ht := absurd ht (not_given_iff.1 (h t)).1
  breakingAllowed t ht := absurd ht (not_given_iff.1 (h t)).2
  fallPath _ u _ _ := (not_given_iff.1 (h u)).1

/-- R163, check 2: the tip point whose entry is written is neither OPEN nor BREAKING. -/
theorem TipsClear.written_not_given {s : State} {new : Live} {t : Fin 12}
    (locked : s.lockedOut new .tipPoint t.val = true) (hs : TipsClear s.live noNews s.ctl) :
    (s.ctl.tip t).state.given = false := by
  by_contra given
  replace given : (s.ctl.tip t).state.given = true := by simpa using given
  have lockout : (s.ctl.pass (s.live.tipCfg t).pass).state = .lockout :=
    lockout_of_affectsPass locked (by
      simp only [Live.affectsPass, List.any_eq_true]
      exact ⟨t, List.mem_finRange t, by simp [hs.configured t given]⟩)
  cases hx : (s.ctl.tip t).state with
  | opened => simpa [lockout, noNews, News.quiet] using hs.openRunning t hx
  | breaking => simpa [lockout, noNews, News.quiet] using hs.breakingAllowed t hx
  | closed | parking | fault => simp [hx, TipState.given] at given

/-- R163, R164: every tip point that is OPEN or BREAKING keeps its entry. -/
theorem TipsClear.changed {s : State} {kind : EntryKind} {i : Nat} {x : RawEntry}
    (locked : s.lockedOut (s.live.replace kind i x) kind i = true)
    (hs : TipsClear s.live noNews s.ctl) : TipsClear (s.live.replace kind i x) noNews s.ctl := by
  have same (t : Fin 12) (ht : (s.ctl.tip t).state.given = true) :
      (s.live.replace kind i x).tipCfg t = s.live.tipCfg t := by
    refine tipCfg_replace_of_ne fun ⟨hk, hi⟩ => ?_
    subst hk hi
    simp [hs.written_not_given locked] at ht
  refine ⟨fun t ht => ?_, fun t ht => ?_, fun t ht => ?_, fun t u related ht hu => ?_⟩
  · rw [same t ht]; exact hs.configured t ht
  · rw [same t (given_of_opened ht)]; exact hs.openRunning t ht
  · rw [same t (given_of_breaking ht)]; exact hs.breakingAllowed t ht
  · rw [related_congr (same t (given_of_breaking ht)) (same u (given_of_opened hu))] at related
    exact hs.fallPath t u related ht hu

/-- While the image is read no tip point is configured. -/
def Live.NoTips (l : Live) : Prop := ∀ t, (l.tipCfg t).present = false

theorem reset_tipCfg_present (t : Fin 12) : (Live.reset.tipCfg t).present = false := by
  simp [Live.tipCfg, Live.reset, tipCfg, fieldBit]

theorem reset_tip_state (n : Nat) (t : Fin 12) :
    (({ Ctl.reset with freeCount := n } : Ctl).tip t).state = .parking := by
  simp [Ctl.tip, Ctl.reset, Tip.reset]

theorem tipsClear_table : TableInvariant TipsClear Live.NoTips where
  toMemberInvariant := tipsClear_invariant
  bareReset := reset_tipCfg_present
  reset n := .of_none_given fun t => by rw [reset_tip_state]; rfl
  loaded bare hc := .of_none_given fun t => by
    by_contra given
    simpa [bare t] using hc.configured t (by simpa using given)
  changed := TipsClear.changed

theorem fallPathsClear_iff (s : State) : s.FallPathsClear ↔ Kept TipsClear Live.NoTips s := by
  constructor
  · intro h
    refine ⟨⟨h.configured, fun t ht => .inl (h.openRunning t ht), fun t ht => .inl (h.breakingAllowed t ht),
      h.fallPath⟩, h.loading⟩
  · intro h
    exact ⟨h.members.configured,
      fun t ht => by simpa [noNews, News.quiet] using h.members.openRunning t ht,
      fun t ht => by simpa [noNews, News.quiet] using h.members.breakingAllowed t ht,
      h.members.fallPath, h.loading⟩

/-- Settles O59: `TipsClear`, which says what HANGUP and LOCKOUT still owe the tip points, is kept by every
operation of the controllers, and every delivery of news settles what is owed. -/
theorem stepKeepsFallPathsClear : Obligations.StepKeepsFallPathsClear := by
  unfold Obligations.StepKeepsFallPathsClear
  intro s t hs ht
  exact (fallPathsClear_iff t).2 (tipsClear_table.step ((fallPathsClear_iff s).1 hs) ht)

/-! ### The running orders -/

/-- `State.OrdersRun` of the controllers' state, less what HANGUP and LOCKOUT have still to do. -/
structure OrdersClear (l : Live) (owed : Fin 4 → News) (c : Ctl) : Prop where
  present : ∀ n, (c.outlet n).state.active = true → (l.outletCfg n).present = true
  running : ∀ n, (c.outlet n).state.active = true →
    (c.pass (l.outletCfg n).pass).state = .running ∨ (owed (l.outletCfg n).pass).hangup = true ∨
      (owed (l.outletCfg n).pass).lockout = true

theorem OrdersClear.mono {l : Live} {a b : Fin 4 → News} {c d : Ctl} (hc : OrdersClear l a c)
    (outlets : d.outlets = c.outlets)
    (running : ∀ p, (c.pass p).state = .running ∨ (a p).hangup = true ∨ (a p).lockout = true →
      (d.pass p).state = .running ∨ (b p).hangup = true ∨ (b p).lockout = true) :
    OrdersClear l b d where
  present n := by rw [Ctl.outlet_congr outlets]; exact hc.present n
  running n := by rw [Ctl.outlet_congr outlets]; exact fun hn => running _ (hc.running n hn)

/-- R97, R107: an order starts on a configured outlet of a RUNNING pass. -/
theorem OrdersClear.setOutlet {l : Live} {owed : Fin 4 → News} {c : Ctl} {n : Fin 8} {o : Outlet}
    (move : OrderMove l c n o) (hc : OrdersClear l owed c) : OrdersClear l owed (c.setOutlet n o) where
  present m hm := by
    rw [Ctl.outlet_setOutlet] at hm
    split at hm
    · next hnm =>
      subst hnm
      exact (move hm).elim (hc.present _) And.left
    · exact hc.present m hm
  running m hm := by
    rw [Ctl.outlet_setOutlet] at hm
    split at hm
    · next hnm =>
      subst hnm
      exact (move hm).elim (hc.running _) fun starts => .inl starts.2
    · exact hc.running m hm

theorem ordersClear_closed (l : Live) (owed : Fin 4 → News) :
    MembersClosed l (OrdersClear l owed) where
  other c d passes outlets _ hc := hc.mono outlets fun p => by rw [Ctl.pass_congr passes]; exact id
  pass _ _ _ hr hc := hc.mono rfl fun p => by rw [setPass_pass_state hr]; exact id
  outlet _ _ _ move hc := hc.setOutlet move
  tip _ _ _ _ hc := hc.mono rfl fun _ => id

/-- No order that HANGUP or LOCKOUT had still to stop is left. -/
theorem OrdersClear.of_hung {l : Live} {p : Fin 4} {c : Ctl} {news : News} (hung : Hung l p c)
    (hc : OrdersClear l (newsAt p news) c) : OrdersClear l noNews c where
  present := hc.present
  running n hn := by
    have hne : (l.outletCfg n).pass ≠ p := fun hp => by
      simp [hung.outlets n (mem_outletsOf.2 ⟨hc.present n hn, hp⟩)] at hn
    simpa [newsAt_other hne, News.quiet, noNews] using hc.running n hn

theorem ordersClear_invariant : MemberInvariant OrdersClear where
  closed := ordersClear_closed
  owing more hc := hc.mono rfl fun p => .imp_right (.imp (more p).1 (more p).2)
  enters p r hc may := hc.mono rfl fun q hq => by
    rw [Ctl.pass_setPass]
    split
    · next hp => subst hp; tauto
    · exact hq
  hung _ _ hung hc := hc.of_hung hung
  lockedOut locked hc := hc.of_hung locked.toHung

/-- R163, check 2: no order runs on the outlet whose entry is written. -/
theorem OrdersClear.written_not_active {s : State} {new : Live} {n : Fin 8}
    (locked : s.lockedOut new .outlet n.val = true) (hs : OrdersClear s.live noNews s.ctl) :
    (s.ctl.outlet n).state.active = false := by
  by_contra active
  replace active : (s.ctl.outlet n).state.active = true := by simpa using active
  have lockout : (s.ctl.pass (s.live.outletCfg n).pass).state = .lockout :=
    lockout_of_affectsPass locked (by
      simp only [Live.affectsPass, List.any_eq_true]
      exact ⟨n, List.mem_finRange n, by simp [hs.present n active]⟩)
  simpa [lockout, noNews, News.quiet] using hs.running n active

theorem OrdersClear.changed {s : State} {kind : EntryKind} {i : Nat} {x : RawEntry}
    (locked : s.lockedOut (s.live.replace kind i x) kind i = true)
    (hs : OrdersClear s.live noNews s.ctl) : OrdersClear (s.live.replace kind i x) noNews s.ctl := by
  have same (n : Fin 8) (hn : (s.ctl.outlet n).state.active = true) :
      (s.live.replace kind i x).outletCfg n = s.live.outletCfg n := by
    refine outletCfg_replace_of_ne fun ⟨hk, hi⟩ => ?_
    subst hk hi
    simp [hs.written_not_active locked] at hn
  refine ⟨fun n hn => ?_, fun n hn => ?_⟩
  · rw [same n hn]; exact hs.present n hn
  · rw [same n hn]; exact hs.running n hn

/-- While the image is read no outlet is configured. -/
def Live.NoOutlets (l : Live) : Prop := ∀ n, (l.outletCfg n).present = false

theorem reset_outletCfg_present (n : Fin 8) : (Live.reset.outletCfg n).present = false := by
  simp [Live.outletCfg, Live.reset, outletCfg, fieldBit]

theorem reset_outlet_state (k : Nat) (n : Fin 8) :
    (({ Ctl.reset with freeCount := k } : Ctl).outlet n).state = .idle := by
  simp [Ctl.outlet, Ctl.reset, Outlet.reset]

theorem OrdersClear.of_none_active {l : Live} {owed : Fin 4 → News} {c : Ctl}
    (h : ∀ n, (c.outlet n).state.active = false) : OrdersClear l owed c where
  present n hn := by simp [h] at hn
  running n hn := by simp [h] at hn

theorem ordersClear_table : TableInvariant OrdersClear Live.NoOutlets where
  toMemberInvariant := ordersClear_invariant
  bareReset := reset_outletCfg_present
  reset k := .of_none_active fun n => by rw [reset_outlet_state]; rfl
  loaded bare hc := .of_none_active fun n => by
    by_contra active
    simpa [bare n] using hc.present n (by simpa using active)
  changed := OrdersClear.changed

theorem ordersRun_iff (s : State) : s.OrdersRun ↔ Kept OrdersClear Live.NoOutlets s := by
  constructor
  · intro h
    exact ⟨⟨fun n hn => (h.active n hn).1, fun n hn => .inl (h.active n hn).2⟩, h.loading⟩
  · intro h
    exact ⟨fun n hn => ⟨h.members.present n hn,
      by simpa [noNews, News.quiet] using h.members.running n hn⟩, h.loading⟩

/-- Settles O60: as O59, with `OrdersClear` of the outlets. -/
theorem stepKeepsOrdersInRunningPasses : Obligations.StepKeepsOrdersInRunningPasses := by
  unfold Obligations.StepKeepsOrdersInRunningPasses
  intro s t hs ht
  exact (ordersRun_iff t).2 (ordersClear_table.step ((ordersRun_iff s).1 hs) ht)

/-! ### The state at reset -/

theorem queuesBounded_reset : State.reset.QueuesBounded where
  urgent := by decide
  bulk := by decide
  list := by decide
  urgentWait := by decide
  bulkWait := by decide
  loading _ := ⟨rfl, rfl, rfl, rfl, rfl⟩
  reading _ _ _ h := nomatch h

/-- Settles O56: at reset memory and the queues are empty, no tip point is OPEN or BREAKING, no order runs
and nothing is configured. -/
theorem invariantsHoldAtReset : Obligations.InvariantsHoldAtReset :=
  ⟨Memory.wf_nil, queuesBounded_reset,
    (fallPathsClear_iff _).2 ⟨tipsClear_table.reset 0, fun _ => ⟨rfl, reset_tipCfg_present⟩⟩,
    (ordersRun_iff _).2 ⟨ordersClear_table.reset 0, fun _ => ⟨rfl, reset_outletCfg_present⟩⟩,
    levelsNamed_reset⟩

end Sys2Proof.Machine
end

section
/-! Proofs: the records after a reset (R3, R55, R92, R122, R141), the end of the configuration read (R16,
R156, R157) and the fill class (R8). -/

namespace Sys2Proof.Machine

/-! ### The records after a reset -/

/-- What a reset of the blocks leaves in the records, whatever it keeps beside them. -/
structure RecordsReset (t : State) : Prop where
  ctl : ∃ n, t.ctl = { Ctl.reset with freeCount := n }
  stations : t.stations = Vector.replicate 32 Station.reset

theorem recordsReset_cleared (s : State) : RecordsReset s.cleared := ⟨⟨_, rfl⟩, rfl⟩

theorem RecordsReset.of_fullReset {s t : State} (released : s.resetAsserted = false)
    (ht : exec .fullReset s = .next t) : RecordsReset t := by
  rw [exec_fullReset_of_released released] at ht
  cases ht
  exact ⟨⟨_, rfl⟩, rfl⟩

theorem RecordsReset.of_fullResetEnd {s t : State} (asserted : s.resetAsserted = true)
    (ht : exec .fullResetEnd s = .next t) : RecordsReset t := by
  rw [exec_fullResetEnd_of_asserted asserted] at ht
  cases ht
  exact recordsReset_cleared s

theorem exec_responseEnd_of_reload {s : State} {octets : List Octet}
    (released : s.resetAsserted = false) (tx : s.link.tx = some { octets := octets, reload := true }) :
    exec .responseEnd s = .next s.reloadEffect := by
  simp [exec, execResponseEnd, quiet, released, State.endResponse, tx]

theorem RecordsReset.of_responseEnd {s t : State} {octets : List Octet}
    (released : s.resetAsserted = false) (tx : s.link.tx = some { octets := octets, reload := true })
    (ht : exec .responseEnd s = .next t) : RecordsReset t := by
  rw [exec_responseEnd_of_reload released tx] at ht
  cases ht
  exact ⟨⟨_, rfl⟩, rfl⟩

theorem RecordsReset.pass {t : State} (h : RecordsReset t) (p : Fin 4) : t.ctl.pass p = Pass.reset := by
  obtain ⟨n, hn⟩ := h.ctl
  simp [hn, Ctl.pass, Ctl.reset]

theorem RecordsReset.outlet {t : State} (h : RecordsReset t) (n : Fin 8) :
    t.ctl.outlet n = Outlet.reset := by
  obtain ⟨k, hk⟩ := h.ctl
  simp [hk, Ctl.outlet, Ctl.reset]

theorem RecordsReset.tip {t : State} (h : RecordsReset t) (x : Fin 12) : t.ctl.tip x = Tip.reset := by
  obtain ⟨n, hn⟩ := h.ctl
  simp [hn, Ctl.tip, Ctl.reset]

theorem RecordsReset.journal {t : State} (h : RecordsReset t) : t.ctl.journal = Journal.reset := by
  obtain ⟨n, hn⟩ := h.ctl
  rw [hn]; rfl

theorem RecordsReset.station {t : State} (h : RecordsReset t) (i : Fin 32) :
    t.station i = Station.reset := by
  simp [State.station, h.stations]

/-- Settles O3: each of the three commands clears every block. -/
theorem resetAndReloadSetRecords : Obligations.ResetAndReloadSetRecords := by
  unfold Obligations.ResetAndReloadSetRecords
  intro s t taken
  have cleared : RecordsReset t := by
    rcases taken with ⟨released, ht⟩ | ⟨asserted, ht⟩ | ⟨released, ⟨octets, tx⟩, ht⟩
    · exact .of_fullReset released ht
    · exact .of_fullResetEnd asserted ht
    · exact .of_responseEnd released tx ht
  refine ⟨cleared.pass, fun i => ?_, cleared.outlet, cleared.tip, by rw [cleared.journal]; rfl⟩
  rw [cleared.station i]
  exact ⟨rfl, rfl⟩

/-! ### The end of the configuration read -/

/-- R156: the read is in progress, and its end is taken. -/
theorem exec_configLoadComplete {s : State} (image : Option (List Octet))
    (released : s.resetAsserted = false) (starting : s.partState = .starting)
    (loading : s.loading = true) :
    exec (.configLoadComplete image) s = .next (s.completeLoad image).seek := by
  simp [exec, execConfigLoadComplete, event, quiet, released, starting, loading]

theorem completeLoad_bad {s : State} {image : List Octet} {f : Failure} (len : image.length = 1834)
    (fails : imageFailure image = some f) : s.completeLoad (some image) = s.badLoad f := by
  simp [State.completeLoad, len, fails]

theorem completeLoad_good {s : State} {image : List Octet} (len : image.length = 1834)
    (good : imageFailure image = none) : s.completeLoad (some image) = s.goodLoad image := by
  simp [State.completeLoad, len, good]

/-- A fold over passes that changes the record of each of them once, by its own record alone. -/
theorem foldl_setPass_pass {f : Pass → Pass} (q : Fin 4) (ps : List (Fin 4)) (distinct : ps.Nodup) :
    ∀ c : Ctl, (ps.foldl (fun x p => x.setPass p (f (x.pass p))) c).pass q =
      if q ∈ ps then f (c.pass q) else c.pass q := by
  induction ps with
  | nil => simp
  | cons p rest ih =>
    intro c
    obtain ⟨fresh, distinct'⟩ := List.nodup_cons.1 distinct
    rw [List.foldl_cons, ih distinct', Ctl.pass_setPass]
    by_cases hp : p = q
    · subst hp; simp [fresh]
    · simp [hp, Ne.symm hp]

/-- R16: the dwell interval of every configured pass starts. -/
theorem startDwell_dwellTimer (l : Live) (now : Clock) (c : Ctl) (p : Fin 4) :
    ((c.startDwell l now).pass p).dwellTimer =
      if (l.passCfg p).present then some now else (c.pass p).dwellTimer := by
  have started := foldl_setPass_pass (f := fun r => { r with dwellTimer := some now }) p
    ((List.finRange 4).filter fun p => (l.passCfg p).present) ((List.nodup_finRange 4).filter _) c
  simp only [List.mem_filter, List.mem_finRange, true_and] at started
  unfold Ctl.startDwell
  rw [started]
  split <;> rfl

/-- The part right after a good image is read, before SAFING places anything. -/
def State.loadedTable (image : List Octet) (s : State) : State :=
  { s with
    partState := .safing, loading := false, live := imageLive image, identity := payloadWord image 4
    loadStatus := { code := .ok, entry := none }, bases := some (imageLive image).regions
    ctl := s.ctl.startDwell (imageLive image) s.clock }

theorem goodLoad_eq (image : List Octet) (s : State) :
    s.goodLoad image = (s.loadedTable image).beginSafing (imageLive image).safingReads := rfl

theorem safeSlots_passes (l : Live) (c : Ctl) : (c.safeSlots l).passes = c.passes := by
  unfold Ctl.safeSlots
  exact foldl_keeps (Q := fun b : Ctl => b.passes = c.passes)
    (fun b k hb => (Ctl.updSlot_passes b k CommandSlot.safe).trans hb) _ _ rfl

theorem beginSafing_passes (reads : List (Fin 24 × Fin 3)) (s : State) :
    (s.beginSafing reads).ctl.passes = s.ctl.passes := by
  unfold State.beginSafing
  split
  · rw [safeWrites_only]; exact safeSlots_passes ..
  · rfl

theorem beginSafing_cons (k : Fin 24) (w : Fin 3) (rest : List (Fin 24 × Fin 3)) (s : State) :
    s.beginSafing ((k, w) :: rest) = { s with safing := .reads k w rest } := rfl

theorem beginSafing_nil_safing (s : State) : (s.beginSafing []).safing = .writes := by
  unfold State.beginSafing; rw [safeWrites_only]

theorem beginSafing_nil_bulk (s : State) :
    (s.beginSafing []).bulk = s.bulk ++ entriesAt s.regions.control [0, 0] := by
  unfold State.beginSafing; rw [safeWrites_only]

/-- Settles O5: a read that ends badly changes the finding alone, a good one is `State.loadedTable`, from
which SAFING begins. -/
theorem loadCompletes : Obligations.LoadCompletes := by
  unfold Obligations.LoadCompletes
  refine ⟨fun s released starting loading => ⟨?none, fun image f len fails => ?bad⟩,
    fun s image released starting loading len good => ?good⟩
  case none => exact exec_configLoadComplete none released starting loading
  case bad =>
    rw [exec_configLoadComplete _ released starting loading, completeLoad_bad len fails]
    rfl
  case good =>
    rw [exec_configLoadComplete _ released starting loading, completeLoad_good len good, goodLoad_eq]
    refine ⟨_, rfl, ?_⟩
    have sought := seek_only ((s.loadedTable image).beginSafing (imageLive image).safingReads)
    have begun := beginSafing_only (imageLive image).safingReads (s.loadedTable image)
    have dwell (p : Fin 4) := startDwell_dwellTimer (imageLive image) s.clock s.ctl p
    have passes := beginSafing_passes (imageLive image).safingReads (s.loadedTable image)
    unfold DrainerOnly at sought
    rw [sought]
    refine ⟨?_, ?_, ?_, ?_, ?_, ?_, ?_, ?_, fun p => ?_, fun k w rest reads => ?_, fun reads => ?_⟩
    case refine_9 =>
      rw [← dwell p]
      exact congrArg Pass.dwellTimer (Ctl.pass_congr passes p)
    case refine_10 => rw [reads, beginSafing_cons]; exact ⟨rfl, rfl⟩
    case refine_11 =>
      rw [reads]
      exact ⟨beginSafing_nil_safing _, beginSafing_nil_bulk _⟩
    all_goals dsimp only; rw [begun]; rfl

/-! ### The fill class -/

/-- R7: a recomputation of the sides keeps the class, which R8 then decides from them. -/
theorem sides_cls (r : Pass) : r.sides.cls = r.cls := by
  unfold Pass.sides
  repeat' split
  all_goals rfl

/-- R8: the order in which the class is decided, on the sides after the recomputation. -/
theorem estimate_cls_eq {k : PassCfg} {r : Pass} (measured : r.levelValid = true ∨ r.settled = true) :
    (r.estimate k).cls =
      if k.fullMark ≤ (r.estimate k).high then .full
      else if r.cls = .full ∧ k.releaseMark ≤ (r.estimate k).high then .full
      else if k.highMark ≤ (r.estimate k).high then .high
      else if (r.estimate k).low < k.cushionMark then .cushion
      else .working := by
  have taken : (r.levelValid || r.settled) = true := by simpa using measured
  simp only [Pass.estimate, taken, if_true, Pass.classify, sides_cls]

/-- Settles O25: the cases of R8's order, one condition after another. -/
theorem fillClassIsDecided : Obligations.FillClassIsDecided := by
  unfold Obligations.FillClassIsDecided
  intro k r measured x
  have decided := estimate_cls_eq (k := k) measured
  rw [show r.estimate k = x from rfl] at decided
  refine ⟨fun full => ?_, fun below wasFull held => ?_, fun below released =>
    ⟨fun high => ?_, fun low cushion => ?_, fun low working => ?_⟩⟩
  · rw [decided, if_pos full]
  · rw [decided, if_neg (by omega), if_pos ⟨wasFull, held⟩]
  all_goals
    have free : ¬(r.cls = .full ∧ k.releaseMark ≤ x.high) := fun ⟨wasFull, held⟩ =>
      released.elim (· wasFull) (by omega)
    rw [decided, if_neg (by omega), if_neg free]
  · rw [if_pos high]
  · rw [if_neg (by omega), if_pos cushion]
  · rw [if_neg (by omega), if_neg (by omega)]

end Sys2Proof.Machine
end

section
/-! Proofs: the Pass Account, one rule for each change of a pass record (R5 to R19): the record after it, its
journal, its news, and what it leaves alone. -/

namespace Sys2Proof.Machine

/-! ### The journal -/

/-- What a report adds depends on the journal alone. -/
theorem report_journal_congr {e : Env} {kd : RecordKind} {j a b d g : Nat} {x y : Ctl}
    (h : x.journal = y.journal) :
    (x.report e kd j a b d g).journal = (y.report e kd j a b d g).journal := by
  unfold Ctl.report
  split
  · simp only [h]
  · exact h

theorem ite_report_journal_congr_iff {e : Env} {kd : RecordKind} {j a b d g : Nat} {x y : Ctl}
    {q t : Prop} [Decidable q] [Decidable t] (hq : q ↔ t) (h : x.journal = y.journal) :
    (if q then x.report e kd j a b d g else x).journal =
      (if t then y.report e kd j a b d g else y).journal := by
  by_cases ht : t
  · rw [if_pos (hq.2 ht), if_pos ht]; exact report_journal_congr h
  · rw [if_neg (mt hq.1 ht), if_neg ht]; exact h

theorem ite_report_journal_congr {e : Env} {kd : RecordKind} {j a b d g : Nat} {x y : Ctl} {q : Prop}
    [Decidable q] (h : x.journal = y.journal) :
    (if q then x.report e kd j a b d g else x).journal =
      (if q then y.report e kd j a b d g else y).journal := ite_report_journal_congr_iff .rfl h

theorem ite_else_report_journal_congr {e : Env} {kd : RecordKind} {j a b d g : Nat} {x y : Ctl}
    {q : Prop} [Decidable q] (h : x.journal = y.journal) :
    (if q then x else x.report e kd j a b d g).journal =
      (if q then y else y.report e kd j a b d g).journal := by
  split
  · exact h
  · exact report_journal_congr h

/-! ### What a change of one pass record leaves alone -/

/-- The outlets, the tip points and the other passes are as before. -/
structure AtPass (p : Fin 4) (c d : Ctl) : Prop where
  outlets : d.outlets = c.outlets
  tips : d.tips = c.tips
  others : ∀ q, q ≠ p → d.pass q = c.pass q

section
variable {p : Fin 4} {c d : Ctl}

theorem AtPass.refl : AtPass p c c := ⟨rfl, rfl, fun _ _ => rfl⟩

theorem AtPass.trans {x : Ctl} (h : AtPass p c d) (g : AtPass p d x) : AtPass p c x :=
  ⟨g.outlets.trans h.outlets, g.tips.trans h.tips, fun q hq => (g.others q hq).trans (h.others q hq)⟩

theorem AtPass.setPass (r : Pass) : AtPass p c (c.setPass p r) :=
  ⟨rfl, rfl, fun _ hq => Ctl.pass_setPass_other c r (Ne.symm hq)⟩

theorem AtPass.report (e : Env) (kd : RecordKind) (j a b f g : Nat) :
    AtPass p c (c.report e kd j a b f g) := ⟨by simp, by simp, fun _ _ => by simp⟩

theorem AtPass.updSlot (k : Fin 24) (f : CommandSlot → CommandSlot) : AtPass p c (c.updSlot k f) :=
  ⟨rfl, rfl, fun _ _ => rfl⟩

theorem AtPass.ite {q : Prop} [Decidable q] {x y : Ctl} (hx : AtPass p c x) (hy : AtPass p c y) :
    AtPass p c (if q then x else y) := by split <;> assumption

end

/-! ### Recomputation (R7 to R10) -/

/-- R7, R8, R10: the record after a recomputation. -/
def Pass.recomputed (k : PassCfg) (now : Clock) (r : Pass) : Pass :=
  (r.estimate k).judgeDisagreement k now

/-- R7, R8, R10: what a recomputation makes of the record `r`. -/
def Recomputed (e : Env) (p : Fin 4) (r x : Pass) : Prop :=
  let k := e.passCfg p
  let level := r.levelFill
  let stock := r.inventory
  let apart := k.tolerance < max level stock - min level stock
  (r.levelValid = true → r.settled = true → x.high = max level stock ∧ x.low = min level stock) ∧
  (r.levelValid = true → r.settled = false → x.high = level ∧ x.low = level) ∧
  (r.levelValid = false → r.settled = true → x.high = stock ∧ x.low = stock) ∧
  (r.levelValid = false → r.settled = false →
    x.high = r.high ∧ x.low = r.low ∧ x.cls = .unknown) ∧
  (r.levelValid = true ∨ r.settled = true → x.cls =
    if k.fullMark ≤ x.high then .full
    else if r.cls = .full ∧ k.releaseMark ≤ x.high then .full
    else if k.highMark ≤ x.high then .high
    else if x.low < k.cushionMark then .cushion
    else .working) ∧
  (r.levelValid = true → r.settled = true → apart →
    (r.disagree = none → x.disagree = some e.clock) ∧
    (r.disagree ≠ none → x.disagree = r.disagree) ∧ x.reported = r.reported) ∧
  (r.levelValid = true → r.settled = true → ¬apart → x.disagree = none ∧ x.reported = false) ∧
  (r.levelValid = false ∨ r.settled = false → x.disagree = none ∧ x.reported = r.reported)

/-- R7, R8: the estimates move the two sides and the class alone. -/
theorem estimate_eq (k : PassCfg) (r : Pass) :
    r.estimate k =
      { r with high := r.sides.high, low := r.sides.low, cls := (r.estimate k).cls } := by
  unfold Pass.estimate Pass.sides
  cases r.levelValid <;> cases r.settled <;> rfl

/-- R10: a recomputation with both measures evaluates the disagreement. -/
def Pass.disagreementAt (k : PassCfg) (now : Clock) (r : Pass) : Option Clock × Bool :=
  if r.levelValid && r.settled then
    if r.differs k then (some (r.disagree.getD now), r.reported) else (none, false)
  else (none, r.reported)

/-- R7 to R10: a recomputation moves the sides, the class, the disagreement timer and its flag alone. -/
theorem recomputed_eq (k : PassCfg) (now : Clock) (r : Pass) :
    r.recomputed k now =
      { r with
        high := r.sides.high, low := r.sides.low, cls := (r.estimate k).cls
        disagree := (r.disagreementAt k now).1, reported := (r.disagreementAt k now).2 } := by
  unfold Pass.recomputed
  rw [estimate_eq]
  generalize r.sides.high = high, r.sides.low = low, (r.estimate k).cls = cls
  unfold Pass.judgeDisagreement Pass.disagreementAt
  by_cases both : (r.levelValid && r.settled) = true
  · by_cases apart : r.differs k = true
    · simp only [both, if_true, apart]
      exact if_pos apart
    · simp only [both, if_true, apart]
      exact if_neg apart
  · simp only [both]
    rfl

theorem recomputed_fixed (k : PassCfg) (now : Clock) (r : Pass) :
    r.recomputed k now =
      { r with
        high := (r.recomputed k now).high, low := (r.recomputed k now).low
        cls := (r.recomputed k now).cls, disagree := (r.recomputed k now).disagree
        reported := (r.recomputed k now).reported } := by
  rw [recomputed_eq]

/-- R7 to R10: a recomputation decides the sides, the class and the disagreement by their tables. -/
theorem recomputed_decided (e : Env) (p : Fin 4) (r : Pass) :
    Recomputed e p r (r.recomputed (e.passCfg p) e.clock) := by
  have classified := estimate_cls_eq (k := e.passCfg p) (r := r)
  have unmeasured (hv : r.levelValid = false) (hs : r.settled = false) :
      (r.estimate (e.passCfg p)).cls = .unknown := by simp [Pass.estimate, hv, hs]
  rw [estimate_eq] at classified
  rw [recomputed_eq]
  refine ⟨fun hv hs => ?_, fun hv hs => ?_, fun hv hs => ?_, fun hv hs => ?_, classified,
    fun hv hs ha => ?_, fun hv hs ha => ?_, fun hn => ?_⟩
  case refine_4 => exact ⟨by simp [Pass.sides, hv, hs], by simp [Pass.sides, hv, hs], unmeasured hv hs⟩
  case refine_5 =>
    refine ⟨fun hd => ?_, fun hd => ?_, ?_⟩
    · simp [Pass.disagreementAt, hv, hs, Pass.differs, ha, hd]
    · obtain ⟨since, hd⟩ := Option.ne_none_iff_exists'.1 hd
      simp [Pass.disagreementAt, hv, hs, Pass.differs, ha, hd]
    · simp [Pass.disagreementAt, hv, hs, Pass.differs, ha]
  case refine_6 => simp [Pass.disagreementAt, hv, hs, Pass.differs, ha]
  case refine_7 => rcases hn with hn | hn <;> simp [Pass.disagreementAt, hn]
  all_goals simp [Pass.sides, hv, hs]

/-- The table reads the measures, the class before, the disagreement and its flag, and speaks of the sides,
the class and the disagreement after. -/
theorem Recomputed.congr {e : Env} {p : Fin 4} {r x y : Pass} (h : Recomputed e p r x)
    (high : y.high = x.high) (low : y.low = x.low) (cls : y.cls = x.cls)
    (disagree : y.disagree = x.disagree) (reported : y.reported = x.reported) :
    Recomputed e p r y := by
  unfold Recomputed at h ⊢
  rw [high, low, cls, disagree, reported]
  exact h

/-- Records that agree in what a recomputation reads are recomputed alike. -/
theorem Recomputed.congr_before {e : Env} {p : Fin 4} {q r x : Pass} (h : Recomputed e p q x)
    (measures : r.levelFill = q.levelFill ∧ r.levelValid = q.levelValid ∧ r.inventory = q.inventory ∧
      r.settled = q.settled)
    (sides : r.high = q.high ∧ r.low = q.low ∧ r.cls = q.cls)
    (timer : r.disagree = q.disagree ∧ r.reported = q.reported) : Recomputed e p r x := by
  obtain ⟨fill, valid, inventory, settled⟩ := measures
  obtain ⟨high, low, cls⟩ := sides
  obtain ⟨disagree, reported⟩ := timer
  unfold Recomputed at h ⊢
  rw [fill, valid, inventory, settled, high, low, cls, disagree, reported]
  exact h

theorem belowCushion_iff {k : PassCfg} {r : Pass} :
    r.belowCushion k = true ↔ r.cls ≠ .unknown ∧ r.low < k.cushionMark := by
  simp [Pass.belowCushion]

section
variable (e : Env) (p : Fin 4) (b : Bool) (c : Ctl)

theorem recomputeFrom_pass : (recomputeFrom e p b c).1.pass p =
    (c.pass p).recomputed (e.passCfg p) e.clock := by
  simp only [recomputeFrom]
  split <;> simp [Pass.recomputed]

theorem recomputeFrom_atPass : AtPass p c (recomputeFrom e p b c).1 :=
  (AtPass.setPass _).trans (.ite .refl (.report ..))

theorem recomputeFrom_journal : (recomputeFrom e p b c).1.journal =
    (if ((recomputeFrom e p b c).1.pass p).cls = (c.pass p).cls then c
      else c.report e .fillClass p.val (c.pass p).cls.code ((recomputeFrom e p b c).1.pass p).cls.code
        ((recomputeFrom e p b c).1.pass p).high ((recomputeFrom e p b c).1.pass p).low).journal := by
  simp only [recomputeFrom_pass]
  exact ite_else_report_journal_congr rfl

/-- R7, R8: a recomputation moves passes and journal alone. -/
theorem recomputeFrom_only : (recomputeFrom e p b c).1 =
    { c with
      passes := (recomputeFrom e p b c).1.passes, journal := (recomputeFrom e p b c).1.journal } := by
  simp only [recomputeFrom]
  split
  · rfl
  · unfold Ctl.report; split <;> rfl

/-- R9: the events that a recomputation makes. -/
theorem recomputeFrom_news : (recomputeFrom e p b c).2 =
    let x := (recomputeFrom e p b c).1.pass p
    { full := x.cls == .full && (c.pass p).cls != .full
      cushion := x.belowCushion (e.passCfg p) && !b
      hangup := false
      lockout := false
      touched := x.cls != (c.pass p).cls || x.belowCushion (e.passCfg p) != b } := by
  rw [recomputeFrom_pass]
  rfl

end

end Sys2Proof.Machine
end

section
/-! Proofs: debits, credits, level reports and moisture reports at a pass (R5, R6, R11, R12, R15 to R19). -/

namespace Sys2Proof.Machine

/-! ### Hang-up (R11, R12, R14) -/

/-- R11, R12: the record after a debit has fed the accumulator. -/
def Pass.accumulated (k : PassCfg) (m : Nat) (r : Pass) : Pass :=
  if r.state = .running ∧ r.levelValid = true then
    if k.threshold ≤ satAdd 65535 r.accumulator m then
      { r with accumulator := satAdd 65535 r.accumulator m, state := .hangup, cause := .levelStatic }
    else { r with accumulator := satAdd 65535 r.accumulator m }
  else r

section
variable (e : Env) (p : Fin 4)

theorem enterHangup_pass (k : HangCause) (c : Ctl) :
    (enterHangup e p k c).1.pass p = { c.pass p with state := .hangup, cause := k } := by
  simp [enterHangup, Ctl.ownDemand]

theorem enterHangup_atPass (k : HangCause) (c : Ctl) : AtPass p c (enterHangup e p k c).1 :=
  ((AtPass.setPass _).trans (.updSlot ..)).trans (.report ..)

theorem accumulate_pass (m : Nat) (c : Ctl) :
    (accumulate e p m c).1.pass p = (c.pass p).accumulated (e.passCfg p) m := by
  simp only [accumulate, Pass.accumulated]
  split
  · split
    · rw [enterHangup_pass, Ctl.pass_setPass_same]
    · exact Ctl.pass_setPass_same ..
  · rfl

theorem accumulate_atPass (m : Nat) (c : Ctl) : AtPass p c (accumulate e p m c).1 := by
  simp only [accumulate]
  split
  · split
    · exact (AtPass.setPass _).trans (enterHangup_atPass ..)
    · exact .setPass _
  · exact .refl

theorem accumulate_journal (m : Nat) (c : Ctl) : (accumulate e p m c).1.journal =
    (if (c.pass p).state = .running ∧ (c.pass p).levelValid = true ∧
        (e.passCfg p).threshold ≤ satAdd 65535 (c.pass p).accumulator m then
      c.report e .passState p.val 1 2 1 0 else c).journal := by
  simp only [accumulate, ← and_assoc]
  by_cases fed : (c.pass p).state = .running ∧ (c.pass p).levelValid = true
  · by_cases reached : (e.passCfg p).threshold ≤ satAdd 65535 (c.pass p).accumulator m
    · rw [if_pos fed, if_pos reached, if_pos ⟨fed, reached⟩]
      exact report_journal_congr rfl
    · rw [if_pos fed, if_neg reached, if_neg (fun h => reached h.2)]
      rfl
  · rw [if_neg fed, if_neg (fun h => fed h.1)]

/-- R14: the demand that a hang-up places in the slot of the pass. -/
theorem accumulate_demand {m : Nat} {c : Ctl} (running : (c.pass p).state = .running)
    (valid : (c.pass p).levelValid = true)
    (reached : (e.passCfg p).threshold ≤ satAdd 65535 (c.pass p).accumulator m) :
    ((accumulate e p m c).1.slot (passSlot p)).wb.demand =
      some (joinWord (c.slot (passSlot p)).lastTag 2) ∧ (accumulate e p m c).2.hangup = true := by
  simp only [accumulate, if_pos (And.intro running valid), if_pos reached]
  simp [enterHangup, Ctl.ownDemand, Ctl.slot_updSlot_same, CommandSlot.putDemand]
  rfl

end

/-! ### Wetness and the restriction (R15 to R19) -/

theorem wetEffective_iff {r : Pass} :
    r.wetEffective = true ↔ r.hostWet = true ∨ r.sensorWet = .wet := by
  simp [Pass.wetEffective]

/-- R16: the dwell timer after the end of a restriction. -/
def Ctl.restartedDwell (e : Env) (p : Fin 4) (c : Ctl) : Option Clock :=
  if c.anyFlowing e p then (c.pass p).dwellTimer else some e.clock

/-- R17: the record after the activation test. -/
def Pass.activated (k : PassCfg) (r : Pass) : Pass :=
  if r.wetActive = false ∧ r.wetEffective = true ∧ k.wetDwell ≤ r.dwell then
    { r with wetActive := true, loosened := 0 }
  else r

/-- R19: the record after the ending test; the dwell interval goes on from `timer`. -/
def Pass.tested (k : PassCfg) (timer : Option Clock) (r : Pass) : Pass :=
  if r.wetActive = true ∧ (k.loosening ≤ r.loosened ∨ ¬r.wetEffective = true) then
    { r with wetActive := false, loosened := 0, dwell := 0, dwellTimer := timer }
  else r

/-- R18: the record after a debit has added to the loosening mass. -/
def Pass.loosenedBy (k : PassCfg) (timer : Option Clock) (m : Nat) (r : Pass) : Pass :=
  if r.wetActive = true then
    ({ r with loosened := satAdd 65535 r.loosened m } : Pass).tested k timer
  else r

section
variable (e : Env) (p : Fin 4) (c : Ctl)

theorem activationTest_pass :
    (activationTest e p c).1.pass p = (c.pass p).activated (e.passCfg p) := by
  simp only [activationTest, Pass.activated]
  split <;> simp

theorem activationTest_journal : (activationTest e p c).1.journal =
    (if (c.pass p).wetActive = false ∧ (c.pass p).wetEffective = true ∧
        (e.passCfg p).wetDwell ≤ (c.pass p).dwell then
      c.report e .wetRestrict p.val 1 (c.pass p).dwell (c.pass p).wetSource 0
    else c).journal := by
  simp only [activationTest]
  split
  · exact report_journal_congr rfl
  · rfl

/-- R17: an activation is a pass event without an immediate effect at the members. -/
theorem activationTest_news : ∃ b, (activationTest e p c).2 = News.touch b := by
  simp only [activationTest]
  split
  · exact ⟨true, rfl⟩
  · exact ⟨false, rfl⟩

theorem endingTest_pass :
    (endingTest e p c).1.pass p = (c.pass p).tested (e.passCfg p) (c.restartedDwell e p) := by
  by_cases active : (c.pass p).wetActive = true <;>
    by_cases reached : (e.passCfg p).loosening ≤ (c.pass p).loosened <;>
    by_cases wet : (c.pass p).wetEffective = true <;>
    simp [endingTest, Pass.tested, endRestriction, Ctl.restartedDwell, active, reached, wet]

theorem endingTest_atPass : AtPass p c (endingTest e p c).1 := by
  have ended (cause : Nat) : AtPass p c (endRestriction e p cause c).1 :=
    (AtPass.setPass _).trans (.report ..)
  simp only [endingTest]
  repeat' split
  · exact ended 1
  · exact .refl
  · exact ended 2
  · exact .refl

theorem endingTest_journal : (endingTest e p c).1.journal =
    (if (c.pass p).wetActive = true ∧
        ((e.passCfg p).loosening ≤ (c.pass p).loosened ∨ ¬(c.pass p).wetEffective = true) then
      c.report e .wetRestrict p.val 2 (if (e.passCfg p).loosening ≤ (c.pass p).loosened then 1 else 2)
        (c.pass p).loosened 0
    else c).journal := by
  have ended (cause : Nat) : (endRestriction e p cause c).1.journal =
      (c.report e .wetRestrict p.val 2 cause (c.pass p).loosened 0).journal := report_journal_congr rfl
  by_cases active : (c.pass p).wetActive = true <;>
    by_cases reached : (e.passCfg p).loosening ≤ (c.pass p).loosened <;>
    by_cases wet : (c.pass p).wetEffective = true <;>
    simp [endingTest, active, reached, wet, ended]

theorem endingTest_slot (k : Fin 24) : (endingTest e p c).1.slot k = c.slot k := by
  simp only [endingTest, endRestriction]
  repeat' split
  all_goals simp

theorem loosen_pass (m : Nat) : (loosen e p m c).1.pass p =
    (c.pass p).loosenedBy (e.passCfg p) (c.restartedDwell e p) m := by
  simp only [loosen, Pass.loosenedBy]
  split
  · rw [endingTest_pass]
    simp [Ctl.restartedDwell, Ctl.anyFlowing]
  · rfl

theorem loosen_atPass (m : Nat) : AtPass p c (loosen e p m c).1 := by
  simp only [loosen]
  split
  · exact (AtPass.setPass _).trans (endingTest_atPass ..)
  · exact .refl

theorem loosen_journal (m : Nat) : (loosen e p m c).1.journal =
    (if (c.pass p).wetActive = true ∧
        ((e.passCfg p).loosening ≤ satAdd 65535 (c.pass p).loosened m ∨
          ¬(c.pass p).wetEffective = true) then
      c.report e .wetRestrict p.val 2
        (if (e.passCfg p).loosening ≤ satAdd 65535 (c.pass p).loosened m then 1 else 2)
        (satAdd 65535 (c.pass p).loosened m) 0
    else c).journal := by
  simp only [loosen]
  split
  · next active =>
    rw [endingTest_journal]
    simp only [Ctl.pass_setPass_same, active, true_and]
    exact ite_report_journal_congr rfl
  · next idle => rw [if_neg (fun h => idle h.1)]

theorem loosen_slot (m : Nat) (k : Fin 24) : (loosen e p m c).1.slot k = c.slot k := by
  simp only [loosen]
  split
  · rw [endingTest_slot]; rfl
  · rfl

end

/-! ### Inventory (R5, R6) -/

/-- R5: the first part of a debit, the inventory and the estimates that follow from it. -/
def debitInventory (e : Env) (p : Fin 4) (m : Nat) (c : Ctl) : Ctl × News :=
  let r := c.pass p
  let c1 := c.setPass p { r with inventory := r.inventory - m }
  let c2 := if r.inventory < m then c1.report e .inventoryClamp p.val 2 (m - r.inventory) 0 0 else c1
  if r.inventory - m = r.inventory then (c2, News.quiet) else recompute e p c2

/-- Log 13: the parts of a debit in their order. -/
theorem debit_eq (e : Env) (p : Fin 4) (m : Nat) (c : Ctl) :
    debit e p m c =
      andThen (andThen (debitInventory e p m c) (accumulate e p m)) (loosen e p m) := rfl

/-- R5: the record after an inventory has moved to `v`. -/
def Pass.stocked (k : PassCfg) (now : Clock) (v : Nat) (r : Pass) : Pass :=
  if v = r.inventory then r else ({ r with inventory := v } : Pass).recomputed k now

section
variable (e : Env) (p : Fin 4) (c : Ctl)

/-- R5: an inventory moves to `v`; where that changes it, a recomputation follows. -/
theorem stocked_pass {v : Nat} {d : Ctl} (hd : d.pass p = { c.pass p with inventory := v }) :
    (if v = (c.pass p).inventory then (d, News.quiet) else recompute e p d).1.pass p =
      (c.pass p).stocked (e.passCfg p) e.clock v := by
  unfold Pass.stocked
  split
  · next same => rw [hd, same]
  · rw [recompute, recomputeFrom_pass, hd]

theorem stocked_atPass {v : Nat} {d : Ctl} (hd : AtPass p c d) :
    AtPass p c (if v = (c.pass p).inventory then (d, News.quiet) else recompute e p d).1 := by
  split
  · exact hd
  · exact hd.trans (recomputeFrom_atPass ..)

theorem stocked_journal {v : Nat} {d j : Ctl} (hd : d.pass p = { c.pass p with inventory := v })
    (hj : d.journal = j.journal) :
    (if v = (c.pass p).inventory then (d, News.quiet) else recompute e p d).1.journal =
      (if ((c.pass p).stocked (e.passCfg p) e.clock v).cls = (c.pass p).cls then j
        else j.report e .fillClass p.val (c.pass p).cls.code
          ((c.pass p).stocked (e.passCfg p) e.clock v).cls.code
          ((c.pass p).stocked (e.passCfg p) e.clock v).high
          ((c.pass p).stocked (e.passCfg p) e.clock v).low).journal := by
  unfold Pass.stocked
  split
  · rw [if_pos rfl]; exact hj
  · rw [recompute, recomputeFrom_journal, recomputeFrom_pass, hd]
    exact ite_else_report_journal_congr hj

theorem stocked_news {v : Nat} {d : Ctl} (hd : d.pass p = { c.pass p with inventory := v }) :
    (if v = (c.pass p).inventory then (d, News.quiet) else recompute e p d).2 =
      let x := (c.pass p).stocked (e.passCfg p) e.clock v
      { full := x.cls == .full && (c.pass p).cls != .full
        cushion := x.belowCushion (e.passCfg p) && !(c.pass p).belowCushion (e.passCfg p)
        hangup := false
        lockout := false
        touched := x.cls != (c.pass p).cls ||
          x.belowCushion (e.passCfg p) != (c.pass p).belowCushion (e.passCfg p) } := by
  unfold Pass.stocked
  split
  · simp [News.quiet]
  · rw [recompute, recomputeFrom_news, recomputeFrom_pass, hd]
    rfl

theorem stocked_slot {v : Nat} {d : Ctl} (k : Fin 24) :
    (if v = (c.pass p).inventory then (d, News.quiet) else recompute e p d).1.slot k = d.slot k := by
  split
  · rfl
  · simp only [recompute]; rw [recomputeFrom_only]; rfl

/-- R7 to R10: a stocked record follows the tables where its inventory moved. -/
theorem stocked_moved {v : Nat} {r : Pass} (moved : v ≠ r.inventory) :
    Recomputed e p { r with inventory := v } (r.stocked (e.passCfg p) e.clock v) := by
  rw [Pass.stocked, if_neg moved]
  exact recomputed_decided ..

theorem stocked_fixed (k : PassCfg) (now : Clock) (v : Nat) (r : Pass) :
    r.stocked k now v =
      { r with
        inventory := v, high := (r.stocked k now v).high, low := (r.stocked k now v).low
        cls := (r.stocked k now v).cls, disagree := (r.stocked k now v).disagree
        reported := (r.stocked k now v).reported } := by
  unfold Pass.stocked
  split
  · next same => rw [same]
  · exact recomputed_fixed ..

/-- R5: a clamp is journaled, the record apart. -/
theorem clamped_pass {q : Prop} [Decidable q] (r : Pass) (a b : Nat) :
    (if q then (c.setPass p r).report e .inventoryClamp p.val a b 0 0 else c.setPass p r).pass p = r := by
  split <;> simp

theorem debitInventory_pass (m : Nat) : (debitInventory e p m c).1.pass p =
    (c.pass p).stocked (e.passCfg p) e.clock ((c.pass p).inventory - m) :=
  stocked_pass e p c (clamped_pass ..)

theorem debitInventory_atPass (m : Nat) : AtPass p c (debitInventory e p m c).1 :=
  stocked_atPass e p c (.ite ((AtPass.setPass _).trans (.report ..)) (.setPass _))

theorem debitInventory_slot (m : Nat) (k : Fin 24) :
    (debitInventory e p m c).1.slot k = c.slot k := by
  simp only [debitInventory]
  rw [stocked_slot]
  split <;> simp

theorem debitInventory_journal (m : Nat) : (debitInventory e p m c).1.journal =
    let x := (debitInventory e p m c).1.pass p
    let j := if (c.pass p).inventory < m then
        c.report e .inventoryClamp p.val 2 (m - (c.pass p).inventory) 0 0 else c
    (if x.cls = (c.pass p).cls then j
      else j.report e .fillClass p.val (c.pass p).cls.code x.cls.code x.high x.low).journal := by
  rw [debitInventory_pass]
  exact stocked_journal e p c (clamped_pass ..) (ite_report_journal_congr rfl)

theorem credit_pass (m : Nat) : (credit e p m c).1.pass p =
    (c.pass p).stocked (e.passCfg p) e.clock
      (min (e.passCfg p).capacity ((c.pass p).inventory + m)) :=
  stocked_pass e p c (clamped_pass ..)

theorem credit_atPass (m : Nat) : AtPass p c (credit e p m c).1 :=
  stocked_atPass e p c (.ite ((AtPass.setPass _).trans (.report ..)) (.setPass _))

theorem credit_journal (m : Nat) : (credit e p m c).1.journal =
    let x := (credit e p m c).1.pass p
    let j := if (e.passCfg p).capacity < (c.pass p).inventory + m then
        c.report e .inventoryClamp p.val 1
          (min 65535 ((c.pass p).inventory + m - (e.passCfg p).capacity)) 0 0
      else c
    (if x.cls = (c.pass p).cls then j
      else j.report e .fillClass p.val (c.pass p).cls.code x.cls.code x.high x.low).journal := by
  rw [credit_pass]
  exact stocked_journal e p c (clamped_pass ..) (ite_report_journal_congr rfl)

/-- R5, R12, R18: the record after a debit, part by part. -/
theorem debit_pass (m : Nat) : (debit e p m c).1.pass p =
    (((c.pass p).stocked (e.passCfg p) e.clock ((c.pass p).inventory - m)).accumulated
      (e.passCfg p) m).loosenedBy (e.passCfg p)
        ((accumulate e p m (debitInventory e p m c).1).1.restartedDwell e p) m := by
  rw [debit_eq]
  dsimp only [andThen]
  rw [loosen_pass, accumulate_pass, debitInventory_pass]

theorem debit_atPass (m : Nat) : AtPass p c (debit e p m c).1 :=
  ((debitInventory_atPass ..).trans (accumulate_atPass ..)).trans (loosen_atPass ..)

end

/-! ### The debit, part by part -/

/-- What the estimates read and decide is as before. -/
structure SameEstimates (r x : Pass) : Prop where
  inventory : x.inventory = r.inventory
  settled : x.settled = r.settled
  levelFill : x.levelFill = r.levelFill
  levelValid : x.levelValid = r.levelValid
  high : x.high = r.high
  low : x.low = r.low
  cls : x.cls = r.cls
  disagree : x.disagree = r.disagree
  reported : x.reported = r.reported

/-- The pass state and the hang-up accumulator are as before. -/
structure SameHangup (r x : Pass) : Prop where
  state : x.state = r.state
  cause : x.cause = r.cause
  accumulator : x.accumulator = r.accumulator
  levelValid : x.levelValid = r.levelValid

/-- Wetness, dwell and restriction are as before. -/
structure SameWetness (r x : Pass) : Prop where
  hostWet : x.hostWet = r.hostWet
  sensorWet : x.sensorWet = r.sensorWet
  wetActive : x.wetActive = r.wetActive
  dwell : x.dwell = r.dwell
  loosened : x.loosened = r.loosened

section
variable (k : PassCfg) (timer : Option Clock) (m : Nat) (r : Pass)

theorem stocked_hangup (now : Clock) (v : Nat) : SameHangup r (r.stocked k now v) := by
  rw [stocked_fixed]; exact ⟨rfl, rfl, rfl, rfl⟩

theorem stocked_wetness (now : Clock) (v : Nat) : SameWetness r (r.stocked k now v) := by
  rw [stocked_fixed]; exact ⟨rfl, rfl, rfl, rfl, rfl⟩

theorem accumulated_estimates : SameEstimates r (r.accumulated k m) := by
  unfold Pass.accumulated
  repeat' split
  all_goals exact ⟨rfl, rfl, rfl, rfl, rfl, rfl, rfl, rfl, rfl⟩

theorem accumulated_wetness : SameWetness r (r.accumulated k m) := by
  unfold Pass.accumulated
  repeat' split
  all_goals exact ⟨rfl, rfl, rfl, rfl, rfl⟩

theorem tested_estimates : SameEstimates r (r.tested k timer) := by
  unfold Pass.tested
  split
  all_goals exact ⟨rfl, rfl, rfl, rfl, rfl, rfl, rfl, rfl, rfl⟩

theorem tested_hangup : SameHangup r (r.tested k timer) := by
  unfold Pass.tested
  split
  all_goals exact ⟨rfl, rfl, rfl, rfl⟩

theorem loosenedBy_estimates : SameEstimates r (r.loosenedBy k timer m) := by
  unfold Pass.loosenedBy
  split
  · obtain ⟨h1, h2, h3, h4, h5, h6, h7, h8, h9⟩ :=
      tested_estimates k timer { r with loosened := satAdd 65535 r.loosened m }
    exact ⟨h1, h2, h3, h4, h5, h6, h7, h8, h9⟩
  · exact ⟨rfl, rfl, rfl, rfl, rfl, rfl, rfl, rfl, rfl⟩

theorem loosenedBy_hangup : SameHangup r (r.loosenedBy k timer m) := by
  unfold Pass.loosenedBy
  split
  · obtain ⟨h1, h2, h3, h4⟩ := tested_hangup k timer { r with loosened := satAdd 65535 r.loosened m }
    exact ⟨h1, h2, h3, h4⟩
  · exact ⟨rfl, rfl, rfl, rfl⟩

/-- R12: what a debit makes of the accumulator and of the state of a RUNNING pass with a valid level. -/
theorem accumulated_running (running : r.state = .running) (valid : r.levelValid = true) :
    (r.accumulated k m).accumulator = satAdd 65535 r.accumulator m ∧
    (satAdd 65535 r.accumulator m < k.threshold → (r.accumulated k m).state = .running) ∧
    (k.threshold ≤ satAdd 65535 r.accumulator m →
      (r.accumulated k m).state = .hangup ∧ (r.accumulated k m).cause = .levelStatic) := by
  unfold Pass.accumulated
  rw [if_pos ⟨running, valid⟩]
  split
  · next reached => exact ⟨rfl, fun low => absurd reached (by omega), fun _ => ⟨rfl, rfl⟩⟩
  · next low => exact ⟨rfl, fun _ => running, fun reached => absurd reached low⟩

theorem accumulated_idle (idle : r.state ≠ .running ∨ r.levelValid = false) :
    r.accumulated k m = r := by
  unfold Pass.accumulated
  rw [if_neg]
  rintro ⟨running, valid⟩
  rcases idle with idle | idle
  · exact idle running
  · simp [idle] at valid

/-- R19: the ending test ends the restriction, or leaves the record. -/
theorem tested_active (active : r.wetActive = true) :
    (k.loosening ≤ r.loosened ∨ ¬r.wetEffective = true → (r.tested k timer).wetActive = false ∧
      (r.tested k timer).loosened = 0 ∧ (r.tested k timer).dwell = 0) ∧
    (r.loosened < k.loosening → r.wetEffective = true → r.tested k timer = r) := by
  unfold Pass.tested
  refine ⟨fun ends => ?_, fun low wet => ?_⟩
  · rw [if_pos ⟨active, ends⟩]; exact ⟨rfl, rfl, rfl⟩
  · rw [if_neg]
    rintro ⟨-, reached | dry⟩
    · omega
    · exact dry wet

theorem tested_inactive (idle : r.wetActive = false) : r.tested k timer = r := by
  unfold Pass.tested
  rw [if_neg (by simp [idle])]

end

/-! ### Level reports (R6, R7, R11) -/

/-- R11: a level report moves the reference and the accumulator of the record alone. -/
theorem moveReference_eq (k : PassCfg) (b : Bool) (r : Pass) :
    r.moveReference k b =
      { r with
        reference := (r.moveReference k b).reference
        accumulator := (r.moveReference k b).accumulator } := by
  unfold Pass.moveReference
  repeat' split
  all_goals rfl

/-- R6: the record after an unsettled inventory has been settled by a valid level. -/
def Pass.rebased (fill : Nat) (r : Pass) : Pass :=
  if r.levelValid = true ∧ r.settled = false then { r with inventory := fill, settled := true } else r

/-- R6, R11: the record that a level report hands to the recomputation. -/
def Pass.levelled (k : PassCfg) (fill : Nat) (valid : Bool) (r : Pass) : Pass :=
  (({ r with levelFill := fill, levelValid := valid } : Pass).moveReference k r.levelValid).rebased fill

theorem levelled_eq (k : PassCfg) (fill : Nat) (valid : Bool) (r : Pass) :
    r.levelled k fill valid =
      { r with
        levelFill := fill, levelValid := valid
        inventory := if valid = true ∧ r.settled = false then fill else r.inventory
        settled := r.settled || valid
        reference :=
          (({ r with levelFill := fill, levelValid := valid } : Pass).moveReference k
            r.levelValid).reference
        accumulator :=
          (({ r with levelFill := fill, levelValid := valid } : Pass).moveReference k
            r.levelValid).accumulator } := by
  unfold Pass.levelled
  rw [moveReference_eq]
  unfold Pass.rebased
  cases valid <;> cases r.settled <;> simp

section
variable (e : Env) (p : Fin 4) (fill : Nat) (valid : Bool) (c : Ctl)

/-- The state between the settling of a level report and its recomputation. -/
def levelTaken (e : Env) (p : Fin 4) (fill : Nat) (valid : Bool) (c : Ctl) : Ctl :=
  let c1 := c.setPass p
    (({ c.pass p with levelFill := fill, levelValid := valid } : Pass).moveReference (e.passCfg p)
      (c.pass p).levelValid)
  if valid && !(c.pass p).settled then settleInventory e p 1 fill c1 else c1

theorem levelReport_eq : levelReport e p fill valid c =
    recomputeFrom e p ((c.pass p).belowCushion (e.passCfg p)) (levelTaken e p fill valid c) := rfl

theorem levelTaken_pass :
    (levelTaken e p fill valid c).pass p = (c.pass p).levelled (e.passCfg p) fill valid := by
  have moved := moveReference_eq (e.passCfg p) (c.pass p).levelValid
    { c.pass p with levelFill := fill, levelValid := valid }
  rw [levelled_eq]
  simp only [levelTaken, settleInventory]
  rw [moved]
  cases valid <;> cases hs : (c.pass p).settled <;> simp [hs]

theorem levelTaken_journal : (levelTaken e p fill valid c).journal =
    (if valid = true ∧ (c.pass p).settled = false then
        c.report e .rebase p.val 1 (c.pass p).inventory fill 0
      else c).journal := by
  have moved := congrArg Pass.inventory (moveReference_eq (e.passCfg p) (c.pass p).levelValid
    { c.pass p with levelFill := fill, levelValid := valid })
  simp only [levelTaken, settleInventory, Ctl.pass_setPass_same, moved, Bool.and_eq_true,
    Bool.not_eq_true']
  split
  · exact report_journal_congr rfl
  · rfl

/-- R11: what a level report does to the reference and the accumulator. -/
theorem moveReference_report (r : Pass) (k : PassCfg) :
    let d := ({ r with levelFill := fill, levelValid := valid } : Pass).moveReference k r.levelValid
    let kept := d.reference = r.reference ∧ d.accumulator = r.accumulator
    (r.state = .running → valid = true →
      (r.levelValid = false → d.reference = fill ∧ d.accumulator = 0) ∧
      (r.levelValid = true →
        (r.reference < fill → d.reference = fill ∧ d.accumulator = r.accumulator) ∧
        (fill ≤ r.reference → fill + k.fallStep ≤ r.reference →
          d.reference = fill ∧ d.accumulator = 0) ∧
        (fill ≤ r.reference → r.reference < fill + k.fallStep → kept))) ∧
    (r.state ≠ .running ∨ valid = false → kept) := by
  unfold Pass.moveReference
  refine ⟨fun running isValid => ⟨fun was => ?_, fun was => ⟨fun up => ?_, fun low down => ?_,
    fun low small => ?_⟩⟩, fun idle => ?_⟩
  · simp [running, isValid, was]
  · simp [running, isValid, was, up]
  · simp [running, isValid, was, Nat.not_lt.2 low, down]
  · simp [running, isValid, was, Nat.not_lt.2 low, Nat.not_le.2 small]
  · rw [if_neg]
    · exact ⟨rfl, rfl⟩
    · rintro ⟨running, isValid⟩
      rcases idle with idle | idle
      · exact idle running
      · exact absurd isValid (by simp [idle])

end

/-! ### Moisture reports (R15) -/

section
variable (e : Env) (p : Fin 4) (c : Ctl)

theorem wetTests_pass : (wetTests e p c).1.pass p =
    ((c.pass p).activated (e.passCfg p)).tested (e.passCfg p)
      ((activationTest e p c).1.restartedDwell e p) := by
  simp only [wetTests, andThen, endingTest_pass, activationTest_pass]

theorem wetTests_journal : (wetTests e p c).1.journal =
    (let x := (c.pass p).activated (e.passCfg p)
     let d := if (c.pass p).wetActive = false ∧ (c.pass p).wetEffective = true ∧
        (e.passCfg p).wetDwell ≤ (c.pass p).dwell then
      c.report e .wetRestrict p.val 1 (c.pass p).dwell (c.pass p).wetSource 0 else c
     if x.wetActive = true ∧ ((e.passCfg p).loosening ≤ x.loosened ∨ ¬x.wetEffective = true) then
      d.report e .wetRestrict p.val 2 (if (e.passCfg p).loosening ≤ x.loosened then 1 else 2)
        x.loosened 0
     else d).journal := by
  simp only [wetTests, andThen, endingTest_journal, activationTest_pass]
  exact ite_report_journal_congr (activationTest_journal ..)

end

end Sys2Proof.Machine
end

section
/-! Proofs: the timers of a pass (R10, R16), and the obligation on the Pass Account. -/

namespace Sys2Proof.Machine

/-! ### An event of the controllers -/

/-- Log 5: outside the reset an event of the controllers is their operation. -/
theorem event_onCtl {s : State} (f : Env → Ctl → Ctl) (released : s.resetAsserted = false) :
    ∃ t, event (State.onCtl f) s = .next t ∧ t.ctl = f s.env s.ctl := by
  refine ⟨(s.onCtl f).seek, ?_, ?_⟩
  · simp [event, quiet, released]
  · have sought := seek_only (s.onCtl f)
    unfold DrainerOnly at sought
    rw [sought]
    rfl

/-! ### A settling leaves the pass records, the grants apart -/

/-- The pass records are as in `c`, but that grants may have been taken. -/
def PassesKept (c d : Ctl) : Prop :=
  ∀ q, d.pass q = { c.pass q with grant := (d.pass q).grant } ∧
    ((d.pass q).grant = true → (c.pass q).grant = true)

theorem PassesKept.refl (c : Ctl) : PassesKept c c := fun _ => ⟨rfl, id⟩

theorem passesKept_closed (l : Live) (c : Ctl) : SettleClosed l (PassesKept c) where
  journal _ _ h := h
  free _ h := h
  slot _ _ _ _ _ h := h
  grant p d h q := by
    rw [Ctl.pass_setPass]
    split
    · next same => subst same; rw [(h p).1]; exact ⟨rfl, nofun⟩
    · exact h q
  outlet _ _ _ _ h := h
  tip _ _ _ _ h := h

/-- R44, R98, R107: the re-judgements after an event take grants and nothing else of the passes. -/
theorem settle_passesKept (e : Env) (p : Fin 4) (c : Ctl) : PassesKept c (settle e p c) :=
  (passesKept_closed e.live c).settle (.refl c)

theorem settle_pass (e : Env) (p q : Fin 4) (c : Ctl) :
    (settle e p c).pass q = { c.pass q with grant := ((settle e p c).pass q).grant } :=
  (settle_passesKept e p c q).1

/-- Section 1.9: an event without an immediate effect at the members only has the waiting ones re-judged. -/
theorem deliver_touch (e : Env) (p : Fin 4) (b : Bool) (c : Ctl) :
    deliver e p (News.touch b) c = if b then settle e p c else c := rfl

theorem deliver_touch_pass (e : Env) (p q : Fin 4) (b : Bool) (c : Ctl) :
    (deliver e p (News.touch b) c).pass q =
      { c.pass q with grant := ((deliver e p (News.touch b) c).pass q).grant } := by
  rw [deliver_touch]
  split
  · exact settle_pass ..
  · rfl

/-! ### The dwell interval and the disagreement timer -/

/-- R16, R17: the record after the dwell interval expires. -/
theorem dwellExpires_pass (e : Env) (p : Fin 4) (since : Clock) (c : Ctl) :
    (dwellExpires e p since c).1.pass p =
      ({ c.pass p with
        dwell := satAdd 65535 (c.pass p).dwell 1, dwellTimer := some (since + 1000) } : Pass).activated
        (e.passCfg p) := by
  simp only [dwellExpires, activationTest_pass, Ctl.pass_setPass_same]

theorem activated_wetActive (k : PassCfg) (r : Pass) : (r.activated k).wetActive = true ↔
    r.wetActive = true ∨ (r.wetEffective = true ∧ k.wetDwell ≤ r.dwell) := by
  unfold Pass.activated
  cases ha : r.wetActive <;> by_cases activates : r.wetEffective = true ∧ k.wetDwell ≤ r.dwell <;>
    simp [activates, ha]

theorem activated_dwell (k : PassCfg) (r : Pass) :
    (r.activated k).dwell = r.dwell ∧ (r.activated k).dwellTimer = r.dwellTimer := by
  unfold Pass.activated
  split <;> exact ⟨rfl, rfl⟩

/-- R16: the expiry of a running dwell interval is taken with its news. -/
theorem dwellEvent_due {e : Env} {p : Fin 4} {c : Ctl} {since : Clock}
    (present : (e.passCfg p).present = true) (running : (c.pass p).dwellTimer = some since)
    (passed : 1000 ≤ (e.clock - since).toNat) :
    dwellEvent p e c = withNews e p (dwellExpires e p since) c := by
  have due : dwellDue e p c = some since := by
    simp only [dwellDue, running]
    exact if_pos ⟨present, passed⟩
  simp only [dwellEvent, due]

/-- R10: the disagreement timer has outlasted the hold time. -/
theorem disagreementEvent_due {e : Env} {p : Fin 4} {c : Ctl} {since : Clock}
    (present : (e.passCfg p).present = true) (running : (c.pass p).disagree = some since)
    (passed : (e.passCfg p).holdTime * 1000 ≤ (e.clock - since).toNat) :
    disagreementEvent p e c = disagreementExpires e p c := by
  have due : disagreementDue e p c = true := by
    simp only [disagreementDue, running]
    exact decide_eq_true passed
  simp [disagreementEvent, due, present]

/-- R10: the record after the disagreement timer expires. -/
theorem disagreementExpires_pass (e : Env) (p : Fin 4) (c : Ctl) :
    (disagreementExpires e p c).pass p = { c.pass p with disagree := none, reported := true } := by
  simp only [disagreementExpires]
  split <;> simp

theorem disagreementExpires_atPass (e : Env) (p : Fin 4) (c : Ctl) :
    AtPass p c (disagreementExpires e p c) := by
  simp only [disagreementExpires]
  split
  · exact .setPass _
  · exact (AtPass.setPass _).trans (.report ..)

theorem disagreementExpires_journal (e : Env) (p : Fin 4) (c : Ctl) :
    (disagreementExpires e p c).journal =
      if (c.pass p).reported then c.journal
      else (c.report e .disagree p.val (c.pass p).levelFill (c.pass p).inventory
        (e.passCfg p).holdTime 0).journal := by
  simp only [disagreementExpires]
  split
  · rfl
  · exact report_journal_congr rfl

/-! ### The parts of the obligation -/

theorem recomputeFrom_spec (e : Env) (p : Fin 4) (wasBelow : Bool) (c : Ctl) :
    let r := c.pass p
    let y := recomputeFrom e p wasBelow c
    let x := y.1.pass p
    let k := e.passCfg p
    let below (r : Pass) := r.cls ≠ .unknown ∧ r.low < k.cushionMark
    Recomputed e p r x ∧
    x = { r with
      high := x.high, low := x.low, cls := x.cls, disagree := x.disagree, reported := x.reported } ∧
    y.1 = { c with passes := y.1.passes, journal := y.1.journal } ∧
    (∀ j, j ≠ p → y.1.pass j = c.pass j) ∧
    y.1.journal = (if x.cls = r.cls then c
      else c.report e .fillClass p.val r.cls.code x.cls.code x.high x.low).journal ∧
    (y.2.full = true ↔ x.cls = .full ∧ r.cls ≠ .full) ∧
    (y.2.cushion = true ↔ below x ∧ wasBelow = false) ∧ y.2.hangup = false ∧ y.2.lockout = false ∧
    (y.2.touched = true ↔ x.cls ≠ r.cls ∨ (below x ↔ wasBelow = false)) := by
  intro r y x k below
  have record : x = r.recomputed k e.clock := recomputeFrom_pass e p wasBelow c
  have news : y.2 = _ := recomputeFrom_news e p wasBelow c
  have isBelow : x.belowCushion k = true ↔ below x := belowCushion_iff
  refine ⟨record ▸ recomputed_decided e p r, ?_, recomputeFrom_only .., (recomputeFrom_atPass ..).others,
    recomputeFrom_journal .., ?_, ?_, ?_, ?_, ?_⟩
  · rw [record]; exact recomputed_fixed ..
  · rw [news]; simp [x, y, r]
  · rw [news, ← isBelow]; simp [x, y, k]
  · rw [news]
  · rw [news]
  · have touched : y.2.touched = (x.cls != r.cls || x.belowCushion k != wasBelow) := by rw [news]
    rw [touched, ← isBelow]
    cases x.belowCushion k <;> cases wasBelow <;> simp

/-- R16, R17: the dwell interval of a configured pass. -/
theorem dwellIntervalExpiry_spec {s : State} {p : Fin 4} {since : Clock}
    (released : s.resetAsserted = false) (present : (s.live.passCfg p).present = true)
    (running : (s.ctl.pass p).dwellTimer = some since) (passed : 1000 ≤ (s.clock - since).toNat) :
    ∃ t, exec (.dwellIntervalExpiry p) s = .next t ∧
      (t.ctl.pass p).dwell = min 65535 ((s.ctl.pass p).dwell + 1) ∧
      (t.ctl.pass p).dwellTimer = some (since + 1000) ∧
      ((t.ctl.pass p).wetActive = true ↔ (s.ctl.pass p).wetActive = true ∨
        (((s.ctl.pass p).hostWet = true ∨ (s.ctl.pass p).sensorWet = .wet) ∧
          (s.live.passCfg p).wetDwell ≤ min 65535 ((s.ctl.pass p).dwell + 1))) := by
  obtain ⟨t, ran, after⟩ := event_onCtl (dwellEvent p) released
  obtain ⟨b, touch⟩ := activationTest_news s.env p
    (s.ctl.setPass p { s.ctl.pass p with
      dwell := satAdd 65535 (s.ctl.pass p).dwell 1, dwellTimer := some (since + 1000) })
  have taken : t.ctl = deliver s.env p (News.touch b) (dwellExpires s.env p since s.ctl).1 := by
    rw [after, dwellEvent_due (e := s.env) present running passed, ← touch]
    rfl
  have record := deliver_touch_pass s.env p p b (dwellExpires s.env p since s.ctl).1
  rw [← taken, dwellExpires_pass] at record
  refine ⟨t, ran, ?_, ?_, ?_⟩
  · rw [record]; exact (activated_dwell ..).1
  · rw [record]; exact (activated_dwell ..).2
  · rw [← wetEffective_iff, record]; exact activated_wetActive ..

/-- R10: the disagreement timer of a configured pass. -/
theorem disagreementExpiry_spec {s : State} {p : Fin 4} {since : Clock}
    (released : s.resetAsserted = false) (present : (s.live.passCfg p).present = true)
    (running : (s.ctl.pass p).disagree = some since)
    (passed : (s.live.passCfg p).holdTime * 1000 ≤ (s.clock - since).toNat) :
    ∃ t, exec (.disagreementExpiry p) s = .next t ∧
      t.ctl.pass p = { s.ctl.pass p with disagree := none, reported := true } ∧
      t.ctl.journal =
        (if (s.ctl.pass p).reported then s.ctl.journal
         else (s.ctl.report s.env .disagree p.val (s.ctl.pass p).levelFill (s.ctl.pass p).inventory
          (s.live.passCfg p).holdTime 0).journal) ∧
      t.ctl.outlets = s.ctl.outlets ∧ t.ctl.tips = s.ctl.tips := by
  obtain ⟨t, ran, after⟩ := event_onCtl (disagreementEvent p) released
  rw [disagreementEvent_due (e := s.env) present running passed] at after
  have frame := disagreementExpires_atPass s.env p s.ctl
  refine ⟨t, ran, ?_⟩
  rw [after]
  exact ⟨disagreementExpires_pass .., disagreementExpires_journal .., frame.outlets, frame.tips⟩

/-- R5, R12, R14, R18: a debit journals its parts in their order (log 13). -/
theorem debit_journal (e : Env) (p : Fin 4) (m : Nat) (c : Ctl) :
    let k := e.passCfg p
    let r := c.pass p
    let d := (debit e p m c).1.pass p
    let acc := min 65535 (r.accumulator + m)
    let drawn := min 65535 (r.loosened + m)
    let wet := r.hostWet = true ∨ r.sensorWet = .wet
    let j1 := if r.inventory < m then c.report e .inventoryClamp p.val 2 (m - r.inventory) 0 0 else c
    let j2 := if d.cls = r.cls then j1
      else j1.report e .fillClass p.val r.cls.code d.cls.code d.high d.low
    let j3 := if r.state = .running ∧ r.levelValid = true ∧ k.threshold ≤ acc then
        j2.report e .passState p.val 1 2 1 0
      else j2
    let j4 := if r.wetActive = true ∧ (k.loosening ≤ drawn ∨ ¬wet) then
        j3.report e .wetRestrict p.val 2 (if k.loosening ≤ drawn then 1 else 2) drawn 0
      else j3
    (debit e p m c).1.journal = j4.journal := by
  intro k r d acc drawn wet j1 j2 j3 j4
  have stocked := debitInventory_pass e p c m
  have fed := accumulate_pass e p m (debitInventory e p m c).1
  rw [stocked] at fed
  have hangup := stocked_hangup k r e.clock (r.inventory - m)
  have wetness := stocked_wetness k r e.clock (r.inventory - m)
  have fedWetness := accumulated_wetness k m (r.stocked k e.clock (r.inventory - m))
  have estimates := loosenedBy_estimates k
    ((accumulate e p m (debitInventory e p m c).1).1.restartedDwell e p) m
    ((r.stocked k e.clock (r.inventory - m)).accumulated k m)
  have fedEstimates := accumulated_estimates k m (r.stocked k e.clock (r.inventory - m))
  have record : d = _ := debit_pass e p c m
  have cls := (congrArg Pass.cls record).trans (estimates.cls.trans fedEstimates.cls)
  have high := (congrArg Pass.high record).trans (estimates.high.trans fedEstimates.high)
  have low := (congrArg Pass.low record).trans (estimates.low.trans fedEstimates.low)
  have first : (debitInventory e p m c).1.journal = j2.journal := by
    rw [debitInventory_journal, stocked]
    simp only [j2, cls, high, low]
    rfl
  have second : (accumulate e p m (debitInventory e p m c).1).1.journal = j3.journal := by
    rw [accumulate_journal, stocked, hangup.state, hangup.levelValid, hangup.accumulator]
    exact ite_report_journal_congr first
  rw [debit_eq]
  dsimp only [andThen]
  rw [loosen_journal, fed, fedWetness.wetActive, fedWetness.loosened, wetness.wetActive,
    wetness.loosened]
  refine ite_report_journal_congr_iff (and_congr .rfl (or_congr .rfl (not_congr ?_))) second
  rw [wetEffective_iff, fedWetness.hostWet, fedWetness.sensorWet, wetness.hostWet, wetness.sensorWet]

/-- R5, R11, R12, R14, R18, R19: the record after a debit. -/
theorem debit_record (e : Env) (p : Fin 4) (m : Nat) (c : Ctl) :
    let k := e.passCfg p
    let r := c.pass p
    let y := debit e p m c
    let d := y.1.pass p
    let acc := min 65535 (r.accumulator + m)
    let drawn := min 65535 (r.loosened + m)
    let wet := r.hostWet = true ∨ r.sensorWet = .wet
    d.inventory = r.inventory - m ∧ d.levelFill = r.levelFill ∧ d.levelValid = r.levelValid ∧
    d.settled = r.settled ∧
    (d.inventory ≠ r.inventory → Recomputed e p { r with inventory := r.inventory - m } d) ∧
    (d.inventory = r.inventory → d.high = r.high ∧ d.low = r.low ∧ d.cls = r.cls ∧
      d.disagree = r.disagree ∧ d.reported = r.reported) ∧
    (r.state = .running → r.levelValid = true → d.accumulator = acc ∧
      (acc < k.threshold → d.state = .running) ∧
      (k.threshold ≤ acc → d.state = .hangup ∧ d.cause = .levelStatic ∧ y.2.hangup = true ∧
        (y.1.slot (passSlot p)).wb.demand =
          some (joinWord (c.slot (passSlot p)).lastTag 2))) ∧
    (r.state ≠ .running ∨ r.levelValid = false →
      d.accumulator = r.accumulator ∧ d.state = r.state) ∧
    (r.wetActive = true →
      (k.loosening ≤ drawn ∨ ¬wet → d.wetActive = false ∧ d.loosened = 0 ∧ d.dwell = 0) ∧
      (drawn < k.loosening → wet → d.wetActive = true ∧ d.loosened = drawn)) ∧
    (r.wetActive = false → d.wetActive = false ∧ d.loosened = r.loosened) := by
  intro k r y d acc drawn wet
  set x := r.stocked k e.clock (r.inventory - m) with hx
  set timer := (accumulate e p m (debitInventory e p m c).1).1.restartedDwell e p
  have fixed := stocked_fixed k e.clock (r.inventory - m) r
  have hangup := stocked_hangup k r e.clock (r.inventory - m)
  have wetness := stocked_wetness k r e.clock (r.inventory - m)
  have fedWetness := accumulated_wetness k m x
  have fedEstimates := accumulated_estimates k m x
  have estimates := loosenedBy_estimates k timer m (x.accumulated k m)
  have kept := loosenedBy_hangup k timer m (x.accumulated k m)
  have record : d = (x.accumulated k m).loosenedBy k timer m := debit_pass e p c m
  rw [← hx] at fixed hangup wetness
  rw [record]
  have inventory : ((x.accumulated k m).loosenedBy k timer m).inventory = r.inventory - m := by
    rw [estimates.inventory, fedEstimates.inventory, fixed]
  refine ⟨inventory, ?_, ?_, ?_, fun moved => ?_, fun same => ?_, fun running valid => ?_,
    fun idle => ?_, fun active => ?_, fun idle => ?_⟩
  · rw [estimates.levelFill, fedEstimates.levelFill, fixed]
  · rw [estimates.levelValid, fedEstimates.levelValid, fixed]
  · rw [estimates.settled, fedEstimates.settled, fixed]
  · rw [inventory] at moved
    exact (stocked_moved e p moved).congr (estimates.high.trans fedEstimates.high)
      (estimates.low.trans fedEstimates.low) (estimates.cls.trans fedEstimates.cls)
      (estimates.disagree.trans fedEstimates.disagree)
      (estimates.reported.trans fedEstimates.reported)
  · rw [inventory] at same
    have unmoved : x = r := by rw [hx, Pass.stocked, if_pos same]
    rw [estimates.high, estimates.low, estimates.cls, estimates.disagree, estimates.reported,
      fedEstimates.high, fedEstimates.low, fedEstimates.cls, fedEstimates.disagree,
      fedEstimates.reported, unmoved]
    exact ⟨rfl, rfl, rfl, rfl, rfl⟩
  · have stocked : (debitInventory e p m c).1.pass p = x := debitInventory_pass e p c m
    have runs : x.state = .running := hangup.state.trans running
    have valid' : x.levelValid = true := hangup.levelValid.trans valid
    obtain ⟨sum, stays, falls⟩ := accumulated_running k m x runs valid'
    rw [hangup.accumulator] at sum stays falls
    refine ⟨kept.accumulator.trans sum, fun low => kept.state.trans (stays low), fun reached => ?_⟩
    obtain ⟨demand, news⟩ := accumulate_demand e p (m := m) (c := (debitInventory e p m c).1)
      (by rw [stocked]; exact runs) (by rw [stocked]; exact valid')
      (by rw [stocked, hangup.accumulator]; exact reached)
    rw [debitInventory_slot] at demand
    refine ⟨kept.state.trans (falls reached).1, kept.cause.trans (falls reached).2, ?_, ?_⟩
    · simp [y, debit_eq, andThen, News.join, news]
    · simp only [y, debit_eq, andThen, loosen_slot]
      exact demand
  · have unfed := accumulated_idle k m x (by rw [hangup.state, hangup.levelValid]; exact idle)
    rw [kept.accumulator, kept.state, unfed]
    exact ⟨hangup.accumulator, hangup.state⟩
  · have isActive : (x.accumulated k m).wetActive = true := by
      rw [fedWetness.wetActive, wetness.wetActive]; exact active
    have isWet : (x.accumulated k m).wetEffective = true ↔ wet := by
      rw [wetEffective_iff, fedWetness.hostWet, fedWetness.sensorWet, wetness.hostWet,
        wetness.sensorWet]
    have sum : satAdd 65535 (x.accumulated k m).loosened m = drawn := by
      rw [fedWetness.loosened, wetness.loosened]; rfl
    have tested := tested_active k timer
      { x.accumulated k m with loosened := satAdd 65535 (x.accumulated k m).loosened m } isActive
    rw [Pass.loosenedBy, if_pos isActive]
    rw [sum] at tested ⊢
    refine ⟨fun ends => tested.1 (ends.imp id (mt isWet.1)), fun low isWet' => ?_⟩
    rw [tested.2 low (isWet.2 isWet')]
    exact ⟨isActive, rfl⟩
  · have isIdle : (x.accumulated k m).wetActive = false := by
      rw [fedWetness.wetActive, wetness.wetActive]; exact idle
    rw [Pass.loosenedBy, if_neg (by simp [isIdle])]
    exact ⟨isIdle, fedWetness.loosened.trans wetness.loosened⟩

/-- R5: the journal and the record after a credit. -/
theorem credit_spec (e : Env) (p : Fin 4) (m : Nat) (c : Ctl) :
    let k := e.passCfg p
    let r := c.pass p
    let z := (credit e p m c).1
    let f := z.pass p
    let i1 := if k.capacity < r.inventory + m then
        c.report e .inventoryClamp p.val 1 (min 65535 (r.inventory + m - k.capacity)) 0 0
      else c
    z.journal = (if f.cls = r.cls then i1
      else i1.report e .fillClass p.val r.cls.code f.cls.code f.high f.low).journal ∧
    f.inventory = min k.capacity (r.inventory + m) ∧
    (f.inventory ≠ r.inventory →
      Recomputed e p { r with inventory := min k.capacity (r.inventory + m) } f) ∧
    f = { r with
      inventory := f.inventory, high := f.high, low := f.low, cls := f.cls
      disagree := f.disagree, reported := f.reported } := by
  intro k r z f i1
  have record : f = r.stocked k e.clock (min k.capacity (r.inventory + m)) := credit_pass e p c m
  have fixed := stocked_fixed k e.clock (min k.capacity (r.inventory + m)) r
  have inventory : f.inventory = min k.capacity (r.inventory + m) := by rw [record, fixed]
  refine ⟨credit_journal e p c m, inventory, fun moved => ?_, ?_⟩
  · rw [inventory] at moved
    rw [record]
    exact stocked_moved e p moved
  · rw [inventory, record]; exact fixed

/-- R6, R7, R11: the journal and the record after a level report. -/
theorem levelReport_spec (e : Env) (p : Fin 4) (fill : Nat) (valid : Bool) (c : Ctl) :
    let k := e.passCfg p
    let r := c.pass p
    let d := (levelReport e p fill valid c).1.pass p
    let kept := d.reference = r.reference ∧ d.accumulator = r.accumulator
    let j1 := if valid = true ∧ r.settled = false then
        c.report e .rebase p.val 1 r.inventory fill 0
      else c
    (levelReport e p fill valid c).1.journal = (if d.cls = r.cls then j1
      else j1.report e .fillClass p.val r.cls.code d.cls.code d.high d.low).journal ∧
    Recomputed e p { r with
      levelFill := fill, levelValid := valid, inventory := d.inventory, settled := d.settled } d ∧
    d.levelFill = fill ∧ d.levelValid = valid ∧ d.state = r.state ∧
    (valid = true → r.settled = false → d.inventory = fill ∧ d.settled = true) ∧
    (valid = false ∨ r.settled = true → d.inventory = r.inventory ∧ d.settled = r.settled) ∧
    (r.state = .running → valid = true →
      (r.levelValid = false → d.reference = fill ∧ d.accumulator = 0) ∧
      (r.levelValid = true →
        (r.reference < fill → d.reference = fill ∧ d.accumulator = r.accumulator) ∧
        (fill ≤ r.reference → fill + k.fallStep ≤ r.reference →
          d.reference = fill ∧ d.accumulator = 0) ∧
        (fill ≤ r.reference → r.reference < fill + k.fallStep → kept))) ∧
    (r.state ≠ .running ∨ valid = false → kept) := by
  intro k r d kept j1
  have levelled := levelled_eq k fill valid r
  have taken : (levelTaken e p fill valid c).pass p = r.levelled k fill valid := levelTaken_pass ..
  have record : d = (r.levelled k fill valid).recomputed k e.clock := by
    rw [← taken]; exact recomputeFrom_pass ..
  have fixed := recomputed_fixed k e.clock (r.levelled k fill valid)
  rw [← record] at fixed
  have inventory : d.inventory = if valid = true ∧ r.settled = false then fill else r.inventory := by
    rw [fixed, levelled]
  have settled : d.settled = (r.settled || valid) := by rw [fixed, levelled]
  have moved := moveReference_report fill valid r k
  have reference : d.reference =
      (({ r with levelFill := fill, levelValid := valid } : Pass).moveReference k
        r.levelValid).reference := by rw [fixed, levelled]
  have accumulator : d.accumulator =
      (({ r with levelFill := fill, levelValid := valid } : Pass).moveReference k
        r.levelValid).accumulator := by rw [fixed, levelled]
  simp only [← reference, ← accumulator] at moved
  refine ⟨?_, ?_, ?_, ?_, ?_, fun isValid unsettled => ?_, fun known => ?_, moved.1, moved.2⟩
  · have reported := recomputeFrom_journal e p (r.belowCushion k) (levelTaken e p fill valid c)
    rw [← levelReport_eq, show (levelReport e p fill valid c).1.pass p = d from rfl, taken,
      show (r.levelled k fill valid).cls = r.cls by rw [levelled]] at reported
    exact reported.trans (ite_else_report_journal_congr (levelTaken_journal ..))
  · have decided := recomputed_decided e p (r.levelled k fill valid)
    rw [show e.passCfg p = k from rfl, ← record] at decided
    refine decided.congr_before ?_ ?_ ?_ <;> rw [levelled]
    · exact ⟨rfl, rfl, inventory, settled⟩
    · exact ⟨rfl, rfl, rfl⟩
    · exact ⟨rfl, rfl⟩
  · rw [fixed, levelled]
  · rw [fixed, levelled]
  · rw [fixed, levelled]
  · rw [inventory, settled, if_pos ⟨isValid, unsettled⟩, isValid]; simp
  · rw [inventory, settled]
    rcases known with known | known <;> simp [known]

/-- R15, R17, R19: the record and the journal after a moisture report that changes the sensor field. -/
theorem sensorReport_spec (e : Env) (p : Fin 4) (w : Wetness) (c : Ctl)
    (changed : w ≠ (c.pass p).sensorWet) :
    let k := e.passCfg p
    let r := c.pass p
    let d := (sensorReport e p w c).1.pass p
    let wet := r.hostWet = true ∨ w = .wet
    let journal := (sensorReport e p w c).1.journal
    let source := (if r.hostWet = true then 1 else 0) + (if w = .wet then 2 else 0)
    d.sensorWet = w ∧ d.inventory = r.inventory ∧ d.state = r.state ∧
    (r.wetActive = false →
      (wet → k.wetDwell ≤ r.dwell → 0 < k.loosening → d.wetActive = true ∧ d.loosened = 0 ∧
        journal = (c.report e .wetRestrict p.val 1 r.dwell source 0).journal) ∧
      (¬wet ∨ r.dwell < k.wetDwell → d.wetActive = false ∧ d.dwell = r.dwell ∧
        journal = c.journal)) ∧
    (r.wetActive = true →
      (k.loosening ≤ r.loosened ∨ ¬wet → d.wetActive = false ∧ d.dwell = 0 ∧ d.loosened = 0 ∧
        journal = (c.report e .wetRestrict p.val 2 (if k.loosening ≤ r.loosened then 1 else 2)
          r.loosened 0).journal) ∧
      (r.loosened < k.loosening → wet → d.wetActive = true ∧ d.loosened = r.loosened ∧
        journal = c.journal)) := by
  intro k r d wet journal source
  set x : Pass := { r with sensorWet := w } with hx
  set y := c.setPass p x with hy
  have taken : sensorReport e p w c = wetTests e p y := if_neg (Ne.symm changed)
  have before : y.pass p = x := Ctl.pass_setPass_same ..
  obtain ⟨timer, record⟩ : ∃ timer, d = (x.activated k).tested k timer :=
    ⟨_, by simp only [d, taken, wetTests_pass, before]; rfl⟩
  have journaled := wetTests_journal e p y
  rw [← taken, before] at journaled
  have isWet : x.wetEffective = true ↔ wet := wetEffective_iff
  have isSource : x.wetSource = source := by
    by_cases hw : w = .wet <;> cases hh : r.hostWet <;> simp [Pass.wetSource, flagBit, source, hx, hw, hh]
  have fields : d.sensorWet = w ∧ d.inventory = r.inventory ∧ d.state = r.state := by
    rw [record]; unfold Pass.tested Pass.activated; repeat' split
    all_goals exact ⟨rfl, rfl, rfl⟩
  refine ⟨fields.1, fields.2.1, fields.2.2, fun idle => ⟨fun isWet' dwelt some => ?_, fun still => ?_⟩,
    fun active => ?_⟩
  · have activates : x.wetActive = false ∧ x.wetEffective = true ∧ k.wetDwell ≤ x.dwell :=
      ⟨idle, isWet.2 isWet', dwelt⟩
    rw [Pass.activated, if_pos activates] at record journaled
    rw [(tested_active k timer { x with wetActive := true, loosened := 0 } rfl).2 some
      (isWet.2 isWet')] at record
    rw [if_pos activates, if_neg, isSource] at journaled
    · exact ⟨by rw [record], by rw [record], journaled.trans (report_journal_congr rfl)⟩
    · rintro ⟨-, reached | dry⟩
      · exact absurd some (Nat.not_lt.2 reached)
      · exact dry (isWet.2 isWet')
  · have quiet : ¬(x.wetActive = false ∧ x.wetEffective = true ∧ k.wetDwell ≤ x.dwell) := by
      rintro ⟨-, isWet', dwelt⟩
      rcases still with dry | short
      · exact dry (isWet.1 isWet')
      · exact absurd dwelt (Nat.not_le.2 short)
    have same : x.activated k = x := if_neg quiet
    rw [same] at record journaled
    rw [tested_inactive k timer x idle] at record
    rw [if_neg quiet, if_neg (fun ends => by simp [hx, idle] at ends)] at journaled
    exact ⟨by rw [record]; exact idle, by rw [record], journaled⟩
  · have quiet : ¬(x.wetActive = false ∧ x.wetEffective = true ∧ k.wetDwell ≤ x.dwell) := fun h =>
      absurd h.1 (by simp [hx, active])
    have same : x.activated k = x := if_neg quiet
    rw [same] at record journaled
    rw [if_neg quiet] at journaled
    have tested := tested_active k timer x active
    rw [← record] at tested
    refine ⟨fun ends => ?_, fun low isWet' => ?_⟩
    · have ends' : k.loosening ≤ x.loosened ∨ ¬x.wetEffective = true := ends.imp id (mt isWet.1)
      obtain ⟨ended, zero, rested⟩ := tested.1 ends'
      rw [if_pos ⟨active, ends'⟩] at journaled
      exact ⟨ended, rested, zero, journaled.trans (report_journal_congr rfl)⟩
    · have kept := tested.2 low (isWet.2 isWet')
      rw [if_neg] at journaled
      · exact ⟨by rw [kept]; exact active, by rw [kept], journaled⟩
      · rintro ⟨-, reached | dry⟩
        · exact absurd low (Nat.not_lt.2 reached)
        · exact dry (isWet.2 isWet')

/-- Settles O40: one rule for each change of a pass record, and the two timers. -/
theorem passTimersExpire : Obligations.PassTimersExpire := by
  unfold Obligations.PassTimersExpire
  refine ⟨recomputeFrom_spec, ?timers, fun e p m c => ?debitAndCredit, levelReport_spec,
    sensorReport_spec⟩
  case timers =>
    intro s p since r cfg released present
    exact ⟨fun running passed => dwellIntervalExpiry_spec released present running passed,
      fun running passed => disagreementExpiry_spec released present running passed⟩
  have frame := debit_atPass e p c m
  obtain ⟨inventory, fill, valid, settled, moved, same, running, idle, active, inactive⟩ :=
    debit_record e p m c
  exact ⟨debit_journal e p m c, frame.outlets, frame.tips, frame.others, inventory, fill, valid,
    settled, moved, same, running, idle, active, inactive, credit_spec e p m c⟩

end Sys2Proof.Machine
end

section
/-! Proofs: one member of a pass at a time. An operation at an outlet or at a tip point touches that member
and its slot; so what an event at the pass does to a member is what its own steps do to it (section 1.9, R44,
R115, R137). -/

namespace Sys2Proof.Machine

/-! ### Frames of operations at one member -/

theorem outletSlot_ne {n m : Fin 8} (h : m ≠ n) : outletSlot n ≠ outletSlot m := fun heq =>
  h (Fin.ext (by simpa [outletSlot] using (congrArg Fin.val heq).symm))

theorem tipSlot_ne_outletSlot (t : Fin 12) (n : Fin 8) : tipSlot t ≠ outletSlot n := fun heq => by
  have : 8 + t.val = n.val := congrArg Fin.val heq
  omega

theorem outletSlot_ne_tipSlot (n : Fin 8) (t : Fin 12) : outletSlot n ≠ tipSlot t :=
  (tipSlot_ne_outletSlot t n).symm

/-- Of the members and the slots, only the outlet `n` and its slot differ. -/
structure AtOutlet (n : Fin 8) (c d : Ctl) : Prop where
  outlets : ∀ m, m ≠ n → d.outlet m = c.outlet m
  slots : ∀ k, k ≠ outletSlot n → d.slot k = c.slot k
  tips : d.tips = c.tips

/-- Of passes, members and slots, only the tip point `t` and its slot differ. -/
structure AtTip (t : Fin 12) (c d : Ctl) : Prop where
  passes : d.passes = c.passes
  outlets : d.outlets = c.outlets
  slots : ∀ k, k ≠ tipSlot t → d.slot k = c.slot k
  tips : ∀ u, u ≠ t → d.tip u = c.tip u

section
variable {n : Fin 8} {c d x : Ctl}

theorem AtOutlet.refl : AtOutlet n c c := ⟨fun _ _ => rfl, fun _ _ => rfl, rfl⟩

theorem AtOutlet.trans (h : AtOutlet n c d) (g : AtOutlet n d x) : AtOutlet n c x :=
  ⟨fun m hm => (g.outlets m hm).trans (h.outlets m hm),
    fun k hk => (g.slots k hk).trans (h.slots k hk), g.tips.trans h.tips⟩

theorem AtOutlet.setOutlet (o : Outlet) (h : AtOutlet n c d) : AtOutlet n c (d.setOutlet n o) :=
  h.trans ⟨fun _ hm => Ctl.outlet_setOutlet_other d o (Ne.symm hm), fun _ _ => rfl, rfl⟩

theorem AtOutlet.updSlot (f : CommandSlot → CommandSlot) (h : AtOutlet n c d) :
    AtOutlet n c (d.updSlot (outletSlot n) f) :=
  h.trans ⟨fun _ _ => rfl, fun _ hk => Ctl.slot_updSlot_other d f (Ne.symm hk), rfl⟩

theorem AtOutlet.setPass (p : Fin 4) (r : Pass) (h : AtOutlet n c d) : AtOutlet n c (d.setPass p r) :=
  h.trans ⟨fun _ _ => rfl, fun _ _ => rfl, rfl⟩

theorem AtOutlet.report {e : Env} {kd : RecordKind} {j a b f g : Nat} (h : AtOutlet n c d) :
    AtOutlet n c (d.report e kd j a b f g) :=
  h.trans ⟨fun _ _ => by simp, fun _ _ => by simp, by simp⟩

theorem AtOutlet.ite {q : Prop} [Decidable q] {y : Ctl} (hx : AtOutlet n c x) (hy : AtOutlet n c y) :
    AtOutlet n c (if q then x else y) := by split <;> assumption

variable {e : Env}

theorem AtOutlet.flowLeft (p : Fin 4) (h : AtOutlet n c d) : AtOutlet n c (flowLeft e p d) :=
  .ite h (h.setPass ..)

theorem AtOutlet.stopOutlet (r : EndReason) (h : AtOutlet n c d) : AtOutlet n c (stopOutlet e n r d) := by
  simp only [Machine.stopOutlet]
  split
  · exact .ite (.flowLeft _ (.ite ((h.setOutlet _).updSlot _) (h.setOutlet _)))
      (.ite ((h.setOutlet _).updSlot _) (h.setOutlet _))
  · exact h

theorem AtOutlet.endOrder (r : EndReason) (h : AtOutlet n c d) : AtOutlet n c (endOrder e n r d) :=
  (h.setOutlet _).report

theorem AtOutlet.takeGrant (p : Fin 4) (h : AtOutlet n c d) : AtOutlet n c (takeGrant p d).1 := by
  simp only [Machine.takeGrant]
  split
  · exact h.setPass ..
  · exact h

theorem AtOutlet.executeDraw (cm : Commit) (h : AtOutlet n c d) :
    AtOutlet n c (executeDraw e n cm d) := by
  unfold Machine.executeDraw startOrder Ctl.accept
  exact ((h.takeGrant _).setOutlet _).updSlot _

theorem AtOutlet.beginCycle (h : AtOutlet n c d) : AtOutlet n c (beginCycle e n d) := by
  unfold Machine.beginCycle
  exact (h.setOutlet _).updSlot _

theorem AtOutlet.rejudgeDraw (h : AtOutlet n c d) : AtOutlet n c (rejudgeDraw e n d) := by
  unfold Machine.rejudgeDraw
  split
  · exact h
  · split
    · exact .executeDraw _ (h.updSlot _)
    · exact (h.updSlot _).updSlot _
    · unfold Ctl.keepDeferred
      exact .ite h (h.updSlot _)

theorem AtOutlet.cycleStart (h : AtOutlet n c d) : AtOutlet n c (cycleStart e n d) := by
  simp only [Machine.cycleStart]
  exact .ite (h.endOrder _) (.ite (h.endOrder _) (.ite (h.endOrder _) (.ite (h.setOutlet _)
    h.beginCycle)))

theorem AtOutlet.visitOutlet (h : AtOutlet n c d) : AtOutlet n c (visitOutlet e d n) := by
  unfold Machine.visitOutlet
  exact .ite h.cycleStart h.rejudgeDraw

end

section
variable {t : Fin 12} {c d x : Ctl}

theorem AtTip.refl : AtTip t c c := ⟨rfl, rfl, fun _ _ => rfl, fun _ _ => rfl⟩

theorem AtTip.trans (h : AtTip t c d) (g : AtTip t d x) : AtTip t c x :=
  ⟨g.passes.trans h.passes, g.outlets.trans h.outlets, fun k hk => (g.slots k hk).trans (h.slots k hk),
    fun u hu => (g.tips u hu).trans (h.tips u hu)⟩

theorem AtTip.setTip (y : Tip) (h : AtTip t c d) : AtTip t c (d.setTip t y) :=
  h.trans ⟨rfl, rfl, fun _ _ => rfl, fun _ hu => Ctl.tip_setTip_other d y (Ne.symm hu)⟩

theorem AtTip.updSlot (f : CommandSlot → CommandSlot) (h : AtTip t c d) :
    AtTip t c (d.updSlot (tipSlot t) f) :=
  h.trans ⟨rfl, rfl, fun _ hk => Ctl.slot_updSlot_other d f (Ne.symm hk), fun _ _ => rfl⟩

theorem AtTip.ite {q : Prop} [Decidable q] {y : Ctl} (hx : AtTip t c x) (hy : AtTip t c y) :
    AtTip t c (if q then x else y) := by split <;> assumption

variable {e : Env}

theorem AtTip.withdrawTip (h : AtTip t c d) : AtTip t c (withdrawTip t d) :=
  .ite ((h.setTip _).updSlot _) h

theorem AtTip.parkTip (h : AtTip t c d) : AtTip t c (parkTip e t d) :=
  .ite ((h.setTip _).updSlot _) h

theorem AtTip.rejudgePermit (h : AtTip t c d) : AtTip t c (rejudgePermit e t d) := by
  unfold Machine.rejudgePermit
  split
  · exact h
  · split
    · unfold executePermit Ctl.accept Ctl.clearHolder
      exact ((h.updSlot _).setTip _).updSlot _
    · exact (h.updSlot _).updSlot _
    · unfold Ctl.keepDeferred
      exact .ite h (h.updSlot _)

end

/-! ### What is seen of one member -/

/-- An outlet with its command slot. -/
def outletView (n : Fin 8) (c : Ctl) : Outlet × CommandSlot := (c.outlet n, c.slot (outletSlot n))

/-- A tip point with its command slot. -/
def tipView (t : Fin 12) (c : Ctl) : Tip × CommandSlot := (c.tip t, c.slot (tipSlot t))

theorem outletView_eq {n : Fin 8} {c d : Ctl} :
    outletView n d = outletView n c ↔
      d.outlet n = c.outlet n ∧ d.slot (outletSlot n) = c.slot (outletSlot n) := Prod.mk_inj

theorem tipView_eq {t : Fin 12} {c d : Ctl} :
    tipView t d = tipView t c ↔ d.tip t = c.tip t ∧ d.slot (tipSlot t) = c.slot (tipSlot t) :=
  Prod.mk_inj

theorem AtOutlet.view {n m : Fin 8} {c d : Ctl} (h : AtOutlet m c d) (hne : n ≠ m) :
    outletView n d = outletView n c :=
  outletView_eq.2 ⟨h.outlets n hne, h.slots _ (outletSlot_ne hne.symm)⟩

theorem AtOutlet.tipView {n : Fin 8} {c d : Ctl} (h : AtOutlet n c d) (t : Fin 12) :
    tipView t d = tipView t c :=
  tipView_eq.2 ⟨Ctl.tip_congr h.tips t, h.slots _ (tipSlot_ne_outletSlot t n)⟩

theorem AtTip.view {t u : Fin 12} {c d : Ctl} (h : AtTip u c d) (hne : t ≠ u) :
    Machine.tipView t d = Machine.tipView t c :=
  tipView_eq.2 ⟨h.tips t hne, h.slots _ (tipSlot_ne hne.symm)⟩

theorem AtTip.outletView {t : Fin 12} {c d : Ctl} (h : AtTip t c d) (n : Fin 8) :
    outletView n d = outletView n c :=
  outletView_eq.2 ⟨Ctl.outlet_congr h.outlets n, h.slots _ (outletSlot_ne_tipSlot n t)⟩

/-! ### Each member's own step in a fold over the members -/

section
variable {α β γ : Type} {view : α → β → γ} {step : β → α → β} {I : β → Prop}

/-- A fold over other members leaves what is seen of this one. -/
theorem foldl_elsewhere (other : ∀ a x b, a ≠ x → view a (step b x) = view a b) {a : α} {xs : List α}
    (ha : a ∉ xs) (b : β) : view a (xs.foldl step b) = view a b := by
  induction xs generalizing b with
  | nil => rfl
  | cons x rest ih =>
    rw [List.foldl_cons, ih (fun h => ha (by simp [h])), other a x b (fun h => ha (by simp [h]))]

/-- A fold over the members without repetition does to each what its own step does to it, in a state that
the invariant holds of. -/
theorem foldl_once (other : ∀ a x b, a ≠ x → view a (step b x) = view a b) {a : α} {xs : List α}
    (distinct : xs.Nodup) (ha : a ∈ xs) (keeps : ∀ x ∈ xs, ∀ b, I b → I (step b x)) (c : β) (hc : I c) :
    ∃ b, I b ∧ view a b = view a c ∧ view a (xs.foldl step c) = view a (step b a) := by
  induction xs generalizing c with
  | nil => simp at ha
  | cons x rest ih =>
    obtain ⟨fresh, distinct'⟩ := List.nodup_cons.1 distinct
    rw [List.foldl_cons]
    by_cases hx : a = x
    · subst hx
      exact ⟨c, hc, rfl, foldl_elsewhere other fresh _⟩
    · obtain ⟨b, hb, same, result⟩ := ih distinct' (by simpa [hx] using ha)
        (fun y hy => keeps y (by simp [hy])) (step c x) (keeps x (by simp) c hc)
      exact ⟨b, hb, same.trans (other a x c hx), result⟩

end

theorem nodup_outletsOf (l : Live) (p : Fin 4) : (l.outletsOf p).Nodup :=
  (List.nodup_finRange 8).filter _

theorem nodup_tipsOf (l : Live) (p : Fin 4) : (l.tipsOf p).Nodup := (List.nodup_finRange 12).filter _

/-! ### The free order of the waiting outlets (log 11) -/

theorem perm_insertByKey (key : Fin 8 → Nat) (n : Fin 8) (ns : List (Fin 8)) :
    (insertByKey key n ns).Perm (n :: ns) := by
  induction ns with
  | nil => exact .refl _
  | cons m rest ih =>
    unfold insertByKey
    split
    · exact .refl _
    · exact (ih.cons m).trans (.swap n m rest)

theorem perm_sortByKey (key : Fin 8 → Nat) (ns : List (Fin 8)) : (sortByKey key ns).Perm ns := by
  induction ns with
  | nil => exact .refl _
  | cons n rest ih => exact (perm_insertByKey key n _).trans (ih.cons n)

theorem nodup_takingOrder {c : Ctl} {ns : List (Fin 8)} (h : ns.Nodup) : (takingOrder c ns).Nodup := by
  unfold takingOrder
  split
  · exact (perm_sortByKey _ ns).nodup_iff.2 h
  · exact h

/-! ### The stages of a delivery, member by member -/

section
variable (e : Env)

/-- R114: an outlet and its slot after a stop. -/
def stoppedView (now : Clock) (r : EndReason) (v : Outlet × CommandSlot) : Outlet × CommandSlot :=
  (stoppedOutlet now r v.1, if v.1.state.drawing then v.2.putDemand 0 v.2.lastTag else v.2)

theorem active_of_drawing {s : OutletState} (h : s.drawing = true) : s.active = true := by
  cases s <;> simp_all [OutletState.drawing, OutletState.active]

theorem flowLeft_slot (p : Fin 4) (c : Ctl) (k : Fin 24) : (flowLeft e p c).slot k = c.slot k := by
  unfold flowLeft; split <;> rfl

theorem stopOutlet_view (n : Fin 8) (r : EndReason) (c : Ctl) :
    outletView n (stopOutlet e n r c) = stoppedView e.clock r (outletView n c) := by
  refine Prod.ext (stopOutlet_outlet_same e n r c) ?_
  show (stopOutlet e n r c).slot (outletSlot n) = _
  by_cases ha : (c.outlet n).state.active = true
  · simp only [stopOutlet, stoppedView, if_pos ha, outletView]
    split <;> (try rw [flowLeft_slot]) <;>
      by_cases hd : (c.outlet n).state.drawing = true <;> simp [Ctl.ownDemand, hd]
  · have hd : ¬(c.outlet n).state.drawing = true := mt active_of_drawing ha
    simp only [stopOutlet, stoppedView, if_neg ha, outletView]
    exact (if_neg hd).symm

/-- R115: a stop of all the orders of a pass stops each of them. -/
theorem stopOutlets_view {p : Fin 4} {n : Fin 8} (hn : n ∈ e.live.outletsOf p) (r : EndReason)
    (c : Ctl) : outletView n (stopOutlets e p r c) = stoppedView e.clock r (outletView n c) := by
  obtain ⟨b, -, same, result⟩ := foldl_once (view := outletView) (I := fun _ => True)
    (step := fun x m => stopOutlet e m r x)
    (fun n m b hne => (AtOutlet.refl.stopOutlet r).view hne) (nodup_outletsOf e.live p) hn
    (fun _ _ _ _ => trivial) c trivial
  rw [← same, ← stopOutlet_view]
  exact result

/-- R9, R115: a stop for CUSHION, on one outlet. -/
def cushionStop (e : Env) (x : Ctl) (n : Fin 8) : Ctl :=
  if (x.outlet n).state.drawing && !(x.outlet n).grantHeld then stopOutlet e n .cushion x else x

/-- R9, R115: CUSHION stops an outlet in OPENING or FLOWING without the grant and leaves the others. -/
theorem stopForCushion_view {p : Fin 4} {n : Fin 8} (hn : n ∈ e.live.outletsOf p) (c : Ctl) :
    outletView n (stopForCushion e p c) =
      if (c.outlet n).state.drawing = true ∧ (c.outlet n).grantHeld = false then
        stoppedView e.clock .cushion (outletView n c)
      else outletView n c := by
  obtain ⟨b, -, same, result⟩ := foldl_once (view := outletView) (I := fun _ => True)
    (step := cushionStop e)
    (fun n m b hne => (AtOutlet.ite (AtOutlet.refl.stopOutlet .cushion) .refl).view hne)
    (nodup_outletsOf e.live p) hn (fun _ _ _ _ => trivial) c trivial
  have stopped : outletView n (cushionStop e b n) =
      if (b.outlet n).state.drawing = true ∧ (b.outlet n).grantHeld = false then
        stoppedView e.clock .cushion (outletView n b) else outletView n b := by
    unfold cushionStop
    simp only [Bool.and_eq_true, Bool.not_eq_true', ← stopOutlet_view]
    split <;> rfl
  rw [show (c.outlet n) = b.outlet n from (outletView_eq.1 same).1.symm, ← same, ← stopped]
  exact result

/-- R137: a tip point and its slot after a withdrawal. -/
def withdrawnView (v : Tip × CommandSlot) : Tip × CommandSlot :=
  if v.1.state = .opened then ({ v.1 with state := .closed, remaining := 0 }, v.2.putDemand 0 v.2.lastTag)
  else v

/-- R137: a tip point and its slot after a parking. -/
def parkedView (e : Env) (t : Fin 12) (v : Tip × CommandSlot) : Tip × CommandSlot :=
  if v.1.state = .breaking then (enterParking e t v.1, v.2.putDemand 0 v.2.lastTag) else v

theorem withdrawTip_view (t : Fin 12) (c : Ctl) :
    tipView t (withdrawTip t c) = withdrawnView (tipView t c) := by
  by_cases opened : (c.tip t).state = .opened <;>
    simp [tipView, withdrawTip, withdrawnView, opened, Ctl.ownDemand]

theorem parkTip_view (t : Fin 12) (c : Ctl) :
    tipView t (parkTip e t c) = parkedView e t (tipView t c) := by
  by_cases breaking : (c.tip t).state = .breaking <;>
    simp [tipView, parkTip, parkedView, breaking, Ctl.ownDemand]

theorem closeTips_view {p : Fin 4} {t : Fin 12} (ht : t ∈ e.live.tipsOf p) (c : Ctl) :
    tipView t (closeTips e p c) = withdrawnView (tipView t c) := by
  obtain ⟨b, -, same, result⟩ := foldl_once (view := tipView) (I := fun _ => True)
    (step := fun x u => withdrawTip u x) (fun t u b hne => AtTip.refl.withdrawTip.view hne)
    (nodup_tipsOf e.live p) ht (fun _ _ _ _ => trivial) c trivial
  rw [← same, ← withdrawTip_view]
  exact result

theorem parkTips_view {p : Fin 4} {t : Fin 12} (ht : t ∈ e.live.tipsOf p) (c : Ctl) :
    tipView t (parkTips e p c) = parkedView e t (tipView t c) := by
  obtain ⟨b, -, same, result⟩ := foldl_once (view := tipView) (I := fun _ => True)
    (step := fun x u => parkTip e u x) (fun t u b hne => AtTip.refl.parkTip.view hne)
    (nodup_tipsOf e.live p) ht (fun _ _ _ _ => trivial) c trivial
  rw [← same, ← parkTip_view]
  exact result

theorem closeTips_outletView (p : Fin 4) (n : Fin 8) (c : Ctl) :
    outletView n (closeTips e p c) = outletView n c :=
  foldl_keeps (Q := fun b => outletView n b = outletView n c)
    (fun _ _ hb => (AtTip.refl.withdrawTip.outletView n).trans hb) _ _ rfl

theorem parkTips_outletView (p : Fin 4) (n : Fin 8) (c : Ctl) :
    outletView n (parkTips e p c) = outletView n c :=
  foldl_keeps (Q := fun b => outletView n b = outletView n c)
    (fun _ _ hb => (AtTip.refl.parkTip.outletView n).trans hb) _ _ rfl

theorem settleTips_outletView (p : Fin 4) (n : Fin 8) (c : Ctl) :
    outletView n (settleTips e p c) = outletView n c :=
  foldl_keeps (Q := fun b => outletView n b = outletView n c)
    (fun _ _ hb => (AtTip.refl.rejudgePermit.outletView n).trans hb) _ _ rfl

theorem stopOutlets_tipView (p : Fin 4) (r : EndReason) (t : Fin 12) (c : Ctl) :
    tipView t (stopOutlets e p r c) = tipView t c :=
  foldl_keeps (Q := fun b => tipView t b = tipView t c)
    (fun _ _ hb => ((AtOutlet.refl.stopOutlet r).tipView t).trans hb) _ _ rfl

theorem stopForCushion_tipView (p : Fin 4) (t : Fin 12) (c : Ctl) :
    tipView t (stopForCushion e p c) = tipView t c :=
  foldl_keeps (Q := fun b => tipView t b = tipView t c)
    (fun _ _ hb =>
      ((AtOutlet.ite (AtOutlet.refl.stopOutlet .cushion) .refl).tipView t).trans hb) _ _ rfl

theorem settleOutlets_tipView (p : Fin 4) (t : Fin 12) (c : Ctl) :
    tipView t (settleOutlets e p c) = tipView t c := by
  have visits (d : Ctl) (hd : tipView t d = tipView t c) (ns : List (Fin 8)) :
      tipView t (ns.foldl (visitOutlet e) d) = tipView t c :=
    foldl_keeps (Q := fun b => tipView t b = tipView t c)
      (fun _ _ hb => (AtOutlet.refl.visitOutlet.tipView t).trans hb) _ _ hd
  refine visits _ (visits _ ?_ _) _
  unfold drawOrder
  split <;> rfl

end

/-! ### A settling, member by member -/

section
variable {e : Env} {p : Fin 4} {I : Ctl → Prop}

/-- R44, R128: a settling of the tip points re-judges each PERMIT in a state that the invariant holds of. -/
theorem settleTips_view {t : Fin 12} (ht : t ∈ e.live.tipsOf p)
    (keeps : ∀ u ∈ e.live.tipsOf p, ∀ b, I b → I (rejudgePermit e u b)) (c : Ctl) (hc : I c) :
    ∃ b, I b ∧ tipView t b = tipView t c ∧
      tipView t (settleTips e p c) = tipView t (rejudgePermit e t b) :=
  foldl_once (view := tipView) (step := fun x u => rejudgePermit e u x)
    (fun _ _ _ hne => AtTip.refl.rejudgePermit.view hne) (nodup_tipsOf e.live p) ht keeps c hc

/-- What waits at an outlet is seen in its view. -/
theorem waits_congr {n : Fin 8} {c d : Ctl} (h : outletView n d = outletView n c) :
    d.waits n = c.waits n := by
  obtain ⟨outlet, slot⟩ := outletView_eq.1 h
  simp only [Ctl.waits, outlet, slot]

theorem waits_eq_false {n : Fin 8} {c : Ctl} :
    c.waits n = false ↔ (c.slot (outletSlot n)).holder = none ∧ (c.outlet n).startPending = false := by
  simp [Ctl.waits]

/-- R44, R100, R107: a settling of the outlets leaves an outlet that does not wait. -/
theorem settleOutlets_view_idle {n : Fin 8} {c : Ctl} (idle : c.waits n = false) :
    outletView n (settleOutlets e p c) = outletView n c := by
  have missing : n ∉ takingOrder c ((e.live.outletsOf p).filter c.waits) := fun hn => by
    simp [mem_takingOrder, idle] at hn
  have elsewhere (d : Ctl) := foldl_elsewhere (view := outletView) (step := visitOutlet e)
    (fun _ _ _ hne => AtOutlet.refl.visitOutlet.view hne) missing d
  refine (elsewhere _).trans ((elsewhere _).trans ?_)
  unfold drawOrder
  split <;> rfl

/-- R44, R100, R107: a settling takes each outlet of the pass twice, each time in a state that the invariant
holds of; at one that does not wait that does nothing. -/
theorem settleOutlets_view {n : Fin 8} (hn : n ∈ e.live.outletsOf p)
    (draws : ∀ b : Ctl, I b → I { b with freeCount := b.freeCount + 1 })
    (keeps : ∀ m ∈ e.live.outletsOf p, ∀ b, I b → I (visitOutlet e b m)) (c : Ctl) (hc : I c) :
    ∃ x y, I x ∧ I y ∧ outletView n x = outletView n c ∧
      outletView n y = outletView n (visitOutlet e x n) ∧
      outletView n (settleOutlets e p c) = outletView n (visitOutlet e y n) := by
  cases hw : c.waits n with
  | false =>
    have idle : visitOutlet e c n = c :=
      visitOutlet_idle (waits_eq_false.1 hw).2 (waits_eq_false.1 hw).1
    exact ⟨c, c, hc, hc, rfl, by rw [idle], (settleOutlets_view_idle hw).trans (by rw [idle])⟩
  | true =>
    set order := takingOrder c ((e.live.outletsOf p).filter c.waits) with ho
    have distinct : order.Nodup := nodup_takingOrder ((nodup_outletsOf e.live p).filter _)
    have taken : n ∈ order := mem_takingOrder.2 (List.mem_filter.2 ⟨hn, hw⟩)
    have keeps' : ∀ m ∈ order, ∀ b, I b → I (visitOutlet e b m) := fun m hm =>
      keeps m (List.mem_filter.1 (mem_takingOrder.1 hm)).1
    have drawn : I (drawOrder c ((e.live.outletsOf p).filter c.waits)) := by
      unfold drawOrder
      split
      · exact draws c hc
      · exact hc
    have seen : outletView n (drawOrder c ((e.live.outletsOf p).filter c.waits)) = outletView n c := by
      unfold drawOrder
      split <;> rfl
    have once := foldl_once (view := outletView) (step := visitOutlet e)
      (fun _ _ _ hne => AtOutlet.refl.visitOutlet.view hne) distinct taken keeps'
    obtain ⟨x, hx, before, first⟩ := once _ drawn
    obtain ⟨y, hy, between, second⟩ := once _ (foldl_keeps_mem order keeps' _ drawn)
    exact ⟨x, y, hx, hy, before.trans seen, between.trans first, second⟩

end

end Sys2Proof.Machine
end

section
/-! Proofs: passes that refuse. In LOCKOUT and in HANGUP, and below the cushion without the grant, a settling
executes no DRAW; in LOCKOUT and at FULL it executes no PERMIT (R44, R97, R107, R127). -/

namespace Sys2Proof.Machine

/-! ### What the checks find -/

/-- R97: a pass over which no DRAW is executed. -/
def DrawRefusing (k : PassCfg) (r : Pass) : Prop :=
  r.state = .lockout ∨ r.state = .hangup ∨ (r.belowCushion k = true ∧ r.grant = false)

/-- R127: a pass over which no PERMIT is executed. -/
def PermitRefusing (r : Pass) : Prop := r.state = .lockout ∨ r.cls = .full

/-- A check that fails permanently refuses where what follows it does. -/
theorem refuse_of_ite {q : Prop} [Decidable q] {r : Reason} {j : Judgement}
    (h : ¬q → ∃ x, j = .refuse x) : ∃ x, (if q then .refuse r else j) = .refuse x := by
  by_cases hq : q
  · exact ⟨r, if_pos hq⟩
  · obtain ⟨x, hx⟩ := h hq; exact ⟨x, (if_neg hq).trans hx⟩

theorem drawCheck_refusing {e : Env} {n : Fin 8} {c : Ctl}
    (refusing : DrawRefusing (e.passCfg (e.outletCfg n).pass) (c.pass (e.outletCfg n).pass))
    (cm : Commit) : ∃ reason, drawCheck e n cm c = .refuse reason := by
  unfold drawCheck
  refine refuse_of_ite fun notLockout => refuse_of_ite fun _ => refuse_of_ite fun notHangup =>
    refuse_of_ite fun _ => refuse_of_ite fun _ => ?_
  have below := (refusing.resolve_left notLockout).resolve_left notHangup
  exact ⟨.cushion, if_pos below⟩

/-- R97: the check that CUSHION fails, where those before it do not. -/
theorem drawCheck_cushion {e : Env} {n : Fin 8} {c : Ctl} (cm : Commit)
    (below : (c.pass (e.outletCfg n).pass).belowCushion (e.passCfg (e.outletCfg n).pass) = true)
    (without : (c.pass (e.outletCfg n).pass).grant = false)
    (running : (c.pass (e.outletCfg n).pass).state = .running)
    (sound : (c.outlet n).state ≠ .fault) (fresh : e.outletFresh n = true)
    (recorded : (c.outlet n).lastRecord ≠ none) : drawCheck e n cm c = .refuse .cushion := by
  have known := (belowCushion_iff.1 below).1
  simp [drawCheck, below, without, running, sound, fresh, recorded, known]

theorem permitCheck_refusing {e : Env} {t : Fin 12} {c : Ctl}
    (refusing : PermitRefusing (c.pass (e.tipCfg t).pass)) :
    ∃ reason, permitCheck e t c = .refuse reason := by
  unfold permitCheck
  exact refuse_of_ite fun notLockout => refuse_of_ite fun _ => refuse_of_ite fun _ =>
    refuse_of_ite fun _ => refuse_of_ite fun _ => refuse_of_ite fun _ =>
    ⟨.full, if_pos (refusing.resolve_left notLockout)⟩

/-! ### One visit -/

/-- R44, R45: the slot after its deferred commit has been refused. -/
def refusedSlot (d : Deferred) (r : Reason) (x : CommandSlot) : CommandSlot :=
  { x.putVerdict .refused d.commit.tag r.code with holder := none }

theorem refuseDeferred_slot (k : Fin 24) (d : Deferred) (r : Reason) (c : Ctl) :
    (c.refuseDeferred k d.commit.tag r).slot k = refusedSlot d r (c.slot k) := by
  simp [Ctl.refuseDeferred, Ctl.refuse, Ctl.clearHolder, refusedSlot, CommandSlot.putVerdict]

section
variable {e : Env} {n : Fin 8} {c : Ctl}

/-- R44: a deferred DRAW that fails a permanent check is refused. -/
theorem visitOutlet_refused {d : Deferred} {r : Reason} (idle : (c.outlet n).startPending = false)
    (held : (c.slot (outletSlot n)).holder = some d) (fails : drawCheck e n d.commit c = .refuse r) :
    outletView n (visitOutlet e c n) = (c.outlet n, refusedSlot d r (c.slot (outletSlot n))) := by
  have refused : visitOutlet e c n = c.refuseDeferred (outletSlot n) d.commit.tag r := by
    simp [visitOutlet, idle, rejudgeDraw, held, fails]
  rw [refused]
  exact Prod.ext rfl (refuseDeferred_slot ..)

/-- R97: a visit to an outlet of a refusing pass, no cycle start waiting, leaves the outlet, and leaves no
DRAW deferred. -/
theorem visitOutlet_refusing
    (refusing : DrawRefusing (e.passCfg (e.outletCfg n).pass) (c.pass (e.outletCfg n).pass))
    (idle : (c.outlet n).startPending = false) : (visitOutlet e c n).outlet n = c.outlet n ∧
      ((visitOutlet e c n).slot (outletSlot n)).holder = none := by
  cases held : (c.slot (outletSlot n)).holder with
  | none => rw [visitOutlet_idle idle held]; exact ⟨rfl, held⟩
  | some d =>
    obtain ⟨reason, fails⟩ := drawCheck_refusing refusing d.commit
    have refused := visitOutlet_refused idle held fails
    exact ⟨congrArg Prod.fst refused, congrArg (fun v => v.2.holder) refused⟩

/-- R107: the order that a visit ends where a cycle start waits at a pass in LOCKOUT or HANGUP, or below the
cushion without a grant. -/
theorem visitOutlet_ends {reason : EndReason} (waits : (c.outlet n).startPending = true)
    (ends : cycleStart e n c = endOrder e n reason c) : visitOutlet e c n = endOrder e n reason c := by
  simp [visitOutlet, waits, ends]

theorem endOrder_outlet (reason : EndReason) : (endOrder e n reason c).outlet n =
    { c.outlet n with
      state := .idle, tag := none, latchTarget := none, latchCycles := none, latchOpening := none
      stopAfter := false, grantHeld := false, departureSeen := false, startPending := false
      stopReason := some reason, timer := none } := by
  simp [endOrder]

end

theorem rejudgePermit_refused {e : Env} {t : Fin 12} {c : Ctl} {d : Deferred} {r : Reason}
    (held : (c.slot (tipSlot t)).holder = some d) (fails : permitCheck e t c = .refuse r) :
    tipView t (rejudgePermit e t c) = (c.tip t, refusedSlot d r (c.slot (tipSlot t))) := by
  have refused : rejudgePermit e t c = c.refuseDeferred (tipSlot t) d.commit.tag r := by
    simp [rejudgePermit, held, fails]
  rw [refused]
  exact Prod.ext rfl (refuseDeferred_slot ..)

/-- R127: a re-judgement over a refusing pass leaves the tip point and the demand word, and leaves no
PERMIT deferred. -/
theorem rejudgePermit_refusing {e : Env} {t : Fin 12} {c : Ctl}
    (refusing : PermitRefusing (c.pass (e.tipCfg t).pass)) :
    (rejudgePermit e t c).tip t = c.tip t ∧
    ((rejudgePermit e t c).slot (tipSlot t)).holder = none ∧
    ((rejudgePermit e t c).slot (tipSlot t)).wb.demand = (c.slot (tipSlot t)).wb.demand := by
  cases held : (c.slot (tipSlot t)).holder with
  | none => rw [rejudgePermit_none held]; exact ⟨rfl, held, rfl⟩
  | some d =>
    obtain ⟨reason, fails⟩ := permitCheck_refusing refusing
    have refused := rejudgePermit_refused held fails
    exact ⟨congrArg Prod.fst refused, congrArg (fun v => v.2.holder) refused,
      congrArg (fun v => v.2.wb.demand) refused⟩

/-! ### A settling of a refusing pass -/

theorem PassesKept.drawRefusing {k : PassCfg} {p : Fin 4} {c d : Ctl} (h : PassesKept c d)
    (refusing : DrawRefusing k (c.pass p)) : DrawRefusing k (d.pass p) := by
  obtain ⟨same, grant⟩ := h p
  have state : (d.pass p).state = (c.pass p).state := by rw [same]
  have below : (d.pass p).belowCushion k = (c.pass p).belowCushion k := by rw [same]; rfl
  refine refusing.imp state.trans (Or.imp state.trans fun ⟨low, without⟩ => ⟨below.trans low, ?_⟩)
  cases hg : (d.pass p).grant with
  | false => rfl
  | true => exact absurd (grant hg) (by simp [without])

theorem passesKept_rejudgePermit {e : Env} {t : Fin 12} {c d : Ctl} (h : PassesKept c d) :
    PassesKept c (rejudgePermit e t d) := fun q => by
  rw [Ctl.pass_congr AtTip.refl.rejudgePermit.passes q]
  exact h q

section
variable {e : Env} {p : Fin 4} {c : Ctl}

theorem outletCfg_pass {n : Fin 8} (hn : n ∈ e.live.outletsOf p) : (e.outletCfg n).pass = p :=
  (mem_outletsOf.1 hn).2

theorem tipCfg_pass {t : Fin 12} (ht : t ∈ e.live.tipsOf p) : (e.tipCfg t).pass = p :=
  (mem_tipsOf.1 ht).2

/-- The two visits of a settling, each over pass records as they were, grants apart. -/
theorem settleOutlets_visits {n : Fin 8} (hn : n ∈ e.live.outletsOf p) :
    ∃ x y, PassesKept c x ∧ PassesKept c y ∧ outletView n x = outletView n c ∧
      outletView n y = outletView n (visitOutlet e x n) ∧
      outletView n (settleOutlets e p c) = outletView n (visitOutlet e y n) :=
  settleOutlets_view (I := PassesKept c) hn (fun _ h => h)
    (fun _ hm _ h => (passesKept_closed e.live c).visitOutlet (mem_outletsOf.1 hm).1 h) c (.refl c)

theorem settle_outletView (n : Fin 8) :
    outletView n (settle e p c) = outletView n (settleOutlets e p c) := settleTips_outletView ..

theorem settle_idle {n : Fin 8} (idle : c.waits n = false) :
    outletView n (settle e p c) = outletView n c :=
  (settle_outletView n).trans (settleOutlets_view_idle idle)

/-- R44, R97: a settling of a refusing pass leaves an outlet where no cycle start waits, and leaves no DRAW
deferred there. -/
theorem settle_refusing {n : Fin 8} (hn : n ∈ e.live.outletsOf p)
    (refusing : DrawRefusing (e.passCfg p) (c.pass p)) (idle : (c.outlet n).startPending = false) :
    (settle e p c).outlet n = c.outlet n ∧ ((settle e p c).slot (outletSlot n)).holder = none := by
  obtain ⟨x, y, hx, hy, before, between, after⟩ := settleOutlets_visits (c := c) hn
  have pass := outletCfg_pass (e := e) hn
  rw [← settle_outletView] at after
  have first := visitOutlet_refusing (e := e) (n := n) (c := x)
    (by rw [pass]; exact hx.drawRefusing refusing) (by rw [(outletView_eq.1 before).1]; exact idle)
  have same : y.outlet n = c.outlet n :=
    (outletView_eq.1 between).1.trans (first.1.trans (outletView_eq.1 before).1)
  have second := visitOutlet_refusing (e := e) (n := n) (c := y)
    (by rw [pass]; exact hy.drawRefusing refusing) (by rw [same]; exact idle)
  exact ⟨(outletView_eq.1 after).1.trans (second.1.trans same),
    (congrArg CommandSlot.holder (outletView_eq.1 after).2).trans second.2⟩

/-- R44: what a settling of a refusing pass writes for the DRAW deferred at an outlet where no cycle start
waits; the check that fails reads the outlet and the pass as they were. -/
theorem settle_refused {n : Fin 8} (hn : n ∈ e.live.outletsOf p)
    (refusing : DrawRefusing (e.passCfg p) (c.pass p)) (idle : (c.outlet n).startPending = false)
    {d : Deferred} (held : (c.slot (outletSlot n)).holder = some d) :
    ∃ x reason, PassesKept c x ∧ x.outlet n = c.outlet n ∧ drawCheck e n d.commit x = .refuse reason ∧
      (settle e p c).slot (outletSlot n) = refusedSlot d reason (c.slot (outletSlot n)) := by
  obtain ⟨x, y, hx, hy, before, between, after⟩ := settleOutlets_visits (c := c) hn
  obtain ⟨outlet, slot⟩ := outletView_eq.1 before
  rw [← settle_outletView] at after
  obtain ⟨reason, fails⟩ := drawCheck_refusing (e := e) (n := n) (c := x)
    (by rw [outletCfg_pass (e := e) hn]; exact hx.drawRefusing refusing) d.commit
  have first := visitOutlet_refused (by rw [outlet]; exact idle) (by rw [slot]; exact held) fails
  rw [first, outlet, slot] at between
  have second : visitOutlet e y n = y :=
    visitOutlet_idle ((congrArg (fun v => v.1.startPending) between).trans idle)
      (congrArg (fun v => v.2.holder) between)
  rw [second, between] at after
  exact ⟨x, reason, hx, outlet, fails, congrArg Prod.snd after⟩

/-- R107: in LOCKOUT and in HANGUP a settling leaves no DRAW deferred and no cycle start waiting. -/
theorem settle_empties {n : Fin 8} (hn : n ∈ e.live.outletsOf p)
    (stopped : (c.pass p).state = .lockout ∨ (c.pass p).state = .hangup) :
    ((settle e p c).slot (outletSlot n)).holder = none := by
  have refusing : DrawRefusing (e.passCfg p) (c.pass p) := stopped.imp id .inl
  cases waits : (c.outlet n).startPending with
  | false => exact (settle_refusing hn refusing waits).2
  | true =>
    obtain ⟨x, y, hx, hy, before, between, after⟩ := settleOutlets_visits (c := c) hn
    have pass := outletCfg_pass (e := e) hn
    rw [← settle_outletView] at after
    have ends : ∃ reason, cycleStart e n x = endOrder e n reason x := by
      have state : (x.pass p).state = (c.pass p).state := by rw [(hx p).1]
      rcases stopped with locked | hung
      · exact ⟨.lockout, by simp [cycleStart, pass, state, locked]⟩
      · exact ⟨.hangup, by simp [cycleStart, pass, state, hung]⟩
    obtain ⟨reason, ends⟩ := ends
    have ended := visitOutlet_ends (by rw [(outletView_eq.1 before).1]; exact waits) ends
    rw [ended] at between
    have idle : (y.outlet n).startPending = false := by
      rw [(outletView_eq.1 between).1, endOrder_outlet]
    have second := visitOutlet_refusing (e := e) (n := n) (c := y)
      (by rw [pass]; exact hy.drawRefusing refusing) idle
    exact (congrArg CommandSlot.holder (outletView_eq.1 after).2).trans second.2

/-- R44, R128: a settling of a pass that refuses PERMITs leaves its tip points and their demand words, and
leaves no PERMIT deferred. -/
theorem settle_permitRefusing {t : Fin 12} (ht : t ∈ e.live.tipsOf p)
    (refusing : PermitRefusing (c.pass p)) :
    (settle e p c).tip t = c.tip t ∧ ((settle e p c).slot (tipSlot t)).holder = none ∧
      ((settle e p c).slot (tipSlot t)).wb.demand = (c.slot (tipSlot t)).wb.demand := by
  obtain ⟨x, hx, before, after⟩ := settleTips_view (I := PassesKept c) ht
    (fun _ _ _ h => passesKept_rejudgePermit h) (settleOutlets e p c)
    ((passesKept_closed e.live c).settleOutlets (.refl c))
  rw [settleOutlets_tipView] at before
  have same := (hx p).1
  have refused := rejudgePermit_refusing (e := e) (t := t) (c := x)
    (by rw [tipCfg_pass (e := e) ht, same]; exact refusing)
  obtain ⟨tip, slot⟩ := tipView_eq.1 before
  obtain ⟨tip', slot'⟩ := tipView_eq.1 after
  rw [tip, slot] at refused
  exact ⟨tip'.trans refused.1, (congrArg CommandSlot.holder slot').trans refused.2.1,
    (congrArg (fun v => v.wb.demand) slot').trans refused.2.2⟩

end

/-! ### The members after HANGUP and LOCKOUT -/

/-- No order starts over a pass that is not RUNNING, and no tip point opens over it. -/
theorem hung_closed (l : Live) (p : Fin 4) :
    SettleClosed l (fun d => Hung l p d ∧ (d.pass p).state ≠ .running) where
  journal _ _ h := ⟨⟨h.1.outlets, h.1.tips⟩, h.2⟩
  free _ h := ⟨⟨h.1.outlets, h.1.tips⟩, h.2⟩
  slot _ _ _ _ _ h := ⟨⟨h.1.outlets, h.1.tips⟩, h.2⟩
  grant q d h := by
    refine ⟨⟨h.1.outlets, h.1.tips⟩, ?_⟩
    rw [Ctl.pass_setPass]
    split
    · next same => subst same; exact h.2
    · exact h.2
  outlet n o d moved h := by
    refine ⟨⟨fun m hm => ?_, h.1.tips⟩, h.2⟩
    rw [Ctl.outlet_setOutlet]
    split
    · next same =>
      subst same
      cases active : o.state.active with
      | false => rfl
      | true =>
        rcases moved active with was | ⟨-, runs⟩
        · exact absurd was (by simp [h.1.outlets _ hm])
        · rw [(mem_outletsOf.1 hm).2] at runs; exact absurd runs h.2
    · exact h.1.outlets m hm
  tip t x d moved h := by
    refine ⟨⟨h.1.outlets, fun u hu => ?_⟩, h.2⟩
    rw [Ctl.tip_setTip]
    split
    · next same =>
      subst same
      intro opened
      rcases moved (by rw [opened]; rfl) with was | advance
      · exact h.1.tips _ hu (was ▸ opened)
      · have runs := (advance.opens opened).1
        rw [(mem_tipsOf.1 hu).2] at runs
        exact h.2 runs
    · exact h.1.tips u hu

/-- R9, R14, R23: what holds of a property of the controllers after a delivery. -/
theorem DeliveryClosed.deliver {e : Env} {P : Ctl → Prop} (h : DeliveryClosed e.live P) {p : Fin 4}
    {news : News} {c : Ctl} (hc : P c) : P (Machine.deliver e p news c) := by
  have h1 := keeps_ite (b := news.full) (h.closeTips (e := e) (p := p) hc) hc
  have h2 := keeps_ite (b := news.cushion) (h.stopForCushion (e := e) (p := p) h1) h1
  have h3 := keeps_ite (b := news.hangup)
    (h.closeTips (e := e) (p := p) (h.stopOutlets (e := e) (p := p) (r := .hangup) h2)) h2
  have h4 := keeps_ite (b := news.lockout)
    (h.parkTips (e := e) (p := p)
      (h.closeTips (e := e) (p := p) (h.stopOutlets (e := e) (p := p) (r := .lockout) h3))) h3
  exact keeps_ite (b := news.touched) (h.settle (e := e) (p := p) h4) h4

/-- What a delivery leaves of the passes and their slots: the dwell timers can start, and grants can be
taken. -/
structure PassSide (c d : Ctl) : Prop where
  passes : ∀ q, d.pass q =
    { c.pass q with grant := (d.pass q).grant, dwellTimer := (d.pass q).dwellTimer }
  grants : ∀ q, (d.pass q).grant = true → (c.pass q).grant = true
  slots : ∀ q, d.slot (passSlot q) = c.slot (passSlot q)

theorem PassSide.refl (c : Ctl) : PassSide c c := ⟨fun _ => rfl, fun _ => id, fun _ => rfl⟩

theorem passSide_closed (l : Live) (c : Ctl) : DeliveryClosed l (PassSide c) where
  journal _ _ h := ⟨h.passes, h.grants, h.slots⟩
  free _ h := ⟨h.passes, h.grants, h.slots⟩
  slot k f d hk _ h := by
    refine ⟨h.passes, h.grants, fun q => ?_⟩
    have other : k ≠ passSlot q := fun same => by
      have : k.val = 20 + q.val := congrArg Fin.val same
      omega
    rw [Ctl.slot_updSlot_other d f other]
    exact h.slots q
  grant p d h := by
    refine ⟨fun q => ?_, fun q => ?_, h.slots⟩ <;> rw [Ctl.pass_setPass] <;> split
    · next same => subst same; rw [h.passes p]
    · exact h.passes q
    · exact nofun
    · exact h.grants q
  timer p t d h := by
    refine ⟨fun q => ?_, fun q => ?_, h.slots⟩ <;> rw [Ctl.pass_setPass] <;> split
    · next same => subst same; rw [h.passes p]
    · exact h.passes q
    · next same => subst same; exact h.grants p
    · exact h.grants q
  outlet _ _ _ _ h := ⟨h.passes, h.grants, h.slots⟩
  tip _ _ _ _ h := ⟨h.passes, h.grants, h.slots⟩

theorem deliver_passSide (e : Env) (p : Fin 4) (news : News) (c : Ctl) :
    PassSide c (deliver e p news c) := (passSide_closed e.live c).deliver (.refl c)

end Sys2Proof.Machine
end

section
/-! Proofs: the taking of a commit (R41, R42, R46), and the commits on pass slots (R22 to R27). -/

namespace Sys2Proof.Machine

/-! ### The commit record -/

@[simp] theorem commitOf_code (s : State) (k : Fin 24) (code tag : Octet) :
    (s.commitOf k code tag).code = code := lowOctet_joinWord tag code

@[simp] theorem commitOf_tag (s : State) (k : Fin 24) (code tag : Octet) :
    (s.commitOf k code tag).tag = tag := highOctet_joinWord tag code

/-! ### The taking of a demand word -/

/-- R41, R46: the controllers before the judgement of a commit on the slot `k`: staging and holder are
emptied, and what a superseded commit had marked is gone. -/
def State.freshCtl (s : State) (k : Fin 24) : Ctl :=
  s.ctl.setSlot k { s.ctl.slot k with staged := Staged.empty, wb := s.marksLeft k, holder := none }

@[simp] theorem freshCtl_slot (s : State) (k : Fin 24) : (s.freshCtl k).slot k =
    { s.ctl.slot k with staged := Staged.empty, wb := s.marksLeft k, holder := none } :=
  Ctl.slot_setSlot_same ..

theorem freshCtl_slot_other (s : State) {k j : Fin 24} (h : k ≠ j) :
    (s.freshCtl k).slot j = s.ctl.slot j := Ctl.slot_setSlot_other _ _ h

@[simp] theorem freshCtl_pass (s : State) (k : Fin 24) (p : Fin 4) :
    (s.freshCtl k).pass p = s.ctl.pass p := rfl

theorem setSlot_setSlot (c : Ctl) (k : Fin 24) (x y : CommandSlot) :
    (c.setSlot k x).setSlot k y = c.setSlot k y := by
  unfold Ctl.setSlot
  simp

/-- A record with a marked word goes into the urgent queue. -/
theorem placeSlot_marked {s : State} {k : Fin 24} (marked : (s.ctl.slot k).wb.marked = true) :
    s.placeSlot k =
      { s with
        urgent := s.urgent ++ [markedEntries (s.commandBase k) (s.ctl.slot k).wb.words]
        ctl := s.ctl.setSlot k { s.ctl.slot k with wb := WriteBack.empty } } := by
  simp only [State.placeSlot, if_pos marked, State.placeUrgent]

theorem joinWord_zero : joinWord 0#8 0#8 = 0#16 := by decide

/-- R41, R46: what the clearing of the staging and the supersession leave. -/
theorem supersede_clearStaged (s : State) (k : Fin 24) :
    (s.clearStaged k).supersede k =
      { s with urgent := s.urgent ++ s.supersededGroups k, ctl := s.freshCtl k } := by
  cases held : (s.ctl.slot k).holder with
  | none =>
    have kept : (s.clearStaged k).supersede k = s.clearStaged k := by
      simp [State.supersede, State.clearStaged, held]
    rw [kept]
    simp [State.clearStaged, State.supersededGroups, State.freshCtl, State.marksLeft, held,
      Ctl.updSlot]
  | some d =>
    unfold State.supersede
    simp only [State.clearStaged, Ctl.slot_updSlot_same, held]
    rw [placeSlot_marked (by
      simp [CommandSlot.putVerdict, WriteBack.marked, WriteBack.words])]
    simp [State.supersededGroups, State.freshCtl, State.marksLeft, held, Ctl.updSlot,
      CommandSlot.putVerdict, State.commandBase, State.regions, setSlot_setSlot, joinWord_zero]

/-- R41: a commit taken at once: its judgement, and the group that the judgement marks. -/
theorem commitWrite_taken {s : State} {k : Fin 24} {code tag : Octet} (takes : s.takesCommits)
    {y : Ctl} (judged : judgeCommit s.env k (s.commitOf k code tag) (s.freshCtl k) = y)
    (marked : (y.slot k).wb.marked = true) :
    ∃ t, commitWrite k code tag s = .next t ∧
      s.answered t k (markedEntries (s.commandBase k) (y.slot k).wb.words) ∧
      t.ctl = y.setSlot k { y.slot k with wb := WriteBack.empty } := by
  obtain ⟨⟨released, free, running⟩, room⟩ := takes
  have stretched : State.demandWrite k (joinWord tag code) s =
      ((s.hold (s.demandTxn k (joinWord tag code))).takeCommit k (joinWord tag code)).ready := by
    have enough : ¬(s.hold (s.demandTxn k (joinWord tag code))).urgentFree < 12 := Nat.not_lt.2 room
    simp only [State.demandWrite, State.takeStretched, State.hold_port, if_neg enough]
    rfl
  set h := s.hold (s.demandTxn k (joinWord tag code)) with hh
  have taken : h.takeCommit k (joinWord tag code) =
      { h with
        urgent := h.urgent ++ s.supersededGroups k ++
          [markedEntries (s.commandBase k) (y.slot k).wb.words]
        ctl := y.setSlot k { y.slot k with wb := WriteBack.empty } } := by
    have acted : ((h.clearStaged k).supersede k).onCtl
        (fun e c => judgeCommit e k ((h.ctl.slot k).formCommit (joinWord tag code)) c) =
        { h with urgent := h.urgent ++ s.supersededGroups k, ctl := y } := by
      rw [supersede_clearStaged]
      unfold State.onCtl
      rw [← judged]
      rfl
    unfold State.takeCommit
    dsimp only
    rw [acted, placeSlot_marked marked]
    rfl
  refine ⟨(h.takeCommit k (joinWord tag code)).ready.seek, ?_, ?_, ?_⟩
  · unfold commitWrite event quiet State.present State.inRun
    simp only [released, free, running, if_true, Bool.false_eq_true, if_false, Option.isSome_none]
    rw [stretched]
  all_goals
    have sought := seek_only (h.takeCommit k (joinWord tag code)).ready
    unfold DrainerOnly at sought
    rw [sought, taken]
  · exact ⟨rfl, rfl, rfl⟩
  · rfl

/-- R42: a commit that its judgement refuses. -/
theorem commitWrite_refused {s : State} {k : Fin 24} {code tag : Octet} {r : Reason}
    (takes : s.takesCommits)
    (judged : judgeCommit s.env k (s.commitOf k code tag) (s.freshCtl k) =
      (s.freshCtl k).refuse k tag r) :
    ∃ t, commitWrite k code tag s = .next t ∧ s.refusedWith t k tag r := by
  obtain ⟨t, ran, answered, after⟩ := commitWrite_taken takes judged (by
    simp [Ctl.refuse, CommandSlot.putVerdict, WriteBack.marked, WriteBack.words])
  refine ⟨t, ran, ?_, ?_⟩
  · simpa [Ctl.refuse, CommandSlot.putVerdict, State.verdictGroup, Verdict.code] using answered
  · rw [after]
    simp [Ctl.refuse, Ctl.updSlot, State.freshCtl, CommandSlot.putVerdict, setSlot_setSlot]

/-- R42: a commit that its judgement accepts, after what it brought about in `d`. -/
theorem commitWrite_accepted {s : State} {k : Fin 24} {code tag demand : Octet} {sp : SetPoints}
    {v : Verdict} {detail : Octet} {d : Ctl} (takes : s.takesCommits)
    (staged : (d.slot k).staged = Staged.empty) (holder : (d.slot k).holder = none)
    (judged : judgeCommit s.env k (s.commitOf k code tag) (s.freshCtl k) =
      d.accept k sp demand tag v detail) :
    ∃ t, commitWrite k code tag s = .next t ∧ s.acceptedWith t k sp demand tag v detail ∧
      t.ctl = d.setSlot k (t.ctl.slot k) := by
  obtain ⟨t, ran, answered, after⟩ := commitWrite_taken takes judged (by
    simp [Ctl.accept, CommandSlot.putVerdict, WriteBack.marked, WriteBack.words])
  have slot : t.ctl.slot k =
      { staged := Staged.empty, copy := sp, wb := WriteBack.empty, lastTag := tag, holder := none } := by
    rw [after, Ctl.slot_setSlot_same]
    simp [Ctl.accept, CommandSlot.putVerdict, CommandSlot.putDemand, CommandSlot.putSetPoints, staged,
      holder]
  refine ⟨t, ran, ⟨?_, slot⟩, ?_⟩
  · simpa [Ctl.accept, CommandSlot.putVerdict, CommandSlot.putDemand, CommandSlot.putSetPoints,
      State.acceptedGroup, entriesAt, WriteBack.words] using answered
  · conv_lhs => rw [after]
    rw [after, Ctl.slot_setSlot_same]
    simp [Ctl.accept, Ctl.updSlot, setSlot_setSlot]

/-! ### Commits on a pass slot -/

theorem ownerOf_passSlot (p : Fin 4) : ownerOf (passSlot p) = .pass p := by
  revert p; decide

theorem judgeCommit_passSlot (e : Env) (p : Fin 4) (cm : Commit) (c : Ctl) :
    judgeCommit e (passSlot p) cm c = judgePass e p cm c := by
  unfold judgeCommit
  rw [ownerOf_passSlot]

/-- R22: both refusals that every pass commit has: NOT_CONFIGURED, and RANGE for a set-point B or C. -/
theorem passCommit_refused {s : State} {p : Fin 4} {tag code : Octet} {c : Instr}
    (takes : s.takesCommits) (listed : code.toNat < 8)
    (ran : exec c s = commitWrite (passSlot p) code tag s)
    (word : commitWord c = some (joinWord tag code)) :
    ((s.live.passCfg p).present = false →
      ∃ t, exec c s = .next t ∧ s.refusedWith t (passSlot p) tag .notConfigured) ∧
    (∀ code : Octet, commitWord c = some (joinWord tag code) → (s.live.passCfg p).present = true →
      (s.commitOf (passSlot p) code tag).sp.b ≠ 0 ∨ (s.commitOf (passSlot p) code tag).sp.c ≠ 0 →
      ∃ t, exec c s = .next t ∧ s.refusedWith t (passSlot p) tag .range) := by
  have known : ¬8 ≤ (s.commitOf (passSlot p) code tag).code.toNat := by
    rw [commitOf_code]; omega
  refine ⟨fun absent => ?_, fun other hword present outside => ?_⟩
  · rw [ran]
    refine commitWrite_refused takes ?_
    have missing : (s.env.passCfg p).present = false := absent
    rw [judgeCommit_passSlot, judgePass, if_neg known, if_pos missing, commitOf_tag]
  · have same : other = code := by
      have words : joinWord tag other = joinWord tag code := by
        rw [word] at hword; exact (Option.some.inj hword).symm
      rw [← lowOctet_joinWord tag other, words, lowOctet_joinWord]
    subst same
    rw [ran]
    refine commitWrite_refused takes ?_
    have configured : ¬(s.env.passCfg p).present = false := by
      show ¬(s.live.passCfg p).present = false
      simp [present]
    rw [judgeCommit_passSlot, judgePass, if_neg known, if_neg configured, if_pos outside, commitOf_tag]

/-- R22: the order that a pass commit is, past the checks that all of them share. -/
def passOrder (e : Env) (p : Fin 4) (cm : Commit) (c : Ctl) : Ctl :=
  if cm.code = 0 then judgeLockout e p cm c
  else if cm.code = 1 then judgeRun e p cm c
  else if cm.code = 2 then judgeReleaseHangup e p cm c
  else if cm.code = 3 then judgeWet e p true cm c
  else if cm.code = 4 then judgeWet e p false cm c
  else if cm.code = 5 then judgeEmptyOut e p cm c
  else if cm.code = 6 then judgeRebase e p cm c
  else judgeSetInventory e p cm c

theorem judgePass_passes {e : Env} {p : Fin 4} {cm : Commit} {c : Ctl} (listed : cm.code.toNat < 8)
    (present : (e.passCfg p).present = true) (b : cm.sp.b = 0) (z : cm.sp.c = 0) :
    judgePass e p cm c = passOrder e p cm c := by
  have inRange : ¬(cm.sp.b ≠ 0 ∨ cm.sp.c ≠ 0) := by simp [b, z]
  rw [judgePass, if_neg (by omega), if_neg (by simp [present]), if_neg inRange]
  rfl

/-- What a pass commit that passes its checks asks of its order. -/
structure PassCommitPasses (s : State) (p : Fin 4) (code tag : Octet) : Prop where
  takes : s.takesCommits
  present : (s.live.passCfg p).present = true
  listed : code.toNat < 8
  b : (s.commitOf (passSlot p) code tag).sp.b = 0
  c : (s.commitOf (passSlot p) code tag).sp.c = 0

theorem PassCommitPasses.judged {s : State} {p : Fin 4} {code tag : Octet}
    (h : PassCommitPasses s p code tag) (c : Ctl) :
    judgeCommit s.env (passSlot p) (s.commitOf (passSlot p) code tag) c =
      passOrder s.env p (s.commitOf (passSlot p) code tag) c := by
  rw [judgeCommit_passSlot]
  exact judgePass_passes (by rw [commitOf_code]; exact h.listed) h.present h.b h.c

theorem PassCommitPasses.refused {s : State} {p : Fin 4} {code tag : Octet} {r : Reason}
    (h : PassCommitPasses s p code tag)
    (judged : passOrder s.env p (s.commitOf (passSlot p) code tag) (s.freshCtl (passSlot p)) =
      (s.freshCtl (passSlot p)).refuse (passSlot p) tag r) :
    ∃ t, commitWrite (passSlot p) code tag s = .next t ∧ s.refusedWith t (passSlot p) tag r :=
  commitWrite_refused h.takes ((h.judged _).trans judged)

/-- R22: an accepted pass commit answers with the pass state it leaves and the value of set-point A; what it
brings about in `d` leaves the slot of the pass. -/
theorem PassCommitPasses.accepted {s : State} {p : Fin 4} {code tag : Octet} {d : Ctl}
    (h : PassCommitPasses s p code tag)
    (slot : d.slot (passSlot p) = (s.freshCtl (passSlot p)).slot (passSlot p))
    (judged : passOrder s.env p (s.commitOf (passSlot p) code tag) (s.freshCtl (passSlot p)) =
      acceptPass p (s.commitOf (passSlot p) code tag) d) :
    ∃ t, commitWrite (passSlot p) code tag s = .next t ∧
      s.acceptedWith t (passSlot p) { a := (s.commitOf (passSlot p) code tag).sp.a, b := 0, c := 0 }
        (BitVec.ofNat 8 (d.pass p).state.code) tag .accepted 0 ∧
      t.ctl = d.setSlot (passSlot p) (t.ctl.slot (passSlot p)) := by
  refine commitWrite_accepted h.takes (by rw [slot, freshCtl_slot]) (by rw [slot, freshCtl_slot]) ?_
  rw [h.judged, judged, acceptPass, commitOf_tag]

end Sys2Proof.Machine
end

section
/-! Proofs: the orders on pass slots (R23 to R27). -/

namespace Sys2Proof.Machine

theorem withNews_passSide (e : Env) (p : Fin 4) (f : Ctl → Ctl × News) (c : Ctl) :
    PassSide (f c).1 (withNews e p f c) := deliver_passSide ..

/-! ### RUN and RELEASE_HANGUP (R24, R25) -/

theorem enterRunning_pass (e : Env) (p : Fin 4) (c : Ctl) : (enterRunning e p c).1.pass p =
    { (c.pass p).startReference with state := .running, cause := .none } := by
  simp [enterRunning]

theorem enterRunning_slot (e : Env) (p : Fin 4) (c : Ctl) (k : Fin 24) :
    (enterRunning e p c).1.slot k = c.slot k := by
  simp [enterRunning]

/-- R11, R24, R25: the record of a pass right after its entry into RUNNING, with the members' part done. -/
theorem entered_running (e : Env) (p : Fin 4) (c : Ctl) :
    let x := (withNews e p (enterRunning e p) c).pass p
    x.state = .running ∧ x.cause = .none ∧ x.accumulator = 0 ∧
      x.reference = if (c.pass p).levelValid then (c.pass p).levelFill else 0 := by
  have side := (withNews_passSide e p (enterRunning e p) c).passes p
  rw [enterRunning_pass] at side
  intro x
  have record : x = _ := side
  rw [record]
  exact ⟨rfl, rfl, rfl, rfl⟩

/-- R24, R25: the accepted entry into RUNNING by the order with this code. -/
theorem entersRunning_accepted {s : State} {p : Fin 4} {code tag : Octet}
    (h : PassCommitPasses s p code tag)
    (judged : passOrder s.env p (s.commitOf (passSlot p) code tag) (s.freshCtl (passSlot p)) =
      acceptPass p (s.commitOf (passSlot p) code tag)
        (withNews s.env p (enterRunning s.env p) (s.freshCtl (passSlot p)))) :
    ∃ t, commitWrite (passSlot p) code tag s = .next t ∧
      ((t.ctl.pass p).state = .running ∧ (t.ctl.pass p).cause = .none ∧
        (t.ctl.pass p).accumulator = 0 ∧ (t.ctl.pass p).reference =
          if (s.ctl.pass p).levelValid then (s.ctl.pass p).levelFill else 0) ∧
      s.acceptedWith t (passSlot p) { a := (s.commitOf (passSlot p) code tag).sp.a, b := 0, c := 0 }
        1 tag .accepted 0 := by
  set d := withNews s.env p (enterRunning s.env p) (s.freshCtl (passSlot p)) with hd
  have slot : d.slot (passSlot p) = (s.freshCtl (passSlot p)).slot (passSlot p) := by
    rw [hd, (withNews_passSide ..).slots p, enterRunning_slot]
  obtain ⟨running, cause, accumulator, reference⟩ := entered_running s.env p (s.freshCtl (passSlot p))
  obtain ⟨t, ran, accepted, after⟩ := h.accepted slot judged
  rw [running] at accepted
  exact ⟨t, ran, by rw [after]; exact ⟨running, cause, accumulator, reference⟩, accepted⟩

/-- Settles O36: RUN and RELEASE_HANGUP, by the pass state that they find. -/
theorem runAndReleaseEnterRunning : Obligations.RunAndReleaseEnterRunning := by
  unfold Obligations.RunAndReleaseEnterRunning
  refine ⟨?orders, fun s p tag takes c hc => ?refusals⟩
  case orders =>
    intro s p tag k r entered takes present
    refine ⟨fun b z => ⟨fun notHung => ?_, fun hung => ?_⟩, fun b z => ⟨fun hung => ?_, fun other => ?_⟩⟩
    · have passes : PassCommitPasses s p 1 tag := ⟨takes, present, by decide, b, z⟩
      cases hs : r.state with
      | lockout =>
        obtain ⟨t, ran, record, accepted⟩ := entersRunning_accepted passes
          (by simp [passOrder, judgeRun, show (s.ctl.pass p).state = .lockout from hs])
        exact ⟨t, ran, fun _ => record, nofun, accepted⟩
      | running =>
        obtain ⟨t, ran, accepted, after⟩ := passes.accepted (d := s.freshCtl k) rfl
          (by simp [passOrder, judgeRun, show (s.ctl.pass p).state = .running from hs, k])
        rw [freshCtl_pass, show (s.ctl.pass p).state = .running from hs] at accepted
        exact ⟨t, ran, nofun, fun _ => by rw [after]; rfl, accepted⟩
      | hangup => exact absurd hs notHung
    · have passes : PassCommitPasses s p 1 tag := ⟨takes, present, by decide, b, z⟩
      exact passes.refused (by simp [passOrder, judgeRun, show (s.ctl.pass p).state = .hangup from hung])
    · have passes : PassCommitPasses s p 2 tag := ⟨takes, present, by decide, b, z⟩
      exact entersRunning_accepted passes
        (by simp [passOrder, judgeReleaseHangup, show (s.ctl.pass p).state = .hangup from hung])
    · have passes : PassCommitPasses s p 2 tag := ⟨takes, present, by decide, b, z⟩
      refine passes.refused ?_
      cases hs : (s.ctl.pass p).state with
      | hangup => exact absurd hs other
      | lockout => simp [passOrder, judgeReleaseHangup, hs]
      | running => simp [passOrder, judgeReleaseHangup, hs]
  case refusals =>
    simp only [List.mem_cons, List.not_mem_nil, or_false] at hc
    rcases hc with rfl | rfl
    · exact passCommit_refused takes (code := 1) (by decide) rfl rfl
    · exact passCommit_refused takes (code := 2) (by decide) rfl rfl

/-! ### DECLARE_WET, CLEAR_WET and EMPTY_OUT (R20, R26) -/

theorem activationTest_slot (e : Env) (p : Fin 4) (c : Ctl) (k : Fin 24) :
    (activationTest e p c).1.slot k = c.slot k := by
  simp only [activationTest]
  split <;> simp

theorem wetTests_slot (e : Env) (p : Fin 4) (c : Ctl) (k : Fin 24) :
    (wetTests e p c).1.slot k = c.slot k := by
  simp only [wetTests, andThen, endingTest_slot, activationTest_slot]

/-- R15, R17, R19: the tests move neither the host flag nor the pass state. -/
theorem wetTests_kept (e : Env) (p : Fin 4) (c : Ctl) :
    ((wetTests e p c).1.pass p).hostWet = (c.pass p).hostWet ∧
      ((wetTests e p c).1.pass p).state = (c.pass p).state := by
  rw [wetTests_pass]
  unfold Pass.tested Pass.activated
  repeat' split
  all_goals exact ⟨rfl, rfl⟩

/-- R26: the host flag moves to `wet`, and both tests follow. -/
def hostWetTests (e : Env) (p : Fin 4) (wet : Bool) (c : Ctl) : Ctl × News :=
  wetTests e p (c.setPass p { c.pass p with hostWet := wet })

theorem judgeWet_eq (e : Env) (p : Fin 4) (wet : Bool) (cm : Commit) (c : Ctl) :
    judgeWet e p wet cm c =
      if (c.pass p).hostWet = wet then acceptPass p cm c
      else acceptPass p cm (withNews e p (hostWetTests e p wet) c) := rfl

/-- R19, R26: where the host was the one source of a restriction, its withdrawal ends the restriction. -/
theorem hostWetTests_dry {e : Env} {p : Fin 4} {c : Ctl} (active : (c.pass p).wetActive = true)
    (dry : (c.pass p).sensorWet ≠ .wet) :
    ((hostWetTests e p false c).1.pass p).wetActive = false ∧
      ((hostWetTests e p false c).1.pass p).dwell = 0 := by
  set x : Pass := { c.pass p with hostWet := false } with hx
  have before : (c.setPass p x).pass p = x := Ctl.pass_setPass_same ..
  have same : x.activated (e.passCfg p) = x := if_neg (by simp [hx, active])
  have ends := (tested_active (e.passCfg p)
    ((activationTest e p (c.setPass p x)).1.restartedDwell e p) x active).1
    (.inr (by simp [hx, Pass.wetEffective, dry]))
  unfold hostWetTests
  rw [wetTests_pass, before, same]
  exact ⟨ends.1, ends.2.2⟩

/-- R26: the accepted DECLARE_WET or CLEAR_WET, with what it makes of the record where it moves the flag. -/
theorem wet_accepted {s : State} {p : Fin 4} {code tag : Octet} (wet : Bool)
    (h : PassCommitPasses s p code tag)
    (judged : passOrder s.env p (s.commitOf (passSlot p) code tag) (s.freshCtl (passSlot p)) =
      judgeWet s.env p wet (s.commitOf (passSlot p) code tag) (s.freshCtl (passSlot p))) :
    ∃ t, commitWrite (passSlot p) code tag s = .next t ∧ (t.ctl.pass p).hostWet = wet ∧
      ((s.ctl.pass p).hostWet ≠ wet →
        let x := (hostWetTests s.env p wet (s.freshCtl (passSlot p))).1.pass p
        (t.ctl.pass p).wetActive = x.wetActive ∧ (t.ctl.pass p).dwell = x.dwell) ∧
      s.acceptedWith t (passSlot p) { a := (s.commitOf (passSlot p) code tag).sp.a, b := 0, c := 0 }
        (BitVec.ofNat 8 (s.ctl.pass p).state.code) tag .accepted 0 := by
  rw [judgeWet_eq] at judged
  split at judged
  · next same =>
    obtain ⟨t, ran, accepted, after⟩ := h.accepted rfl judged
    exact ⟨t, ran, by rw [after]; exact same, fun moved => absurd same moved, accepted⟩
  · set d := withNews s.env p (hostWetTests s.env p wet) (s.freshCtl (passSlot p)) with hd
    have side := withNews_passSide s.env p (hostWetTests s.env p wet) (s.freshCtl (passSlot p))
    rw [← hd] at side
    have tests := wetTests_kept s.env p ((s.freshCtl (passSlot p)).setPass p
      { (s.freshCtl (passSlot p)).pass p with hostWet := wet })
    rw [Ctl.pass_setPass_same] at tests
    have record := side.passes p
    have slot : d.slot (passSlot p) = (s.freshCtl (passSlot p)).slot (passSlot p) := by
      rw [side.slots p, hostWetTests, wetTests_slot]; rfl
    obtain ⟨t, ran, accepted, after⟩ := h.accepted slot judged
    have final : t.ctl.pass p = d.pass p := by rw [after]; rfl
    have state : (d.pass p).state = (s.ctl.pass p).state := by rw [record]; exact tests.2
    rw [state] at accepted
    refine ⟨t, ran, ?_, fun _ => ⟨?_, ?_⟩, accepted⟩ <;> rw [final, record]
    exact tests.1

/-- R20: the grant is set. -/
def setGrant (p : Fin 4) (c : Ctl) : Ctl × News :=
  (c.setPass p { c.pass p with grant := true }, News.touch true)

theorem judgeEmptyOut_eq (e : Env) (p : Fin 4) (cm : Commit) (c : Ctl) :
    judgeEmptyOut e p cm c =
      if (c.pass p).state = .lockout then c.refuse (passSlot p) cm.tag .lockout
      else if (c.pass p).grant then acceptPass p cm c
      else acceptPass p cm (withNews e p (setGrant p) c) := rfl

/-- R44: where no outlet of the pass waits, a settling leaves the pass records and the journal. -/
theorem settleTips_kept (e : Env) (p : Fin 4) (c : Ctl) :
    (settleTips e p c).passes = c.passes ∧ (settleTips e p c).journal = c.journal := by
  refine foldl_keeps (Q := fun b : Ctl => b.passes = c.passes ∧ b.journal = c.journal)
    (fun b t hb => ⟨(AtTip.refl.rejudgePermit.passes).trans hb.1, ?_⟩) _ _ ⟨rfl, rfl⟩
  refine Eq.trans ?_ hb.2
  unfold rejudgePermit
  split
  · rfl
  · split
    · rfl
    · rfl
    · unfold Ctl.keepDeferred; split <;> rfl

theorem settle_unwaited {e : Env} {p : Fin 4} {c : Ctl}
    (unwaited : ∀ n ∈ e.live.outletsOf p, c.waits n = false) :
    (settle e p c).passes = c.passes ∧ (settle e p c).journal = c.journal := by
  unfold settle
  rw [settleOutlets_none unwaited]
  exact settleTips_kept ..

/-- The taking of a commit on a pass slot leaves what waits at the outlets. -/
theorem freshCtl_waits (s : State) (p : Fin 4) (n : Fin 8) :
    (s.freshCtl (passSlot p)).waits n = s.ctl.waits n := by
  have other : passSlot p ≠ outletSlot n := fun same => by
    have : 20 + p.val = n.val := congrArg Fin.val same
    omega
  exact waits_congr (outletView_eq.2 ⟨rfl, freshCtl_slot_other s other⟩)

/-- R20, R26: the accepted EMPTY_OUT. -/
theorem emptyOut_accepted {s : State} {p : Fin 4} {tag : Octet} (h : PassCommitPasses s p 5 tag)
    (notLocked : (s.ctl.pass p).state ≠ .lockout) :
    ∃ t, commitWrite (passSlot p) 5 tag s = .next t ∧
      ((∀ n ∈ s.live.outletsOf p, s.ctl.waits n = false) → (t.ctl.pass p).grant = true) ∧
      s.acceptedWith t (passSlot p) { a := (s.commitOf (passSlot p) 5 tag).sp.a, b := 0, c := 0 }
        (BitVec.ofNat 8 (s.ctl.pass p).state.code) tag .accepted 0 := by
  have judged : passOrder s.env p (s.commitOf (passSlot p) 5 tag) (s.freshCtl (passSlot p)) =
      judgeEmptyOut s.env p (s.commitOf (passSlot p) 5 tag) (s.freshCtl (passSlot p)) := by
    simp [passOrder]
  rw [judgeEmptyOut_eq, freshCtl_pass, if_neg notLocked] at judged
  split at judged
  · next granted =>
    obtain ⟨t, ran, accepted, after⟩ := h.accepted rfl judged
    exact ⟨t, ran, fun _ => by rw [after]; exact granted, accepted⟩
  · set d := withNews s.env p (setGrant p) (s.freshCtl (passSlot p)) with hd
    have side := withNews_passSide s.env p (setGrant p) (s.freshCtl (passSlot p))
    have record := side.passes p
    rw [← hd] at side record
    have slot : d.slot (passSlot p) = (s.freshCtl (passSlot p)).slot (passSlot p) := side.slots p
    obtain ⟨t, ran, accepted, after⟩ := h.accepted slot judged
    have state : (d.pass p).state = (s.ctl.pass p).state := by
      rw [record]; simp [setGrant]
    rw [state] at accepted
    refine ⟨t, ran, fun unwaited => ?_, accepted⟩
    have settled : d = settle s.env p (setGrant p (s.freshCtl (passSlot p))).1 := by
      rw [hd, withNews]; exact deliver_touch ..
    have kept := (settle_unwaited (e := s.env) (p := p) (c := (setGrant p (s.freshCtl (passSlot p))).1)
      (fun n hn => (freshCtl_waits s p n).trans (unwaited n hn))).1
    have final : t.ctl.pass p = d.pass p := by rw [after]; rfl
    rw [final, settled, Ctl.pass_congr kept p]
    simp [setGrant]

/-- Settles O37: DECLARE_WET and CLEAR_WET by the tests of R15, EMPTY_OUT by its settling. -/
theorem wetAndEmptyOutCommits : Obligations.WetAndEmptyOutCommits := by
  unfold Obligations.WetAndEmptyOutCommits
  refine ⟨?orders, fun s p tag takes c hc => ?refusals⟩
  case orders =>
    intro s p tag k r code takes present
    refine ⟨fun b z => ?_, fun b z => ?_, fun b z => ⟨fun notLocked => ?_, fun locked => ?_⟩⟩
    · obtain ⟨t, ran, wet, -, accepted⟩ := wet_accepted true
        (⟨takes, present, by decide, b, z⟩ : PassCommitPasses s p 3 tag) (by simp [passOrder])
      exact ⟨t, ran, wet, accepted⟩
    · obtain ⟨t, ran, wet, moved, accepted⟩ := wet_accepted false
        (⟨takes, present, by decide, b, z⟩ : PassCommitPasses s p 4 tag) (by simp [passOrder])
      refine ⟨t, ran, wet, fun was active dry => ?_, accepted⟩
      obtain ⟨ended, rested⟩ := moved (by simp [show (s.ctl.pass p).hostWet = true from was])
      rw [ended, rested]
      exact hostWetTests_dry active dry
    · exact emptyOut_accepted ⟨takes, present, by decide, b, z⟩ notLocked
    · exact (⟨takes, present, by decide, b, z⟩ : PassCommitPasses s p 5 tag).refused
        (by simp [passOrder, judgeEmptyOut_eq, show (s.ctl.pass p).state = .lockout from locked])
  case refusals =>
    simp only [List.mem_cons, List.not_mem_nil, or_false] at hc
    rcases hc with rfl | rfl | rfl
    · exact passCommit_refused takes (code := 3) (by decide) rfl rfl
    · exact passCommit_refused takes (code := 4) (by decide) rfl rfl
    · exact passCommit_refused takes (code := 5) (by decide) rfl rfl

end Sys2Proof.Machine
end

section
/-! Proofs: REBASE_FROM_LEVEL, SET_INVENTORY and LOCKOUT (R23, R27). -/

namespace Sys2Proof.Machine

/-! ### Events that stop neither order nor pass -/

theorem stopOutlet_journal (e : Env) (n : Fin 8) (r : EndReason) (c : Ctl) :
    (stopOutlet e n r c).journal = c.journal := by
  simp only [stopOutlet, flowLeft]
  repeat' split
  all_goals rfl

/-- R114: a stop leaves the deferred commit. -/
theorem stoppedView_holder (now : Clock) (r : EndReason) (v : Outlet × CommandSlot) :
    (stoppedView now r v).2.holder = v.2.holder := by
  unfold stoppedView
  by_cases drawing : v.1.state.drawing = true <;> simp [drawing, CommandSlot.putDemand]

/-- R9, R115: what waits at an outlet after FULL and CUSHION waited there before. -/
theorem waits_stopForCushion {e : Env} {p : Fin 4} {n : Fin 8} (hn : n ∈ e.live.outletsOf p) {c : Ctl}
    (idle : c.waits n = false) : (stopForCushion e p c).waits n = false := by
  obtain ⟨holder, pending⟩ := waits_eq_false.1 idle
  have view := stopForCushion_view e hn c
  split at view
  · next stops =>
    have stopped : (outletView n (stopForCushion e p c)).1.startPending = false := by
      rw [view]
      simp [stoppedView, stoppedOutlet, outletView, active_of_drawing stops.1]
    have kept : (outletView n (stopForCushion e p c)).2.holder = none := by
      rw [view, stoppedView_holder]; exact holder
    exact waits_eq_false.2 ⟨kept, stopped⟩
  · rw [waits_congr view]; exact idle

/-- Section 1.9: an event without HANGUP and LOCKOUT journals nothing at the members where no outlet
waits. -/
theorem deliver_journal {e : Env} {p : Fin 4} {news : News} {c : Ctl} (hangup : news.hangup = false)
    (lockout : news.lockout = false) (unwaited : ∀ n ∈ e.live.outletsOf p, c.waits n = false) :
    (deliver e p news c).journal = c.journal := by
  have closed (d : Ctl) : (closeTips e p d).journal = d.journal :=
    foldl_keeps (Q := fun b : Ctl => b.journal = d.journal)
      (fun b t hb => Eq.trans (by unfold withdrawTip; split <;> rfl) hb) _ _ rfl
  have stopped (d : Ctl) : (stopForCushion e p d).journal = d.journal :=
    foldl_keeps (Q := fun b : Ctl => b.journal = d.journal)
      (fun b n hb => Eq.trans (by split; exact stopOutlet_journal ..; rfl) hb) _ _ rfl
  unfold deliver
  extract_lets c1 c2 c3 c4
  have first : c1.journal = c.journal ∧ ∀ n ∈ e.live.outletsOf p, c1.waits n = false := by
    simp only [c1]
    split
    · exact ⟨closed c, fun n hn => (waits_congr (closeTips_outletView e p n c)).trans (unwaited n hn)⟩
    · exact ⟨rfl, unwaited⟩
  have second : c2.journal = c.journal ∧ ∀ n ∈ e.live.outletsOf p, c2.waits n = false := by
    simp only [c2]
    split
    · exact ⟨(stopped c1).trans first.1, fun n hn => waits_stopForCushion hn (first.2 n hn)⟩
    · exact first
  have fourth : c4 = c2 := by simp [c4, c3, hangup, lockout]
  rw [fourth]
  split
  · exact (settle_unwaited second.2).2.trans second.1
  · exact second.1

/-! ### REBASE_FROM_LEVEL and SET_INVENTORY (R27) -/

/-- R27: the inventory is set to `value` and settled, and the estimates are recomputed. -/
def rebase (e : Env) (p : Fin 4) (cause value : Nat) (c : Ctl) : Ctl × News :=
  recompute e p (settleInventory e p cause value c)

theorem judgeRebase_eq (e : Env) (p : Fin 4) (cm : Commit) (c : Ctl) :
    judgeRebase e p cm c =
      if (c.pass p).levelValid then
        acceptPass p cm (withNews e p (rebase e p 2 (c.pass p).levelFill) c)
      else c.refuse (passSlot p) cm.tag .levelInvalid := rfl

theorem judgeSetInventory_eq (e : Env) (p : Fin 4) (cm : Commit) (c : Ctl) :
    judgeSetInventory e p cm c =
      if (e.passCfg p).capacity < cm.sp.a.toNat then c.refuse (passSlot p) cm.tag .range
      else acceptPass p cm (withNews e p (rebase e p 3 cm.sp.a.toNat) c) := rfl

section
variable (e : Env) (p : Fin 4) (cause value : Nat) (c : Ctl)

theorem rebase_pass : (rebase e p cause value c).1.pass p =
    ({ c.pass p with inventory := value, settled := true } : Pass).recomputed (e.passCfg p)
      e.clock := by
  unfold rebase recompute settleInventory
  rw [recomputeFrom_pass]
  simp

theorem rebase_slot (k : Fin 24) : (rebase e p cause value c).1.slot k = c.slot k := by
  unfold rebase recompute
  rw [recomputeFrom_only]
  show (settleInventory e p cause value c).slot k = c.slot k
  simp [settleInventory]

theorem rebase_waits (n : Fin 8) : (rebase e p cause value c).1.waits n = c.waits n := by
  refine waits_congr (outletView_eq.2 ⟨?_, rebase_slot ..⟩)
  unfold rebase recompute
  rw [recomputeFrom_only]
  show (settleInventory e p cause value c).outlet n = c.outlet n
  simp [settleInventory]

theorem rebase_news : (rebase e p cause value c).2.hangup = false ∧
    (rebase e p cause value c).2.lockout = false := by
  unfold rebase recompute
  rw [recomputeFrom_news]
  exact ⟨rfl, rfl⟩

theorem rebase_journal : (rebase e p cause value c).1.journal =
    let x := (rebase e p cause value c).1.pass p
    let j := c.report e .rebase p.val cause (c.pass p).inventory value 0
    (if x.cls = (c.pass p).cls then j
      else j.report e .fillClass p.val (c.pass p).cls.code x.cls.code x.high x.low).journal := by
  have cls : ((settleInventory e p cause value c).pass p).cls = (c.pass p).cls := by
    simp [settleInventory]
  unfold rebase recompute
  rw [recomputeFrom_journal, cls]
  exact ite_else_report_journal_congr (report_journal_congr rfl)

end

/-- R27: what an accepted rebase leaves of the record and the journal. -/
theorem rebase_accepted {s : State} {p : Fin 4} {code tag : Octet} {cause value : Nat}
    (h : PassCommitPasses s p code tag)
    (judged : passOrder s.env p (s.commitOf (passSlot p) code tag) (s.freshCtl (passSlot p)) =
      acceptPass p (s.commitOf (passSlot p) code tag)
        (withNews s.env p (rebase s.env p cause value) (s.freshCtl (passSlot p)))) :
    ∃ t, commitWrite (passSlot p) code tag s = .next t ∧
      (t.ctl.pass p).inventory = value ∧ (t.ctl.pass p).settled = true ∧
      ((t.ctl.pass p).accumulator = (s.ctl.pass p).accumulator ∧
        (t.ctl.pass p).reference = (s.ctl.pass p).reference) ∧
      ((∀ n ∈ s.live.outletsOf p, s.ctl.waits n = false) → t.ctl.journal =
        (if (t.ctl.pass p).cls = (s.ctl.pass p).cls then
          s.ctl.report s.env .rebase p.val cause (s.ctl.pass p).inventory value 0
        else
          (s.ctl.report s.env .rebase p.val cause (s.ctl.pass p).inventory value 0).report s.env
            .fillClass p.val (s.ctl.pass p).cls.code (t.ctl.pass p).cls.code (t.ctl.pass p).high
            (t.ctl.pass p).low).journal) ∧
      s.acceptedWith t (passSlot p) { a := (s.commitOf (passSlot p) code tag).sp.a, b := 0, c := 0 }
        (BitVec.ofNat 8 (s.ctl.pass p).state.code) tag .accepted 0 := by
  set f := s.freshCtl (passSlot p) with hf
  set d := withNews s.env p (rebase s.env p cause value) f with hd
  have side := withNews_passSide s.env p (rebase s.env p cause value) f
  rw [← hd] at side
  have record := side.passes p
  have rebased := rebase_pass s.env p cause value f
  have fixed := recomputed_fixed (s.env.passCfg p) s.env.clock
    { f.pass p with inventory := value, settled := true }
  rw [← rebased] at fixed
  have slot : d.slot (passSlot p) = f.slot (passSlot p) := by rw [side.slots p, rebase_slot]
  obtain ⟨t, ran, accepted, after⟩ := h.accepted slot judged
  have final : t.ctl.pass p = d.pass p := by rw [after]; rfl
  have state : (d.pass p).state = (s.ctl.pass p).state := by rw [record, fixed]; rfl
  rw [state] at accepted
  refine ⟨t, ran, ?_, ?_, ⟨?_, ?_⟩, fun unwaited => ?_, accepted⟩
  · rw [final, record, fixed]
  · rw [final, record, fixed]
  · rw [final, record, fixed]; rfl
  · rw [final, record, fixed]; rfl
  · have delivered : d.journal = (rebase s.env p cause value f).1.journal :=
      deliver_journal (rebase_news ..).1 (rebase_news ..).2 fun n hn => by
        rw [rebase_waits, hf, freshCtl_waits]; exact unwaited n hn
    have same : t.ctl.journal = d.journal := by rw [after]; rfl
    have cls : (t.ctl.pass p).cls = ((rebase s.env p cause value f).1.pass p).cls := by
      rw [final, record]
    have high : (t.ctl.pass p).high = ((rebase s.env p cause value f).1.pass p).high := by
      rw [final, record]
    have low : (t.ctl.pass p).low = ((rebase s.env p cause value f).1.pass p).low := by
      rw [final, record]
    rw [same, delivered, rebase_journal, cls, high, low]
    exact ite_else_report_journal_congr (report_journal_congr rfl)

/-- Settles O38: both orders are one rebase with its cause and its value. -/
theorem inventoryIsRebased : Obligations.InventoryIsRebased := by
  unfold Obligations.InventoryIsRebased
  have setInventory (s : State) (p : Fin 4) (tag : Octet) :
      passOrder s.env p (s.commitOf (passSlot p) 7 tag) (s.freshCtl (passSlot p)) =
        judgeSetInventory s.env p (s.commitOf (passSlot p) 7 tag) (s.freshCtl (passSlot p)) := by
    simp [passOrder]
  refine ⟨?orders, fun s p tag takes c hc => ?refusals⟩
  case orders =>
    intro s p tag k r kept journaled code takes present
    refine ⟨fun b z => ⟨fun valid => ?_, fun invalid => ?_⟩, fun b z => ⟨fun fits => ?_, fun above => ?_⟩⟩
    · exact rebase_accepted (⟨takes, present, by decide, b, z⟩ : PassCommitPasses s p 6 tag)
        (by simp [passOrder, judgeRebase_eq, show (s.ctl.pass p).levelValid = true from valid]; rfl)
    · exact (⟨takes, present, by decide, b, z⟩ : PassCommitPasses s p 6 tag).refused
        (by simp [passOrder, judgeRebase_eq, show (s.ctl.pass p).levelValid = false from invalid])
    · have within : ¬(s.env.passCfg p).capacity < (s.commitOf (passSlot p) 7 tag).sp.a.toNat :=
        Nat.not_lt.2 fits
      exact rebase_accepted (⟨takes, present, by decide, b, z⟩ : PassCommitPasses s p 7 tag)
        ((setInventory s p tag).trans (by rw [judgeSetInventory_eq, if_neg within]))
    · have outside : (s.env.passCfg p).capacity < (s.commitOf (passSlot p) 7 tag).sp.a.toNat := above
      exact (⟨takes, present, by decide, b, z⟩ : PassCommitPasses s p 7 tag).refused
        ((setInventory s p tag).trans (by rw [judgeSetInventory_eq, if_pos outside, commitOf_tag]))
  case refusals =>
    simp only [List.mem_cons, List.not_mem_nil, or_false] at hc
    rcases hc with rfl | rfl
    · exact passCommit_refused takes (code := 6) (by decide) rfl rfl
    · exact passCommit_refused takes (code := 7) (by decide) rfl rfl

/-! ### LOCKOUT (R23) -/

theorem enterLockout_pass (e : Env) (p : Fin 4) (c : Ctl) : (enterLockout e p c).1.pass p =
    { c.pass p with state := .lockout, cause := .none, grant := false } := by
  simp [enterLockout]

/-- R23: the stages in which the members hear of a LOCKOUT. -/
theorem withNews_lockout (e : Env) (p : Fin 4) (c : Ctl) :
    withNews e p (enterLockout e p) c =
      settle e p (parkTips e p (closeTips e p (stopOutlets e p .lockout (enterLockout e p c).1))) :=
  rfl

/-- The stops, withdrawals and parkings that an event brings to the members keep the pass states. -/
theorem stages_passSide (e : Env) (p : Fin 4) (r : EndReason) (c : Ctl) :
    PassSide c (parkTips e p (closeTips e p (stopOutlets e p r c))) :=
  have closed := passSide_closed e.live c
  closed.parkTips (closed.closeTips (closed.stopOutlets (.refl c)))

/-- R23, R115: what an entry into LOCKOUT does at an outlet. -/
theorem lockout_outlet {e : Env} {p : Fin 4} {n : Fin 8} (hn : n ∈ e.live.outletsOf p) (c : Ctl) :
    let d := withNews e p (enterLockout e p) c
    (d.outlet n).state.active = false ∧ (d.slot (outletSlot n)).holder = none ∧
      ((c.outlet n).state.active = true →
        (d.outlet n).state = .stopping ∧ (d.outlet n).stopReason = some .lockout) := by
  rw [withNews_lockout]
  set x := (enterLockout e p c).1 with hx
  set y := parkTips e p (closeTips e p (stopOutlets e p .lockout x)) with hy
  have locked : (y.pass p).state = .lockout := by
    rw [(stages_passSide e p .lockout x).passes p, hx, enterLockout_pass]
  have view : outletView n y = stoppedView e.clock .lockout (outletView n x) := by
    rw [hy, parkTips_outletView, closeTips_outletView, stopOutlets_view e hn]
  have outlet : y.outlet n = stoppedOutlet e.clock .lockout (c.outlet n) :=
    (congrArg Prod.fst view).trans (by simp [stoppedView, outletView, hx, enterLockout])
  have hung : Hung e.live p y := (lockedOut_of_lockout e p .lockout x).toHung
  refine ⟨?_, settle_empties hn (.inl locked), fun active => ?_⟩
  · exact ((hung_closed e.live p).settle ⟨hung, by simp [locked]⟩).1.outlets n hn
  · have idle : (y.outlet n).startPending = false := by
      rw [outlet, stoppedOutlet, if_pos active]
    rw [(settle_refusing hn (.inl locked) idle).1, outlet, stoppedOutlet, if_pos active]
    exact ⟨rfl, rfl⟩

/-- R23, R137: what an entry into LOCKOUT does at a tip point. -/
theorem lockout_tip {e : Env} {p : Fin 4} {t : Fin 12} (ht : t ∈ e.live.tipsOf p) (c : Ctl) :
    let d := withNews e p (enterLockout e p) c
    (d.slot (tipSlot t)).holder = none ∧ (d.tip t).state.given = false ∧
      ((c.tip t).state = .opened → (d.tip t).state = .closed) := by
  rw [withNews_lockout]
  set x := (enterLockout e p c).1 with hx
  set y := parkTips e p (closeTips e p (stopOutlets e p .lockout x)) with hy
  have locked : (y.pass p).state = .lockout := by
    rw [(stages_passSide e p .lockout x).passes p, hx, enterLockout_pass]
  have view : tipView t y = parkedView e t (withdrawnView (tipView t x)) := by
    rw [hy, parkTips_view e ht, closeTips_view e ht, stopOutlets_tipView]
  have before : x.tip t = c.tip t := by simp [hx, enterLockout]
  have out := lockedOut_of_lockout e p .lockout x
  obtain ⟨same, emptied, -⟩ := settle_permitRefusing (c := y) ht (.inl locked)
  refine ⟨emptied, ?_, fun opened => ?_⟩
  · rw [same]
    exact not_given_iff.2 ⟨out.tips t ht, out.boom t ht⟩
  · have tip : y.tip t = { c.tip t with state := .closed, remaining := 0 } :=
      (congrArg Prod.fst view).trans (by
        simp [withdrawnView, parkedView, tipView, before, opened])
    rw [same, tip]

/-- Settles O35: LOCKOUT by its stages, member by member. -/
theorem lockoutStopsThePass : Obligations.LockoutStopsThePass := by
  unfold Obligations.LockoutStopsThePass
  refine ⟨?order, fun s p tag takes c hc => ?refusals⟩
  case order =>
    intro s p tag k r sp takes present b z
    have passes : PassCommitPasses s p 0 tag := ⟨takes, present, by decide, b, z⟩
    by_cases locked : (s.ctl.pass p).state = .lockout
    · obtain ⟨t, ran, accepted, after⟩ := passes.accepted (d := s.freshCtl k) rfl
        (by simp [passOrder, judgeLockout, locked, k])
      rw [freshCtl_pass, locked] at accepted
      refine ⟨t, ran, by rw [after]; exact locked, accepted, fun _ => ?_, fun other => absurd locked other⟩
      exact after.trans (setSlot_setSlot ..)
    · set d := withNews s.env p (enterLockout s.env p) (s.freshCtl (passSlot p)) with hd
      have side := withNews_passSide s.env p (enterLockout s.env p) (s.freshCtl (passSlot p))
      have record := side.passes p
      rw [← hd] at side record
      rw [enterLockout_pass] at record
      have slot : d.slot (passSlot p) = (s.freshCtl (passSlot p)).slot (passSlot p) := by
        rw [side.slots p]; simp [enterLockout]
      obtain ⟨t, ran, accepted, after⟩ := passes.accepted slot
        (by simp [passOrder, judgeLockout, locked, hd])
      have state : (d.pass p).state = .lockout := by rw [record]
      have final (q : Fin 4) : t.ctl.pass q = d.pass q := by rw [after]; rfl
      have outlet (n : Fin 8) : outletView n t.ctl = outletView n d := by
        have other : passSlot p ≠ outletSlot n := fun same => by
          have : 20 + p.val = n.val := congrArg Fin.val same
          omega
        rw [after]
        exact outletView_eq.2 ⟨rfl, Ctl.slot_setSlot_other _ _ other⟩
      have tip (x : Fin 12) : tipView x t.ctl = tipView x d := by
        have other : passSlot p ≠ tipSlot x := fun same => by
          have : 20 + p.val = 8 + x.val := congrArg Fin.val same
          omega
        rw [after]
        exact tipView_eq.2 ⟨rfl, Ctl.slot_setSlot_other _ _ other⟩
      rw [state] at accepted
      refine ⟨t, ran, (final p).symm ▸ state, accepted, fun was => absurd was locked, fun _ =>
        ⟨?_, ?_, ?_, fun n hn => ?_, fun x hx => ?_⟩⟩
      · rw [final, record]
      · have taken := side.grants p
        rw [enterLockout_pass] at taken
        cases hg : (t.ctl.pass p).grant with
        | false => rfl
        | true => rw [final] at hg; exact (taken hg).symm
      · rw [final, record]; rfl
      · obtain ⟨same, slot⟩ := outletView_eq.1 (outlet n)
        rw [same, slot]
        exact lockout_outlet (e := s.env) hn (s.freshCtl (passSlot p))
      · obtain ⟨same, slot⟩ := tipView_eq.1 (tip x)
        rw [same, slot]
        exact lockout_tip (e := s.env) hx (s.freshCtl (passSlot p))
  case refusals =>
    simp only [List.mem_cons, List.not_mem_nil, or_false] at hc
    subst hc
    exact passCommit_refused takes (code := 0) (by decide) rfl rfl

end Sys2Proof.Machine
end

section
/-! Proofs: the re-judgement of deferred commits, by tables of checks and by its input events (R44, R45, R100,
R128). -/

namespace Sys2Proof.Machine

/-! ### Tables of checks -/

theorem firstFailing_nil : firstFailing [] = none := rfl

theorem firstFailing_cons (b : Bool) (r : Reason) (rest : List (Bool × Reason)) :
    firstFailing ((b, r) :: rest) = if b = true then some r else firstFailing rest := by
  cases b <;> simp [firstFailing]

/-- R44: what a table of permanent checks, and then one of transient checks, finds. -/
def tableJudgement (permanent transient : List (Bool × Reason)) : Judgement :=
  match firstFailing permanent with
  | some r => .refuse r
  | none =>
    match firstFailing transient with
    | some r => .transient r
    | none => .pass

theorem tableJudgement_cons (b : Bool) (r : Reason) (rest transient : List (Bool × Reason)) :
    tableJudgement ((b, r) :: rest) transient =
      if b = true then .refuse r else tableJudgement rest transient := by
  unfold tableJudgement
  rw [firstFailing_cons]
  cases b <;> simp

theorem tableJudgement_transient (b : Bool) (r : Reason) (rest : List (Bool × Reason)) :
    tableJudgement [] ((b, r) :: rest) = if b = true then .transient r else tableJudgement [] rest := by
  unfold tableJudgement
  rw [firstFailing_nil, firstFailing_cons]
  cases b <;> simp

/-- Two choices that ask the same of the same alternatives, the second ones under the refusal of the first. -/
theorem check_congr {q t : Prop} [Decidable q] [Decidable t] {x a b : Judgement} (hq : q ↔ t)
    (h : ¬t → a = b) : (if q then x else a) = if t then x else b :=
  ite_congr (propext hq) (fun _ => rfl) h

/-! ### DRAW -/

/-- R97, steps 3 to 11: the permanent checks of a DRAW. -/
def drawPermanent (e : Env) (n : Fin 8) (cm : Commit) (c : Ctl) : List (Bool × Reason) :=
  let p := (e.outletCfg n).pass
  let o := c.outlet n
  let r := c.pass p
  let sp := cm.sp
  [(r.state == .lockout, .lockout), (o.state == .fault, .outletFault), (r.state == .hangup, .hangup),
    (!e.outletFresh n || o.lastRecord.isNone, .feedbackStale), (r.cls == .unknown, .fillUnknown),
    (decide (r.low < (e.passCfg p).cushionMark) && !r.grant, .cushion), (o.state != .idle, .busy),
    (r.wetActive && c.otherDrawing e n, .busyPass),
    (decide (sp.a.toNat < 10 ∨ 5000 < sp.a.toNat ∨ sp.b.toNat < 1 ∨ 250 < sp.b.toNat ∨
      sp.c.toNat < 20 ∨ 100 < sp.c.toNat), .range)]

/-- R97, steps 12 and 13: the transient checks of a DRAW. -/
def drawTransient (e : Env) (n : Fin 8) : List (Bool × Reason) :=
  let q := e.outletQual n
  [(q.d2.value != .yes, .receiverAbsent), (q.d0.value != .yes, .gateNotClosed)]

theorem drawInRange_eq_false {sp : SetPoints} : drawInRange sp = false ↔
    sp.a.toNat < 10 ∨ 5000 < sp.a.toNat ∨ sp.b.toNat < 1 ∨ 250 < sp.b.toNat ∨ sp.c.toNat < 20 ∨
      100 < sp.c.toNat := by
  simp only [drawInRange, targetInRange, cyclesInRange, openingInRange, Bool.and_eq_false_iff,
    decide_eq_false_iff_not, not_le]
  tauto

/-- R97: the checks of a DRAW, as a table. -/
theorem drawCheck_eq_table (e : Env) (n : Fin 8) (cm : Commit) (c : Ctl) :
    drawCheck e n cm c = tableJudgement (drawPermanent e n cm c) (drawTransient e n) := by
  unfold drawCheck drawPermanent drawTransient
  dsimp only
  simp only [tableJudgement_cons, tableJudgement_transient]
  refine check_congr (by simp) fun _ => check_congr (by simp) fun _ => check_congr (by simp) fun _ =>
    check_congr (by simp) fun _ => check_congr (by simp) fun known => check_congr ?_ fun _ =>
    check_congr (by simp) fun _ => check_congr (by simp) fun _ =>
    check_congr (by rw [drawInRange_eq_false, decide_eq_true_eq]) fun _ =>
    check_congr (by simp) fun _ => check_congr (by simp) fun _ => rfl
  have known' : (c.pass (e.outletCfg n).pass).cls ≠ .unknown := fun h => known (beq_iff_eq.2 h)
  simp [belowCushion_iff, known']

/-! ### PERMIT -/

/-- R127, steps 4 to 11: the permanent checks of a PERMIT. -/
def permitPermanent (e : Env) (t : Fin 12) (c : Ctl) : List (Bool × Reason) :=
  let x := c.tip t
  let r := c.pass (e.tipCfg t).pass
  [(r.state == .lockout, .lockout), (x.state == .fault, .tipPointFault),
    (x.state == .breaking, .boomFree), (r.state == .hangup, .hangup), (!e.tipFresh t, .feedbackStale),
    (r.cls == .unknown, .fillUnknown), (r.cls == .full, .full),
    (c.relatedIn e t .breaking, .fallPath)]

/-- R127, steps 13 and 14: the transient checks of a PERMIT, which an OPEN tip point does not come to. -/
def permitTransient (e : Env) (t : Fin 12) (c : Ctl) : List (Bool × Reason) :=
  let x := c.tip t
  let q := e.tipQual t
  [(x.state == .parking || q.d2.value != .yes, .boomNotParked), (q.d1.value != .yes, .grizzlyOccupied)]

/-- R127: the checks of a PERMIT, as a table. -/
theorem permitCheck_eq_table (e : Env) (t : Fin 12) (c : Ctl) :
    permitCheck e t c = tableJudgement (permitPermanent e t c)
      (if (c.tip t).state = .opened then [] else permitTransient e t c) := by
  unfold permitCheck permitPermanent permitTransient
  dsimp only
  simp only [tableJudgement_cons]
  refine check_congr (by simp) fun _ => check_congr (by simp) fun _ => check_congr (by simp) fun _ =>
    check_congr (by simp) fun _ => check_congr (by simp) fun _ => check_congr (by simp) fun _ =>
    check_congr (by simp) fun _ => check_congr (by simp) fun _ => ?_
  by_cases opened : (c.tip t).state = .opened
  · rw [if_pos opened, if_pos opened]; rfl
  · rw [if_neg opened, if_neg opened]
    simp only [tableJudgement_transient]
    exact check_congr (by simp) fun _ => check_congr (by simp) fun _ => rfl

/-! ### What a re-judgement does -/

theorem tableJudgement_refuse {ps ts : List (Bool × Reason)} {r : Reason}
    (h : firstFailing ps = some r) : tableJudgement ps ts = .refuse r := by simp [tableJudgement, h]

theorem tableJudgement_defers {ps ts : List (Bool × Reason)} {r : Reason}
    (h : firstFailing ps = none) (g : firstFailing ts = some r) :
    tableJudgement ps ts = .transient r := by simp [tableJudgement, h, g]

theorem tableJudgement_pass {ps ts : List (Bool × Reason)} (h : firstFailing ps = none)
    (g : firstFailing ts = none) : tableJudgement ps ts = .pass := by simp [tableJudgement, h, g]

/-- R44, R45: the refusal of a deferred commit, in one slot. -/
theorem refuseDeferred_eq (k : Fin 24) (tag : Octet) (r : Reason) (c : Ctl) :
    c.refuseDeferred k tag r = c.setSlot k
      { c.slot k with
        holder := none
        wb := { (c.slot k).wb with
          verdict := some (joinWord tag 4), detail := some (joinWord 0 r.code) } } := by
  simp [Ctl.refuseDeferred, Ctl.refuse, Ctl.clearHolder, Ctl.updSlot, setSlot_setSlot,
    CommandSlot.putVerdict, Verdict.code]

theorem keepDeferred_eq (k : Fin 24) (d : Deferred) (r : Reason) (c : Ctl) :
    c.keepDeferred k d r = if r = d.reason then c else c.setSlot k
      { c.slot k with
        holder := some { d with reason := r }
        wb := { (c.slot k).wb with detail := some (joinWord 0 r.code) } } := rfl

section
variable {e : Env} {n : Fin 8} {t : Fin 12} {c : Ctl} {d : Deferred} {r : Reason}

theorem rejudgeDraw_pass (held : (c.slot (outletSlot n)).holder = some d)
    (passes : drawCheck e n d.commit c = .pass) :
    rejudgeDraw e n c = executeDraw e n d.commit (c.clearHolder (outletSlot n)) := by
  simp [rejudgeDraw, held, passes]

theorem rejudgeDraw_refuse (held : (c.slot (outletSlot n)).holder = some d)
    (fails : drawCheck e n d.commit c = .refuse r) :
    rejudgeDraw e n c = c.refuseDeferred (outletSlot n) d.commit.tag r := by
  simp [rejudgeDraw, held, fails]

theorem rejudgeDraw_transient (held : (c.slot (outletSlot n)).holder = some d)
    (waits : drawCheck e n d.commit c = .transient r) :
    rejudgeDraw e n c = c.keepDeferred (outletSlot n) d r := by
  simp [rejudgeDraw, held, waits]

theorem rejudgePermit_pass (held : (c.slot (tipSlot t)).holder = some d)
    (passes : permitCheck e t c = .pass) :
    rejudgePermit e t c = executePermit t d.commit (c.clearHolder (tipSlot t)) := by
  simp [rejudgePermit, held, passes]

theorem rejudgePermit_refuse (held : (c.slot (tipSlot t)).holder = some d)
    (fails : permitCheck e t c = .refuse r) :
    rejudgePermit e t c = c.refuseDeferred (tipSlot t) d.commit.tag r := by
  simp [rejudgePermit, held, fails]

theorem rejudgePermit_transient (held : (c.slot (tipSlot t)).holder = some d)
    (waits : permitCheck e t c = .transient r) :
    rejudgePermit e t c = c.keepDeferred (tipSlot t) d r := by
  simp [rejudgePermit, held, waits]

end

/-- R98: the consumption request, by the grant it finds. -/
theorem takeGrant_eq (p : Fin 4) (c : Ctl) : takeGrant p c =
    (if (c.pass p).grant then c.setPass p { c.pass p with grant := false } else c, (c.pass p).grant) := by
  simp only [takeGrant]
  split <;> simp_all

/-- R99: what the start of an order leaves. -/
theorem startOrder_spec (e : Env) (n : Fin 8) (cm : Commit) (grant : Bool) (c : Ctl) :
    let y := startOrder e n cm grant c
    ((y.outlet n).state = .opening ∧ (y.outlet n).tag = some cm.tag ∧
      (y.outlet n).remaining = cm.sp.b.toNat ∧ (y.outlet n).grantHeld = grant) ∧
    y.passes = c.passes ∧ (y.slot (outletSlot n)).holder = (c.slot (outletSlot n)).holder ∧
    (y.slot (outletSlot n)).wb.demand = some (joinWord cm.tag 1) ∧
    ((y.slot (outletSlot n)).wb.verdict = some (joinWord cm.tag 1) ∨
      (y.slot (outletSlot n)).wb.verdict = some (joinWord cm.tag 2)) := by
  simp only [startOrder, Ctl.accept]
  refine ⟨by simp, by simp, ?_, ?_, ?_⟩ <;>
    simp only [Ctl.slot_updSlot_same, CommandSlot.putVerdict, CommandSlot.putDemand,
      CommandSlot.putSetPoints, Ctl.setOutlet_slot]
  split
  · exact .inl rfl
  · exact .inr rfl

/-- R98, R99: a deferred DRAW that passes its checks is executed. -/
theorem executeDraw_spec (e : Env) (n : Fin 8) (cm : Commit) (c : Ctl) :
    let k := outletSlot n
    let p := (e.outletCfg n).pass
    let y := executeDraw e n cm (c.clearHolder k)
    (y.outlet n).state = .opening ∧ (y.outlet n).tag = some cm.tag ∧
    (y.outlet n).remaining = cm.sp.b.toNat ∧ (y.outlet n).grantHeld = (c.pass p).grant ∧
    (y.pass p).grant = false ∧ (y.slot k).holder = none ∧
    (y.slot k).wb.demand = some (joinWord cm.tag 1) ∧
    ((y.slot k).wb.verdict = some (joinWord cm.tag 1) ∨
      (y.slot k).wb.verdict = some (joinWord cm.tag 2)) := by
  intro k p y
  obtain ⟨⟨state, tag, remaining, granted⟩, passes, holder, demand, verdict⟩ :=
    startOrder_spec e n cm (takeGrant p (c.clearHolder k)).2 (takeGrant p (c.clearHolder k)).1
  refine ⟨state, tag, remaining, granted.trans ?_, ?_, holder.trans ?_, demand, verdict⟩
  · rw [takeGrant_eq]; rfl
  · refine (congrArg Pass.grant (Ctl.pass_congr passes p)).trans ?_
    rw [takeGrant_eq]
    cases hg : (c.pass p).grant <;> simp [Ctl.clearHolder, hg]
  · rw [takeGrant_slot]; simp [Ctl.clearHolder, k]

end Sys2Proof.Machine
end

section
/-! Proofs: the obligation on deferrals (R28, R44, R45, R100, R107, R125, R128). -/

namespace Sys2Proof.Machine

/-! ### One outlet that waits alone -/

/-- No other outlet of the pass waits, and a waiting cycle start goes without a deferred commit. -/
def LoneOutlet (e : Env) (p : Fin 4) (n : Fin 8) (b : Ctl) : Prop :=
  ((b.outlet n).startPending = true → (b.slot (outletSlot n)).holder = none) ∧
    ∀ m ∈ e.live.outletsOf p, m ≠ n → b.waits m = false

section
variable {e : Env} {p : Fin 4} {n : Fin 8} {b : Ctl}

theorem LoneOutlet.settle (lone : LoneOutlet e p n b) (hn : n ∈ e.live.outletsOf p) :
    settleOutlets e p b = visitOutlet e b n := settleOutlets_lone hn lone.1 lone.2

/-- Section 1.9: what follows a delivery that has waiting members re-judged. -/
theorem deliver_touched {news : News} {c : Ctl} (touched : news.touched = true) :
    deliver e p news c = Machine.settle e p (deliver e p { news with touched := false } c) := by
  simp [deliver, touched]

theorem visitOutlet_tipsEmpty {c : Ctl} (h : ∀ x ∈ e.live.tipsOf p, (c.slot (tipSlot x)).holder = none) :
    settleTips e p (visitOutlet e c n) = visitOutlet e c n :=
  settleTips_none fun x hx => by
    rw [AtOutlet.refl.visitOutlet.slots _ (tipSlot_ne_outletSlot x n)]
    exact h x hx

/-- R91: a record that moves an outlet into or out of drawing is a pass event. -/
theorem outletRecord_touched {m : Fin 8} {x : LoadRecord} {c : Ctl}
    (moved : (c.outlet m).state.drawing ≠ ((outletRecord e m x c).1.outlet m).state.drawing) :
    (outletRecord e m x c).2.touched = true := by
  have differs : ((c.outlet m).state.drawing != ((outletRecord e m x c).1.outlet m).state.drawing) =
      true := bne_iff_ne.2 moved
  exact Bool.or_eq_true_iff.2 (.inr differs)

/-- R139: credited tips that move the tip point are a pass event. -/
theorem creditTips_touched {t : Fin 12} {k mass : Nat} {c : Ctl}
    (moved : (c.tip t).state ≠ ((creditTips e t k mass c).1.tip t).state) :
    (creditTips e t k mass c).2.touched = true := by
  obtain ⟨p, total, d, after, news⟩ : ∃ p total d,
      (creditTips e t k mass c).1 = (credit e p total d).1 ∧ (creditTips e t k mass c).2 =
        (credit e p total d).2.join (News.touch ((c.tip t).state != (d.tip t).state)) :=
    ⟨_, _, _, rfl, rfl⟩
  rw [after, Ctl.tip_congr (credit_atPass e p d total).tips t] at moved
  rw [news]
  exact Bool.or_eq_true_iff.2 (.inr (bne_iff_ne.2 moved))

/-- R139: a record that moves a tip point is a pass event. -/
theorem tipRecord_touched {t : Fin 12} {k : Octet} {mass : Nat} {c : Ctl}
    (moved : (c.tip t).state ≠ ((tipRecord e t k mass c).1.tip t).state) :
    (tipRecord e t k mass c).2.touched = true := by
  unfold tipRecord at moved ⊢
  dsimp only at moved ⊢
  split
  · next still => rw [if_pos still, Ctl.tip_setTip_same] at moved; exact absurd rfl moved
  · next news =>
    rw [if_neg news] at moved
    split
    · next resync =>
      rw [if_pos resync, Ctl.report_tip, Ctl.tip_setTip_same] at moved; exact absurd rfl moved
    · next credited =>
      rw [if_neg credited] at moved
      exact creditTips_touched (by rw [Ctl.tip_setTip_same]; exact moved)

end

/-! ### One tip point that waits alone -/

/-- No PERMIT is deferred at another tip point of the pass. -/
def LoneTip (e : Env) (p : Fin 4) (t : Fin 12) (b : Ctl) : Prop :=
  ∀ u ∈ e.live.tipsOf p, u ≠ t → (b.slot (tipSlot u)).holder = none

theorem LoneTip.settle {e : Env} {p : Fin 4} {t : Fin 12} {b : Ctl} (lone : LoneTip e p t b)
    (ht : t ∈ e.live.tipsOf p) : settleTips e p b = rejudgePermit e t b := settleTips_lone ht lone

/-! ### The parts of the obligation -/

/-- R45: a deferral that has run for its limit. -/
theorem deferralExpiry_spec {s : State} {k : Fin 24} {d : Deferred} (released : s.resetAsserted = false)
    (held : (s.ctl.slot k).holder = some d) (passed : d.limit ≤ (s.clock - d.since).toNat) :
    exec (.deferralExpiry k) s = .next
      ({ s with
         ctl := s.ctl.setSlot k
           { s.ctl.slot k with
             holder := none
             wb := { (s.ctl.slot k).wb with
               verdict := some (joinWord d.commit.tag Verdict.refused.code)
               detail := some (joinWord 0 d.reason.code) } } } : State).seek := by
  have due : deferralEvent k s.env s.ctl = s.ctl.refuseDeferred k d.commit.tag d.reason := by
    simp only [deferralEvent, held]
    exact if_pos passed
  have ran : exec (.deferralExpiry k) s = .next (s.onCtl (deferralEvent k)).seek := by
    show event (State.onCtl (deferralEvent k)) s = _
    unfold event quiet
    rw [released]
    rfl
  rw [ran, State.onCtl, due, refuseDeferred_eq]
  rfl

/-- R44, R97: a deferred DRAW at its re-judgement. -/
theorem rejudgeDraw_spec (e : Env) (n : Fin 8) (c : Ctl) (d : Deferred)
    (held : (c.slot (outletSlot n)).holder = some d) :
    let k := outletSlot n
    let permanent := drawPermanent e n d.commit c
    let transient := drawTransient e n
    let y := rejudgeDraw e n c
    (∀ reason, firstFailing permanent = some reason → y = c.setSlot k
      { c.slot k with
        holder := none
        wb := { (c.slot k).wb with
          verdict := some (joinWord d.commit.tag 4), detail := some (joinWord 0 reason.code) } }) ∧
    (∀ reason, firstFailing permanent = none → firstFailing transient = some reason →
      y = if reason = d.reason then c else c.setSlot k
        { c.slot k with
          holder := some { d with reason := reason }
          wb := { (c.slot k).wb with detail := some (joinWord 0 reason.code) } }) ∧
    (firstFailing permanent = none → firstFailing transient = none →
      y = executeDraw e n d.commit (c.clearHolder k)) := by
  intro k permanent transient y
  have judged : drawCheck e n d.commit c = tableJudgement permanent transient :=
    drawCheck_eq_table e n d.commit c
  refine ⟨fun reason fails => ?_, fun reason passes waits => ?_, fun passes goes => ?_⟩
  · exact (rejudgeDraw_refuse held (judged.trans (tableJudgement_refuse fails))).trans
      (refuseDeferred_eq ..)
  · exact (rejudgeDraw_transient held (judged.trans (tableJudgement_defers passes waits))).trans
      (keepDeferred_eq ..)
  · exact rejudgeDraw_pass held (judged.trans (tableJudgement_pass passes goes))

/-- R44, R127: a deferred PERMIT at its re-judgement. -/
theorem rejudgePermit_spec (e : Env) (t : Fin 12) (c : Ctl) (d : Deferred)
    (held : (c.slot (tipSlot t)).holder = some d) :
    let k := tipSlot t
    let permanent := permitPermanent e t c
    let transient := permitTransient e t c
    let y := rejudgePermit e t c
    (∀ reason, firstFailing permanent = some reason → y = c.setSlot k
      { c.slot k with
        holder := none
        wb := { (c.slot k).wb with
          verdict := some (joinWord d.commit.tag 4), detail := some (joinWord 0 reason.code) } }) ∧
    (∀ reason, firstFailing permanent = none → (c.tip t).state ≠ .opened →
      firstFailing transient = some reason →
      y = if reason = d.reason then c else c.setSlot k
        { c.slot k with
          holder := some { d with reason := reason }
          wb := { (c.slot k).wb with detail := some (joinWord 0 reason.code) } }) ∧
    (firstFailing permanent = none → ((c.tip t).state = .opened ∨ firstFailing transient = none) →
      y = executePermit t d.commit (c.clearHolder k)) := by
  intro k permanent transient y
  have judged : permitCheck e t c = tableJudgement permanent
      (if (c.tip t).state = .opened then [] else transient) := permitCheck_eq_table e t c
  refine ⟨fun reason fails => ?_, fun reason passes shut waits => ?_, fun passes goes => ?_⟩
  · exact (rejudgePermit_refuse held (judged.trans (tableJudgement_refuse fails))).trans
      (refuseDeferred_eq ..)
  · rw [if_neg shut] at judged
    exact (rejudgePermit_transient held (judged.trans (tableJudgement_defers passes waits))).trans
      (keepDeferred_eq ..)
  · refine rejudgePermit_pass held (judged.trans (tableJudgement_pass passes ?_))
    split
    · rfl
    · next shut => exact goes.resolve_left shut

/-- R128: an executed PERMIT. -/
theorem executePermit_spec (t : Fin 12) (cm : Commit) (c : Ctl) :
    let k := tipSlot t
    let y := executePermit t cm (c.clearHolder k)
    y.tip t = { c.tip t with
      state := .opened, remaining := cm.sp.a.toNat, permitCount := cm.sp.a.toNat } ∧
    (y.slot k).holder = none ∧
    (y.slot k).wb =
      { a := some cm.sp.a, b := some 0, c := some 0, demand := some (joinWord cm.tag 1)
        verdict := some (joinWord cm.tag 1), detail := some 0 } := by
  refine ⟨?_, ?_, ?_⟩
  · simp [executePermit, Ctl.accept, Ctl.clearHolder]
  all_goals
    simp [executePermit, Ctl.accept, Ctl.clearHolder, CommandSlot.putVerdict, CommandSlot.putDemand,
      CommandSlot.putSetPoints, Verdict.code, joinWord_zero]

section
variable {e : Env} {p : Fin 4}

/-- R44, R100, R107: the input events of an outlet that waits alone, each one a visit to it. -/
theorem outletEvents_lone {n : Fin 8} (hn : n ∈ e.live.outletsOf p) (hp : (e.outletCfg n).pass = p)
    (c : Ctl) :
    (∀ v, LoneOutlet e p n c → outletValue e n .d0 v c = visitOutlet e c n) ∧
    (∀ m, (e.outletCfg m).pass = p →
      (∀ v, let b := if v = .no then receiverLost e m c else c
        LoneOutlet e p n b → outletValue e m .d2 v c = visitOutlet e b n) ∧
      (∀ new, let b := if new = .fresh then c else feedbackLost e m c
        LoneOutlet e p n b → outletFreshness e m new c = visitOutlet e b n) ∧
      (∀ reason code, let b := timeoutStop e m reason code c
        LoneOutlet e p n b → timeoutEvent e m reason code c = visitOutlet e b n) ∧
      (let d := timeoutStop e m .noFlow .noFlow c
        let b := d.setOutlet m
          { d.outlet m with noFlowReports := (d.outlet m).noFlowReports ++ [p] }
        LoneOutlet e p n b → noFlowTimeout e m c = visitOutlet e b n) ∧
      (∀ cm, let b := judgeOutlet e m cm c
        (c.outlet m).state.drawing ≠ (b.outlet m).state.drawing ∨
          (c.pass p).grant ≠ (b.pass p).grant →
        LoneOutlet e p n b → commitOutlet e m cm c = visitOutlet e b n) ∧
      (∀ x, let y := outletRecord e m x c
        (c.outlet m).state.drawing ≠ (y.1.outlet m).state.drawing → y.2.touched = true)) := by
  refine ⟨fun v lone => ?_, fun m hm => ⟨fun v => ?_, fun new => ?_, fun reason code => ?_, ?_,
    fun cm => ?_, fun x => outletRecord_touched⟩⟩
  · rw [outletValue, hp]; exact lone.settle hn
  · intro b lone; rw [outletValue, hm]; exact lone.settle hn
  · intro b lone; rw [outletFreshness, hm]; exact lone.settle hn
  · intro b lone; rw [timeoutEvent, hm]; exact lone.settle hn
  · intro d b lone; rw [noFlowTimeout, hm]; exact lone.settle hn
  · intro b moved lone
    unfold commitOutlet
    dsimp only
    rw [hm, if_neg (fun same => moved.elim (· same.1) (· same.2))]
    exact lone.settle hn

/-- R44, R128: the input events of a tip point that waits alone, each one a re-judgement of its PERMIT. -/
theorem tipEvents_lone {t : Fin 12} (ht : t ∈ e.live.tipsOf p) (hp : (e.tipCfg t).pass = p) (c : Ctl) :
    (∀ v, LoneTip e p t c → tipValue e t .d1 v c = rejudgePermit e t c) ∧
    (∀ m, (e.tipCfg m).pass = p →
      (∀ v : Tri, let b := match v with
          | .yes => boomRests m c
          | .no => boomLeaves e m c
          | .unknown => c
        LoneTip e p t b → tipValue e m .d2 v c = rejudgePermit e t b) ∧
      (∀ old new, let b := if new = .fresh then tipRestored e m c
          else if old = .fresh then tipLost e m c else c
        LoneTip e p t b → tipFreshness e m old new c = rejudgePermit e t b) ∧
      (∀ since, let b := parkExpires e m c
        (c.tip m).park = .running since →
        (e.tipCfg m).parkTimeout * 1000 ≤ (e.clock - since).toNat →
        LoneTip e p t b → parkTimeoutEvent m e c = rejudgePermit e t b) ∧
      (∀ cm, let b := judgeTip e m cm c
        (c.tip m).state ≠ (b.tip m).state → LoneTip e p t b → commitTip e m cm c = rejudgePermit e t b) ∧
      (∀ counter mass, let y := tipRecord e m counter mass c
        (c.tip m).state ≠ (y.1.tip m).state → y.2.touched = true)) := by
  refine ⟨fun v lone => ?_, fun m hm => ⟨fun v => ?_, fun old new => ?_, fun since => ?_, fun cm => ?_,
    fun counter mass => tipRecord_touched⟩⟩
  · rw [tipValue, hp]; exact lone.settle ht
  · intro b lone
    cases v <;> (rw [tipValue, hm]; exact lone.settle ht)
  · intro b lone; rw [tipFreshness, hm]; exact lone.settle ht
  · intro b running passed lone
    have due : parkDue e m c = true := by
      simp only [parkDue, running]
      exact decide_eq_true passed
    rw [parkTimeoutEvent, if_pos due, hm]
    exact lone.settle ht
  · intro b moved lone
    unfold commitTip
    dsimp only
    rw [if_neg moved, hm]
    exact lone.settle ht

end

/-- Settles O42: the checks as tables, and the input events by what they settle. -/
theorem deferralExpires : Obligations.DeferralExpires := by
  unfold Obligations.DeferralExpires
  refine ⟨fun s k d => deferralExpiry_spec, fun e n c d held => ?draw, fun e t c d held => ?permit,
    fun e n c => ?outlets, fun e t c => ?tips⟩
  case draw =>
    obtain ⟨refused, kept, executed⟩ := rejudgeDraw_spec e n c d held
    refine ⟨refused, kept, fun passes goes => ?_⟩
    rw [executed passes goes]
    exact executeDraw_spec e n d.commit c
  case permit =>
    obtain ⟨refused, kept, executed⟩ := rejudgePermit_spec e t c d held
    refine ⟨refused, kept, fun passes goes => ?_⟩
    rw [executed passes goes]
    exact executePermit_spec t d.commit c
  case outlets =>
    intro p again lone hn
    obtain ⟨closed, others⟩ := outletEvents_lone hn rfl c
    refine ⟨closed, others, ?_⟩
    intro f b touched alone empty
    rw [withNews, deliver_touched touched, settle, LoneOutlet.settle alone hn]
    exact visitOutlet_tipsEmpty empty
  case tips =>
    intro p lone ht
    obtain ⟨clear, others⟩ := tipEvents_lone ht rfl c
    refine ⟨clear, others, ?_⟩
    intro f b touched alone empty
    rw [withNews, deliver_touched touched, settle, settleOutlets_none empty]
    exact LoneTip.settle alone ht

end Sys2Proof.Machine
end

section
/-! Proofs: the timers of a cycle, and the records that move it (R91, R101 to R107, R114 to R118). -/

namespace Sys2Proof.Machine

/-! ### An outlet that holds an order is not drawn from -/

/-- R97: a DRAW is refused while the outlet is not IDLE. -/
theorem drawCheck_busy {e : Env} {n : Fin 8} {c : Ctl} (busy : (c.outlet n).state ≠ .idle)
    (cm : Commit) : ∃ reason, drawCheck e n cm c = .refuse reason := by
  unfold drawCheck
  exact refuse_of_ite fun _ => refuse_of_ite fun _ => refuse_of_ite fun _ => refuse_of_ite fun _ =>
    refuse_of_ite fun _ => refuse_of_ite fun _ => ⟨.busy, if_pos busy⟩

/-- What a settling leaves of an outlet that is not IDLE, no cycle start waiting. -/
def BusyKept (n : Fin 8) (c d : Ctl) : Prop :=
  d.outlet n = c.outlet n ∧ (d.slot (outletSlot n)).wb.demand = (c.slot (outletSlot n)).wb.demand

theorem visitOutlet_busy {e : Env} {n : Fin 8} {c : Ctl} (busy : (c.outlet n).state ≠ .idle)
    (idle : (c.outlet n).startPending = false) : BusyKept n c (visitOutlet e c n) := by
  cases held : (c.slot (outletSlot n)).holder with
  | none => rw [visitOutlet_idle idle held]; exact ⟨rfl, rfl⟩
  | some d =>
    obtain ⟨reason, fails⟩ := drawCheck_busy busy d.commit
    have refused := visitOutlet_refused idle held fails
    exact ⟨congrArg Prod.fst refused, congrArg (fun v => v.2.wb.demand) refused⟩

theorem settleOutlets_busy {e : Env} {p : Fin 4} {n : Fin 8} {c : Ctl}
    (busy : (c.outlet n).state ≠ .idle) (idle : (c.outlet n).startPending = false) :
    BusyKept n c (settleOutlets e p c) := by
  have step (b : Ctl) (m : Fin 8) (hb : BusyKept n c b) : BusyKept n c (visitOutlet e b m) := by
    by_cases hm : n = m
    · subst hm
      have kept := visitOutlet_busy (e := e) (n := n) (c := b) (by rw [hb.1]; exact busy)
        (by rw [hb.1]; exact idle)
      exact ⟨kept.1.trans hb.1, kept.2.trans hb.2⟩
    · obtain ⟨outlet, slot⟩ := outletView_eq.1 (AtOutlet.refl.visitOutlet (e := e) (c := b).view hm)
      exact ⟨outlet.trans hb.1, (congrArg (fun x => x.wb.demand) slot).trans hb.2⟩
  refine foldl_keeps step _ _ (foldl_keeps step _ _ ?_)
  unfold drawOrder
  split <;> exact ⟨rfl, rfl⟩

/-! ### The OPEN, FLOW_START and CYCLE_DRAW timers (R117) -/

/-- R114, R117: an outlet in OPENING or FLOWING after its timeout stop. -/
def timedOut (now : Clock) (reason : EndReason) (code : FaultCode) (o : Outlet) : Outlet :=
  { o with
    state := .stopping, stopReason := some reason, lastFault := code, startPending := false
    timer := some (.close, now) }

theorem timeoutStop_view {e : Env} {n : Fin 8} {c : Ctl} (reason : EndReason) (code : FaultCode)
    (drawing : (c.outlet n).state.drawing = true) :
    outletView n (timeoutStop e n reason code c) =
      (timedOut e.clock reason code (c.outlet n),
        (c.slot (outletSlot n)).putDemand 0 (c.slot (outletSlot n)).lastTag) := by
  have notClosing : (c.outlet n).state ≠ .closing := fun h => by simp [h, OutletState.drawing] at drawing
  unfold timeoutStop
  rw [stopOutlet_view]
  simp [stoppedView, stoppedOutlet, outletView, active_of_drawing drawing, drawing, notClosing,
    timedOut]

/-- R100, R117: a timeout stop of an outlet in OPENING or FLOWING, and what follows it. -/
theorem timeoutEvent_outlet {e : Env} {n : Fin 8} {c : Ctl} (reason : EndReason) (code : FaultCode)
    (drawing : (c.outlet n).state.drawing = true) :
    (timeoutEvent e n reason code c).outlet n = timedOut e.clock reason code (c.outlet n) ∧
    ((timeoutEvent e n reason code c).slot (outletSlot n)).wb.demand =
      some (joinWord (c.slot (outletSlot n)).lastTag 0) := by
  have view := timeoutStop_view (e := e) reason code drawing
  have outlet : (timeoutStop e n reason code c).outlet n = timedOut e.clock reason code (c.outlet n) :=
    congrArg Prod.fst view
  have kept := settleOutlets_busy (e := e) (p := (e.outletCfg n).pass)
    (c := timeoutStop e n reason code c) (n := n) (by rw [outlet]; exact nofun) (by rw [outlet]; rfl)
  exact ⟨kept.1.trans outlet, kept.2.trans (congrArg (fun v => v.2.wb.demand) view)⟩

/-- R13, R117: the FLOW_START expiry also hands the chute no-flow report over. -/
theorem noFlowTimeout_outlet {e : Env} {n : Fin 8} {c : Ctl}
    (drawing : (c.outlet n).state.drawing = true) :
    (noFlowTimeout e n c).outlet n =
      { timedOut e.clock .noFlow .noFlow (c.outlet n) with
        noFlowReports := (c.outlet n).noFlowReports ++ [(e.outletCfg n).pass] } ∧
    ((noFlowTimeout e n c).slot (outletSlot n)).wb.demand =
      some (joinWord (c.slot (outletSlot n)).lastTag 0) := by
  have view := timeoutStop_view (e := e) .noFlow .noFlow drawing
  have outlet : (timeoutStop e n .noFlow .noFlow c).outlet n =
      timedOut e.clock .noFlow .noFlow (c.outlet n) := congrArg Prod.fst view
  set d := timeoutStop e n .noFlow .noFlow c with hd
  set b := d.setOutlet n { d.outlet n with
    noFlowReports := (d.outlet n).noFlowReports ++ [(e.outletCfg n).pass] } with hb
  have handed : b.outlet n = { timedOut e.clock .noFlow .noFlow (c.outlet n) with
      noFlowReports := (c.outlet n).noFlowReports ++ [(e.outletCfg n).pass] } := by
    rw [hb, Ctl.outlet_setOutlet_same, outlet]; rfl
  have kept := settleOutlets_busy (e := e) (p := (e.outletCfg n).pass) (c := b) (n := n)
    (by rw [handed]; exact nofun) (by rw [handed]; rfl)
  exact ⟨kept.1.trans handed, kept.2.trans (congrArg (fun v => v.2.wb.demand) view)⟩

theorem timerDue_of_running {o : Outlet} {k : OutletTimer} {since now : Clock} {limit : Nat}
    (running : o.timer = some (k, since)) (passed : limit ≤ (now - since).toNat) :
    o.timerDue k limit now = true := by
  simp only [Outlet.timerDue, running, beq_self_eq_true, Bool.true_and]
  exact decide_eq_true passed

/-! ### The weighing of a record (R103) -/

/-- R103: the outlet after the weighing of a load weight `w`. -/
def weighedOutlet (w : Nat) (o : Outlet) : Outlet :=
  if o.state.weighing = true ∧ o.highMark < w then
    { o with
      highMark := w, deliveredCycle := w - o.snapshot
      deliveredOrder :=
        if o.state = .fault then o.deliveredOrder
        else satAdd 65535 o.deliveredOrder (w - o.highMark) }
  else o

theorem accumulate_slot_other (e : Env) {p : Fin 4} (m : Nat) (c : Ctl) {k : Fin 24}
    (h : passSlot p ≠ k) : (accumulate e p m c).1.slot k = c.slot k := by
  simp only [accumulate]
  split
  · split
    · simp [enterHangup, Ctl.ownDemand, Ctl.slot_updSlot_other _ _ h]
    · rfl
  · rfl

theorem debit_slot_other (e : Env) {p : Fin 4} (m : Nat) (c : Ctl) {k : Fin 24} (h : passSlot p ≠ k) :
    (debit e p m c).1.slot k = c.slot k := by
  rw [debit_eq]
  dsimp only [andThen]
  rw [loosen_slot, accumulate_slot_other e m _ h, debitInventory_slot]

theorem passSlot_ne_outletSlot (p : Fin 4) (n : Fin 8) : passSlot p ≠ outletSlot n := fun same => by
  have : 20 + p.val = n.val := congrArg Fin.val same
  omega

/-- R5, R12: pass state, accumulator and inventory after a debit rest on the record of the pass alone. -/
theorem debit_congr (e : Env) (p : Fin 4) (m : Nat) {c d : Ctl} (h : d.pass p = c.pass p) :
    ((debit e p m d).1.pass p).state = ((debit e p m c).1.pass p).state ∧
    ((debit e p m d).1.pass p).accumulator = ((debit e p m c).1.pass p).accumulator ∧
    ((debit e p m d).1.pass p).inventory = ((debit e p m c).1.pass p).inventory := by
  rw [debit_pass, debit_pass, h]
  set x := ((c.pass p).stocked (e.passCfg p) e.clock ((c.pass p).inventory - m)).accumulated
    (e.passCfg p) m
  have kept (timer : Option Clock) := loosenedBy_hangup (e.passCfg p) timer m x
  have estimates (timer : Option Clock) := loosenedBy_estimates (e.passCfg p) timer m x
  exact ⟨(kept _).state.trans (kept _).state.symm,
    (kept _).accumulator.trans (kept _).accumulator.symm,
    (estimates _).inventory.trans (estimates _).inventory.symm⟩

section
variable (e : Env) (n : Fin 8) (w : Nat) (c : Ctl)

theorem weigh_outlet : (weigh e n w c).1.outlet n = weighedOutlet w (c.outlet n) := by
  simp only [weigh, weighedOutlet]
  split
  · rw [Ctl.outlet_congr (debit_atPass ..).outlets, Ctl.outlet_setOutlet_same]
  · rfl

theorem weigh_frame : (∀ j, j ≠ n → (weigh e n w c).1.outlet j = c.outlet j) ∧
    (weigh e n w c).1.tips = c.tips ∧
    (weigh e n w c).1.slot (outletSlot n) = c.slot (outletSlot n) := by
  simp only [weigh]
  split
  · refine ⟨fun j hj => ?_, (debit_atPass ..).tips, ?_⟩
    · rw [Ctl.outlet_congr (debit_atPass ..).outlets, Ctl.outlet_setOutlet_other _ _ (Ne.symm hj)]
    · rw [debit_slot_other _ _ _ (passSlot_ne_outletSlot _ _)]; rfl
  · exact ⟨fun _ _ => rfl, rfl, rfl⟩

theorem weigh_quiet {n : Fin 8} {w : Nat} {c : Ctl}
    (quiet : (c.outlet n).state = .idle ∨ (c.outlet n).state = .indexing ∨
      w ≤ (c.outlet n).highMark) : (weigh e n w c).1 = c := by
  simp only [weigh]
  rw [if_neg]
  rintro ⟨weighs, above⟩
  rcases quiet with idle | indexing | low
  · simp [idle, OutletState.weighing] at weighs
  · simp [indexing, OutletState.weighing] at weighs
  · omega

theorem weighing_of {s : OutletState} (notIdle : s ≠ .idle) (notIndexing : s ≠ .indexing) :
    s.weighing = true := by
  cases s <;> simp_all [OutletState.weighing]

theorem weigh_debits {n : Fin 8} {w : Nat} {c : Ctl} (notIdle : (c.outlet n).state ≠ .idle)
    (notIndexing : (c.outlet n).state ≠ .indexing) (above : (c.outlet n).highMark < w) :
    ((weigh e n w c).1.pass (e.outletCfg n).pass).state =
      ((debit e (e.outletCfg n).pass (w - (c.outlet n).highMark) c).1.pass (e.outletCfg n).pass).state ∧
    ((weigh e n w c).1.pass (e.outletCfg n).pass).accumulator =
      ((debit e (e.outletCfg n).pass (w - (c.outlet n).highMark) c).1.pass
        (e.outletCfg n).pass).accumulator ∧
    ((weigh e n w c).1.pass (e.outletCfg n).pass).inventory =
      (c.pass (e.outletCfg n).pass).inventory - (w - (c.outlet n).highMark) := by
  simp only [weigh]
  rw [if_pos ⟨weighing_of notIdle notIndexing, above⟩]
  obtain ⟨state, accumulator, inventory⟩ := debit_congr e (e.outletCfg n).pass
    (w - (c.outlet n).highMark) (c := c) (d := c.setOutlet n _) rfl
  exact ⟨state, accumulator, inventory.trans (debit_record e _ _ c).1⟩

/-- What a weighing leaves of the outlet. -/
theorem weighedOutlet_kept (w : Nat) (o : Outlet) : weighedOutlet w o =
    { o with
      highMark := (weighedOutlet w o).highMark, deliveredCycle := (weighedOutlet w o).deliveredCycle
      deliveredOrder := (weighedOutlet w o).deliveredOrder } := by
  unfold weighedOutlet
  split <;> rfl

end

/-! ### What the outlet makes of a record (log 21) -/

section
variable {e : Env} {n : Fin 8} {x : LoadRecord} {c d : Ctl}

theorem AtOutlet.flowEntered (p : Fin 4) (h : AtOutlet n c d) : AtOutlet n c (flowEntered p d) :=
  h.setPass ..

theorem AtOutlet.closeCycle (h : AtOutlet n c d) : AtOutlet n c (closeCycle e n d) := by
  simp only [Machine.closeCycle]
  exact .ite ((h.setOutlet _).endOrder _)
    (.ite ((h.setOutlet _).endOrder _) ((h.setOutlet _).setOutlet _))

theorem AtOutlet.indexRecord (i : Nat) (h : AtOutlet n c d) : AtOutlet n c (indexRecord e n i d) := by
  simp only [Machine.indexRecord]
  split
  · exact h.setOutlet _
  · exact .ite h.cycleStart h
  · exact h

theorem AtOutlet.reactRecord (h : AtOutlet n c d) : AtOutlet n c (reactRecord e n x d) := by
  simp only [Machine.reactRecord]
  split
  · exact .ite ((h.setOutlet _).flowEntered _) h
  · exact .ite (((h.setOutlet _).updSlot _).flowLeft _) h
  · exact .ite h.closeCycle h
  · exact h.indexRecord _
  · exact .ite (h.endOrder _) h
  · exact h
  · exact h

/-- The dwell apart, the pass records are as before. -/
def DwellOnly (c d : Ctl) : Prop :=
  ∀ q, d.pass q = { c.pass q with dwell := (d.pass q).dwell, dwellTimer := (d.pass q).dwellTimer }

theorem DwellOnly.of_passes (h : d.passes = c.passes) : DwellOnly c d := fun q => by
  rw [Ctl.pass_congr h q]

theorem flowLeft_dwellOnly {p : Fin 4} (h : d.passes = c.passes) : DwellOnly c (flowLeft e p d) := by
  unfold flowLeft
  split
  · exact .of_passes h
  · intro q
    rw [Ctl.pass_setPass, ← Ctl.pass_congr h q]
    split
    · next same => subst same; rfl
    · rfl

theorem flowEntered_dwellOnly {p : Fin 4} (h : d.passes = c.passes) : DwellOnly c (flowEntered p d) := by
  intro q
  unfold flowEntered
  rw [Ctl.pass_setPass, ← Ctl.pass_congr h q]
  split
  · next same => subst same; rfl
  · rfl

theorem endOrder_passes (e : Env) (n : Fin 8) (r : EndReason) (c : Ctl) :
    (endOrder e n r c).passes = c.passes := by simp [endOrder]

theorem cycleStart_passes (e : Env) (n : Fin 8) (c : Ctl) : (cycleStart e n c).passes = c.passes := by
  simp only [cycleStart]
  repeat' split
  · exact endOrder_passes ..
  · exact endOrder_passes ..
  · exact endOrder_passes ..
  · rfl
  · rfl

theorem reactRecord_dwellOnly : DwellOnly c (reactRecord e n x c) := by
  simp only [reactRecord]
  split
  · split
    · exact flowEntered_dwellOnly rfl
    · exact .of_passes rfl
  · split
    · exact flowLeft_dwellOnly rfl
    · exact .of_passes rfl
  · refine .of_passes ?_
    simp only [closeCycle]
    repeat' split
    · exact endOrder_passes ..
    · exact endOrder_passes ..
    · rfl
    · rfl
  · refine .of_passes ?_
    simp only [indexRecord]
    repeat' split
    · rfl
    · exact cycleStart_passes ..
    · rfl
    · rfl
  · refine .of_passes ?_
    split
    · exact endOrder_passes ..
    · rfl
  · exact .of_passes rfl
  · exact .of_passes rfl

end

end Sys2Proof.Machine
end

section
/-! Proofs: the obligation on the timers and the records of a cycle. -/

namespace Sys2Proof.Machine

/-! ### The reaction to a record, state by state -/

section
variable {e : Env} {n : Fin 8} {x : LoadRecord} {c : Ctl}

theorem confirmOpen_outlet : (confirmOpen e n c).outlet n =
    { c.outlet n with
      state := .flowing
      timer := some (if (e.outletQual n).flow.state.qualified = .yes then .cycleDraw else .flowStart,
        e.clock) } := by
  simp [confirmOpen, flowEntered]

theorem preClose_outlet : (preClose e n c).outlet n =
    { c.outlet n with state := .closing, timer := some (.close, e.clock) } := by
  unfold preClose
  rw [flowLeft_outlet]
  simp [Ctl.ownDemand]

/-- R105: the outlet right after a confirmed closure, the order still to end or go on. -/
def countedOutlet (o : Outlet) : Outlet :=
  { o with
    completed := satAdd 255 o.completed 1, remaining := o.latchCycles.getD (o.remaining - 1)
    latchCycles := none, timer := none }

theorem closeCycle_eq : closeCycle e n c =
    if (c.outlet n).latchCycles.getD ((c.outlet n).remaining - 1) = 0 then
      endOrder e n .done (c.setOutlet n (countedOutlet (c.outlet n)))
    else if (c.outlet n).stopAfter then
      endOrder e n .stopAfter (c.setOutlet n (countedOutlet (c.outlet n)))
    else
      (c.setOutlet n (countedOutlet (c.outlet n))).setOutlet n
        { (c.setOutlet n (countedOutlet (c.outlet n))).outlet n with
          state := .indexing, timer := some (.index, e.clock), departureSeen := false
          startPending := false } := rfl

theorem reactRecord_opening (h : (c.outlet n).state = .opening) : reactRecord e n x c =
    if (e.outletQual n).d1.value = .yes ∨
        nearOpening x.position (c.outlet n).workingOpening = true then confirmOpen e n c
    else c := by simp only [reactRecord, h]

theorem reactRecord_flowing (h : (c.outlet n).state = .flowing) : reactRecord e n x c =
    if (c.outlet n).workingTarget ≤ (c.outlet n).deliveredCycle + (e.outletCfg n).lead then
      preClose e n c
    else c := by simp only [reactRecord, h]

theorem reactRecord_closing (h : (c.outlet n).state = .closing) : reactRecord e n x c =
    if (e.outletQual n).d0.value = .yes then closeCycle e n c else c := by
  simp only [reactRecord, h]

theorem reactRecord_indexing (h : (c.outlet n).state = .indexing) :
    reactRecord e n x c = indexRecord e n x.identity c := by simp only [reactRecord, h]

theorem reactRecord_stopping (h : (c.outlet n).state = .stopping) : reactRecord e n x c =
    if (e.outletQual n).d0.value = .yes then
      endOrder e n ((c.outlet n).stopReason.getD .hostClose) c
    else c := by simp only [reactRecord, h]

theorem reactRecord_quiet (h : (c.outlet n).state = .idle ∨ (c.outlet n).state = .fault) :
    reactRecord e n x c = c := by
  rcases h with h | h <;> simp only [reactRecord, h]

/-- A weighing, a copy of the record, and nothing else of the outlet's measures. -/
structure SameMeasures (o o' : Outlet) : Prop where
  lastRecord : o'.lastRecord = o.lastRecord
  highMark : o'.highMark = o.highMark
  deliveredCycle : o'.deliveredCycle = o.deliveredCycle
  deliveredOrder : o'.deliveredOrder = o.deliveredOrder

theorem endOrder_measures (r : EndReason) :
    SameMeasures (c.outlet n) ((endOrder e n r c).outlet n) := by
  rw [endOrder_outlet]; exact ⟨rfl, rfl, rfl, rfl⟩

theorem cycleStart_lastRecord :
    ((cycleStart e n c).outlet n).lastRecord = (c.outlet n).lastRecord := by
  simp only [cycleStart]
  repeat' split
  · exact (endOrder_measures _).lastRecord
  · exact (endOrder_measures _).lastRecord
  · exact (endOrder_measures _).lastRecord
  · simp
  · simp [beginCycle]

theorem closeCycle_measures : SameMeasures (c.outlet n) ((closeCycle e n c).outlet n) := by
  have counted : ((c.setOutlet n (countedOutlet (c.outlet n))).outlet n) = countedOutlet (c.outlet n) :=
    Ctl.outlet_setOutlet_same ..
  rw [closeCycle_eq]
  split
  · rw [endOrder_outlet, counted]; exact ⟨rfl, rfl, rfl, rfl⟩
  · split
    · rw [endOrder_outlet, counted]; exact ⟨rfl, rfl, rfl, rfl⟩
    · rw [Ctl.outlet_setOutlet_same, counted]; exact ⟨rfl, rfl, rfl, rfl⟩

/-- Outside INDEXING a record moves no measure after its weighing. -/
theorem reactRecord_measures (h : (c.outlet n).state ≠ .indexing) :
    SameMeasures (c.outlet n) ((reactRecord e n x c).outlet n) := by
  have refl : SameMeasures (c.outlet n) (c.outlet n) := ⟨rfl, rfl, rfl, rfl⟩
  cases hs : (c.outlet n).state with
  | indexing => exact absurd hs h
  | idle => rw [reactRecord_quiet (.inl hs)]; exact refl
  | fault => rw [reactRecord_quiet (.inr hs)]; exact refl
  | opening =>
    rw [reactRecord_opening hs]
    split
    · rw [confirmOpen_outlet]; exact ⟨rfl, rfl, rfl, rfl⟩
    · exact refl
  | flowing =>
    rw [reactRecord_flowing hs]
    split
    · rw [preClose_outlet]; exact ⟨rfl, rfl, rfl, rfl⟩
    · exact refl
  | closing =>
    rw [reactRecord_closing hs]
    split
    · exact closeCycle_measures
    · exact refl
  | stopping =>
    rw [reactRecord_stopping hs]
    split
    · exact endOrder_measures _
    · exact refl

theorem reactRecord_lastRecord :
    ((reactRecord e n x c).outlet n).lastRecord = (c.outlet n).lastRecord := by
  by_cases h : (c.outlet n).state = .indexing
  · rw [reactRecord_indexing h, indexRecord]
    repeat' split
    · simp
    · exact cycleStart_lastRecord
    · rfl
    · rfl
  · exact (reactRecord_measures h).lastRecord

end

/-! ### What moves in each state -/

/-- R108: what the end of an order leaves of the outlet. -/
structure OrderEnded (reason : EndReason) (o : Outlet) : Prop where
  state : o.state = .idle
  reason : o.stopReason = some reason
  tag : o.tag = none
  timer : o.timer = none
  grant : o.grantHeld = false
  target : o.latchTarget = none
  cycles : o.latchCycles = none
  opening : o.latchOpening = none
  stopAfter : o.stopAfter = false

section
variable {e : Env} {n : Fin 8} {x : LoadRecord} {c : Ctl}

theorem endOrder_ended (reason : EndReason) :
    OrderEnded reason ((endOrder e n reason c).outlet n) := by
  rw [endOrder_outlet]; exact ⟨rfl, rfl, rfl, rfl, rfl, rfl, rfl, rfl, rfl⟩

/-- R16, R101: the dwell stops with the entry into FLOWING. -/
theorem confirmOpen_dwell : ((confirmOpen e n c).pass (e.outletCfg n).pass).dwell = 0 ∧
    ((confirmOpen e n c).pass (e.outletCfg n).pass).dwellTimer = none := by
  simp [confirmOpen, flowEntered]

theorem preClose_demand : ((preClose e n c).slot (outletSlot n)).wb.demand =
    some (joinWord (c.slot (outletSlot n)).lastTag 0) := by
  unfold preClose
  rw [flowLeft_slot]
  simp [Ctl.ownDemand, CommandSlot.putDemand]

/-- R16, R104: the dwell starts where this was the last outlet of the pass in FLOWING. -/
theorem preClose_dwell
    (last : ∀ j ∈ e.live.outletsOf (e.outletCfg n).pass, j ≠ n → (c.outlet j).state ≠ .flowing) :
    ((preClose e n c).pass (e.outletCfg n).pass).dwellTimer = some e.clock := by
  set d := (c.setOutlet n { c.outlet n with state := .closing, timer := some (.close, e.clock) }).ownDemand
    (outletSlot n) 0 with hd
  have none : d.anyFlowing e (e.outletCfg n).pass = false := by
    refine List.any_eq_false.2 fun j hj flowing => ?_
    have state : (d.outlet j).state = .flowing := by simpa using flowing
    rw [hd, Ctl.ownDemand, Ctl.updSlot_outlet, Ctl.outlet_setOutlet] at state
    split at state
    · exact absurd state nofun
    · next hne => exact last j hj (Ne.symm hne) state
  show ((flowLeft e (e.outletCfg n).pass d).pass _).dwellTimer = _
  rw [flowLeft, none]
  simp

/-- R105: a confirmed closure counts the cycle, and ends the order or goes to INDEXING. -/
theorem closeCycle_outlet :
    let o := c.outlet n
    let o' := (closeCycle e n c).outlet n
    let left := o.latchCycles.getD (o.remaining - 1)
    o'.completed = min 255 (o.completed + 1) ∧ o'.remaining = left ∧
    (left = 0 → OrderEnded .done o') ∧ (left ≠ 0 → o.stopAfter = true → OrderEnded .stopAfter o') ∧
    (left ≠ 0 → o.stopAfter = false → o'.state = .indexing ∧
      o'.timer = some (.index, e.clock) ∧ o'.latchCycles = none ∧
      o'.departureSeen = false ∧ o'.startPending = false) := by
  intro o o' left
  have counted : ((c.setOutlet n (countedOutlet (c.outlet n))).outlet n) = countedOutlet o :=
    Ctl.outlet_setOutlet_same ..
  have result : o' = (closeCycle e n c).outlet n := rfl
  rw [closeCycle_eq] at result
  by_cases zero : left = 0
  · rw [if_pos zero] at result
    have ended := endOrder_ended (e := e) (n := n) (c := c.setOutlet n (countedOutlet o)) .done
    rw [endOrder_outlet, counted] at result
    rw [endOrder_outlet, counted, ← result] at ended
    exact ⟨by rw [result]; rfl, by rw [result]; rfl, fun _ => ended, fun h => absurd zero h,
      fun h => absurd zero h⟩
  · rw [if_neg zero] at result
    cases hs : o.stopAfter with
    | true =>
      rw [if_pos hs] at result
      have ended := endOrder_ended (e := e) (n := n) (c := c.setOutlet n (countedOutlet o)) .stopAfter
      rw [endOrder_outlet, counted] at result
      rw [endOrder_outlet, counted, ← result] at ended
      exact ⟨by rw [result]; rfl, by rw [result]; rfl, fun h => absurd h zero, fun _ _ => ended, nofun⟩
    | false =>
      rw [if_neg (by simp [show (c.outlet n).stopAfter = false from hs]), Ctl.outlet_setOutlet_same,
        counted] at result
      exact ⟨by rw [result]; rfl, by rw [result]; rfl, fun h => absurd h zero, nofun, fun _ _ => by
        rw [result]; exact ⟨rfl, rfl, rfl, rfl, rfl⟩⟩

/-- R106: a record in INDEXING, by the qualified receiver present. -/
theorem indexRecord_cases (i : Nat) :
    ((e.outletQual n).d2.value = .no →
      indexRecord e n i c = c.setOutlet n { c.outlet n with departureSeen := true }) ∧
    ((e.outletQual n).d2.value = .yes →
      ((c.outlet n).departureSeen = true ∨ i ≠ (c.outlet n).startIdentity) →
      indexRecord e n i c = cycleStart e n c) ∧
    ((e.outletQual n).d2.value = .unknown ∨
        ((e.outletQual n).d2.value = .yes ∧ (c.outlet n).departureSeen = false ∧
          i = (c.outlet n).startIdentity) →
      indexRecord e n i c = c) := by
  refine ⟨fun no => by simp only [indexRecord, no], fun yes starts => ?_, fun stays => ?_⟩
  · simp only [indexRecord, yes]; exact if_pos starts
  · rcases stays with unknown | ⟨yes, unseen, identity⟩
    · simp only [indexRecord, unknown]
    · simp only [indexRecord, yes]
      exact if_neg (fun starts => starts.elim (by simp [unseen]) (· identity))

end

/-! ### A record at an outlet: copied, weighed, acted on -/

/-- R91, R103: the state between the weighing of a record and what the outlet makes of it. -/
def outletWeighed (e : Env) (n : Fin 8) (x : LoadRecord) (c : Ctl) : Ctl :=
  (weigh e n x.weight (c.setOutlet n { c.outlet n with lastRecord := some x })).1

section
variable (e : Env) (n : Fin 8) (x : LoadRecord) (c : Ctl)

theorem outletWeighed_outlet : (outletWeighed e n x c).outlet n =
    weighedOutlet x.weight { c.outlet n with lastRecord := some x } := by
  unfold outletWeighed
  rw [weigh_outlet, Ctl.outlet_setOutlet_same]

/-- What the weighing leaves: all of the outlet but its measures. -/
theorem outletWeighed_kept : (outletWeighed e n x c).outlet n =
    { c.outlet n with
      lastRecord := some x, highMark := ((outletWeighed e n x c).outlet n).highMark
      deliveredCycle := ((outletWeighed e n x c).outlet n).deliveredCycle
      deliveredOrder := ((outletWeighed e n x c).outlet n).deliveredOrder } := by
  rw [outletWeighed_outlet]
  exact weighedOutlet_kept ..

theorem outletWeighed_frame : (∀ j, j ≠ n → (outletWeighed e n x c).outlet j = c.outlet j) ∧
    (outletWeighed e n x c).tips = c.tips ∧
    (outletWeighed e n x c).slot (outletSlot n) = c.slot (outletSlot n) := by
  obtain ⟨others, tips, slot⟩ := weigh_frame e n x.weight
    (c.setOutlet n { c.outlet n with lastRecord := some x })
  exact ⟨fun j hj => (others j hj).trans (Ctl.outlet_setOutlet_other _ _ (Ne.symm hj)), tips, slot⟩

/-- R91, R103: the frame of a record, its weighing and its debit. -/
theorem outletRecord_weighs :
    let o := c.outlet n
    let p := (e.outletCfg n).pass
    let m := x.weight - o.highMark
    let y := (outletRecord e n x c).1
    let o' := y.outlet n
    (∀ j, j ≠ n → y.outlet j = c.outlet j) ∧ y.tips = c.tips ∧ o'.lastRecord = some x ∧
    (o.state = .idle ∨ o.state = .indexing ∨ x.weight ≤ o.highMark →
      (y.pass p).inventory = (c.pass p).inventory ∧
      (o.state ≠ .indexing → o'.highMark = o.highMark ∧ o'.deliveredCycle = o.deliveredCycle ∧
        o'.deliveredOrder = o.deliveredOrder)) ∧
    (o.state ≠ .idle → o.state ≠ .indexing → o.highMark < x.weight →
      o'.highMark = x.weight ∧ o'.deliveredCycle = x.weight - o.snapshot ∧
      o'.deliveredOrder =
        (if o.state = .fault then o.deliveredOrder else min 65535 (o.deliveredOrder + m)) ∧
      (y.pass p).inventory = (c.pass p).inventory - m ∧
      (y.pass p).state = ((debit e p m c).1.pass p).state ∧
      (y.pass p).accumulator = ((debit e p m c).1.pass p).accumulator) := by
  intro o p m y o'
  set b := outletWeighed e n x c with hb
  obtain ⟨others, tips, -⟩ := outletWeighed_frame e n x c
  have frame : AtOutlet n b y := AtOutlet.refl.reactRecord
  have record : y.pass p = _ := reactRecord_dwellOnly (e := e) (n := n) (x := x) (c := b) p
  have kept := outletWeighed_kept e n x c
  have state : (b.outlet n).state = o.state := by rw [hb, kept]
  set c1 := c.setOutlet n { c.outlet n with lastRecord := some x } with hc1
  have copied : c1.outlet n = { o with lastRecord := some x } := Ctl.outlet_setOutlet_same ..
  refine ⟨fun j hj => (frame.outlets j hj).trans (others j hj), frame.tips.trans tips,
    (reactRecord_lastRecord (c := b)).trans (by rw [hb, kept]), fun quiet => ?_, fun notIdle notIndexing above => ?_⟩
  · have same : b = c1 := weigh_quiet e (by rw [copied]; exact quiet)
    refine ⟨by rw [record, same]; rfl, fun notIndexing => ?_⟩
    have measures := reactRecord_measures (e := e) (x := x) (state ▸ notIndexing)
    have outlet : b.outlet n = { o with lastRecord := some x } := by rw [same]; exact copied
    rw [outlet] at measures
    exact ⟨measures.highMark, measures.deliveredCycle, measures.deliveredOrder⟩
  · have measures := reactRecord_measures (e := e) (x := x) (state ▸ notIndexing)
    have weighed : b.outlet n = weighedOutlet x.weight { o with lastRecord := some x } :=
      outletWeighed_outlet ..
    rw [weighedOutlet, if_pos ⟨weighing_of notIdle notIndexing, above⟩] at weighed
    rw [weighed] at measures
    obtain ⟨hung, fed, drawn⟩ := weigh_debits e (n := n) (w := x.weight) (c := c1)
      (by rw [copied]; exact notIdle) (by rw [copied]; exact notIndexing) (by rw [copied]; exact above)
    rw [copied] at hung fed drawn
    obtain ⟨state', accumulator', -⟩ := debit_congr e p m (c := c) (d := c1) rfl
    refine ⟨measures.highMark, measures.deliveredCycle, measures.deliveredOrder, ?_, ?_, ?_⟩ <;>
      rw [record]
    · exact drawn
    · exact hung.trans state'
    · exact fed.trans accumulator'

/-- R101 to R106: what a record makes of the state of the outlet. -/
theorem outletRecord_moves :
    let o := c.outlet n
    let cfg := e.outletCfg n
    let q := e.outletQual n
    let y := (outletRecord e n x c).1
    let o' := y.outlet n
    let same := o'.state = o.state ∧ o'.timer = o.timer
    let delivered := if o.highMark < x.weight then x.weight - o.snapshot else o.deliveredCycle
    let ended (reason : EndReason) := o'.state = .idle ∧ o'.stopReason = some reason ∧
      o'.tag = none ∧ o'.timer = none ∧ o'.grantHeld = false ∧ o'.latchTarget = none ∧
      o'.latchCycles = none ∧ o'.latchOpening = none ∧ o'.stopAfter = false
    let confirmed := q.d1.value = .yes ∨
      (x.position ≤ o.workingOpening + 5 ∧ o.workingOpening ≤ x.position + 5)
    (o.state = .idle ∨ o.state = .fault → same) ∧
    (o.state = .opening →
      (confirmed → o'.state = .flowing ∧
        o'.timer = some (if q.flow.state.qualified = .yes then .cycleDraw else .flowStart, e.clock) ∧
        (y.pass cfg.pass).dwell = 0 ∧ (y.pass cfg.pass).dwellTimer = none) ∧
      (¬confirmed → same)) ∧
    (o.state = .flowing →
      (o.workingTarget ≤ delivered + cfg.lead →
        o'.state = .closing ∧ o'.timer = some (.close, e.clock) ∧
        (y.slot (outletSlot n)).wb.demand = some (joinWord (c.slot (outletSlot n)).lastTag 0) ∧
        ((∀ j ∈ e.live.outletsOf cfg.pass, j ≠ n → (c.outlet j).state ≠ .flowing) →
          (y.pass cfg.pass).dwellTimer = some e.clock)) ∧
      (delivered + cfg.lead < o.workingTarget → same)) ∧
    (o.state = .closing →
      (q.d0.value ≠ .yes → same) ∧
      (q.d0.value = .yes →
        let left := o.latchCycles.getD (o.remaining - 1)
        o'.completed = min 255 (o.completed + 1) ∧ o'.remaining = left ∧
        (left = 0 → ended .done) ∧ (left ≠ 0 → o.stopAfter = true → ended .stopAfter) ∧
        (left ≠ 0 → o.stopAfter = false → o'.state = .indexing ∧
          o'.timer = some (.index, e.clock) ∧ o'.latchCycles = none ∧
          o'.departureSeen = false ∧ o'.startPending = false))) ∧
    (o.state = .stopping →
      (q.d0.value ≠ .yes → same) ∧
      (∀ reason, q.d0.value = .yes → o.stopReason = some reason → ended reason)) ∧
    (o.state = .indexing →
      let c1 := c.setOutlet n { o with lastRecord := some x }
      (q.d2.value = .no → o' = { o with lastRecord := some x, departureSeen := true }) ∧
      (q.d2.value = .yes → (o.departureSeen = true ∨ x.identity ≠ o.startIdentity) →
        y = cycleStart e n c1) ∧
      (q.d2.value = .unknown ∨
          (q.d2.value = .yes ∧ o.departureSeen = false ∧ x.identity = o.startIdentity) →
        y = c1)) := by
  intro o cfg q y o' same delivered ended confirmed
  set b := outletWeighed e n x c with hb
  have kept : b.outlet n = _ := outletWeighed_kept e n x c
  have state : (b.outlet n).state = o.state := by rw [kept]
  have timer : (b.outlet n).timer = o.timer := by rw [kept]
  have reacts : y = reactRecord e n x b := rfl
  have still (h : y = b) : same := by
    simp only [same, o', h]
    exact ⟨state, timer⟩
  have ends (reason : EndReason) (h : OrderEnded reason o') : ended reason :=
    ⟨h.state, h.reason, h.tag, h.timer, h.grant, h.target, h.cycles, h.opening, h.stopAfter⟩
  refine ⟨fun quiet => ?idle, fun opening => ?opening, fun flowing => ?flowing, fun closing => ?closing,
    fun stopping => ?stopping, fun indexing => ?indexing⟩
  case idle => exact still (reacts.trans (reactRecord_quiet (by rw [state]; exact quiet)))
  case opening =>
    rw [reactRecord_opening (state.trans opening)] at reacts
    have isConfirmed : ((e.outletQual n).d1.value = .yes ∨
        nearOpening x.position (b.outlet n).workingOpening = true) ↔ confirmed := by
      rw [show (b.outlet n).workingOpening = o.workingOpening by rw [kept]]
      simp [nearOpening, confirmed, q]
    refine ⟨fun yes => ?_, fun no => still (reacts.trans (if_neg (mt isConfirmed.1 no)))⟩
    rw [if_pos (isConfirmed.2 yes)] at reacts
    simp only [o', reacts, confirmOpen_outlet]
    exact ⟨trivial, rfl, confirmOpen_dwell⟩
  case flowing =>
    rw [reactRecord_flowing (state.trans flowing)] at reacts
    have drawn : (b.outlet n).deliveredCycle = delivered := by
      have weighs : (c.outlet n).state.weighing = true := by
        rw [show (c.outlet n).state = .flowing from flowing]; rfl
      rw [hb, outletWeighed_outlet, weighedOutlet]
      by_cases above : o.highMark < x.weight
      · rw [if_pos ⟨weighs, above⟩]; exact (if_pos above).symm
      · rw [if_neg fun h => above h.2]; exact (if_neg above).symm
    rw [drawn, show (b.outlet n).workingTarget = o.workingTarget by rw [kept]] at reacts
    refine ⟨fun done => ?_, fun more => still (reacts.trans (if_neg (Nat.not_le.2 more)))⟩
    rw [if_pos done] at reacts
    obtain ⟨others, -, slot⟩ := outletWeighed_frame e n x c
    simp only [o', reacts, preClose_outlet, preClose_demand]
    refine ⟨trivial, trivial, by rw [hb, slot], fun last => preClose_dwell fun j hj hne => ?_⟩
    rw [hb, others j hne]
    exact last j hj hne
  case closing =>
    rw [reactRecord_closing (state.trans closing)] at reacts
    refine ⟨fun no => still (reacts.trans (if_neg no)), fun yes => ?_⟩
    rw [if_pos yes] at reacts
    obtain ⟨completed, remaining, zero, after, more⟩ := closeCycle_outlet (e := e) (n := n) (c := b)
    have left : (b.outlet n).latchCycles.getD ((b.outlet n).remaining - 1) =
        o.latchCycles.getD (o.remaining - 1) := by rw [kept]
    have count : (b.outlet n).completed = o.completed := by rw [kept]
    have asked : (b.outlet n).stopAfter = o.stopAfter := by rw [kept]
    rw [← reacts, count] at completed
    rw [← reacts, left] at remaining zero
    rw [← reacts, left, asked] at after more
    exact ⟨completed, remaining, fun h => ends _ (zero h), fun h g => ends _ (after h g), more⟩
  case stopping =>
    rw [reactRecord_stopping (state.trans stopping)] at reacts
    refine ⟨fun no => still (reacts.trans (if_neg no)), fun reason yes stopped => ends _ ?_⟩
    rw [if_pos yes, show (b.outlet n).stopReason = o.stopReason by rw [kept], stopped] at reacts
    simp only [o', reacts]
    exact endOrder_ended reason
  case indexing =>
    intro c1
    have same : b = c1 := weigh_quiet e (by
      rw [Ctl.outlet_setOutlet_same]; exact .inr (.inl indexing))
    have copied : c1.outlet n = { o with lastRecord := some x } := Ctl.outlet_setOutlet_same ..
    rw [reactRecord_indexing (state.trans indexing), same] at reacts
    obtain ⟨no, starts, stays⟩ := indexRecord_cases (e := e) (n := n) (c := c1) x.identity
    rw [← reacts, copied] at no starts stays
    refine ⟨fun gone => ?_, starts, stays⟩
    simp only [o', no gone, Ctl.outlet_setOutlet_same]

end

end Sys2Proof.Machine
end

section
/-! Proofs: O44, the timers of a cycle, its records and its start. -/

namespace Sys2Proof.Machine

/-! ### The start of a cycle (R107) -/

section
variable {e : Env} {n : Fin 8} {c : Ctl}

theorem beginCycle_outlet {x : LoadRecord} (recorded : (c.outlet n).lastRecord = some x) :
    let o := c.outlet n
    let k := e.passCfg (e.outletCfg n).pass
    let wet := (c.pass (e.outletCfg n).pass).wetActive
    (beginCycle e n c).outlet n =
      { o with
        state := .opening, orderedTarget := o.latchTarget.getD o.orderedTarget
        orderedOpening := o.latchOpening.getD o.orderedOpening
        workingTarget := lowered wet k.restrictedTarget (o.latchTarget.getD o.orderedTarget)
        workingOpening := lowered wet k.restrictedOpening (o.latchOpening.getD o.orderedOpening)
        remaining := o.latchCycles.getD o.remaining
        latchTarget := none, latchCycles := none, latchOpening := none, snapshot := x.weight
        highMark := x.weight, startIdentity := x.identity, deliveredCycle := 0
        startPending := false, timer := some (.openT, e.clock) } := by
  simp [beginCycle, recorded]

theorem beginCycle_wb :
    let o := c.outlet n
    let k := e.passCfg (e.outletCfg n).pass
    let wet := (c.pass (e.outletCfg n).pass).wetActive
    ((beginCycle e n c).slot (outletSlot n)).wb =
      { (c.slot (outletSlot n)).wb with
        a := some (toWord (lowered wet k.restrictedTarget (o.latchTarget.getD o.orderedTarget)))
        b := some (toWord (o.latchCycles.getD o.remaining))
        c := some (toWord (lowered wet k.restrictedOpening (o.latchOpening.getD o.orderedOpening)))
        demand := some (joinWord (c.slot (outletSlot n)).lastTag 1) } := by
  simp [beginCycle, CommandSlot.putSetPoints, CommandSlot.putDemand]

/-- R107, log 20: the checks of a cycle start in their order. -/
theorem cycleStart_checks :
    let r := c.pass (e.outletCfg n).pass
    let below := r.belowCushion (e.passCfg (e.outletCfg n).pass) = true ∧ r.grant = false ∧
      (c.outlet n).grantHeld = false
    (r.state = .lockout → cycleStart e n c = endOrder e n .lockout c) ∧
    (r.state = .hangup → cycleStart e n c = endOrder e n .hangup c) ∧
    (r.state = .running → below → cycleStart e n c = endOrder e n .cushion c) ∧
    (r.state = .running → ¬below → r.wetActive = true ∧ c.otherDrawing e n = true →
      cycleStart e n c = c.setOutlet n { c.outlet n with startPending := true }) ∧
    (r.state = .running → ¬below → ¬(r.wetActive = true ∧ c.otherDrawing e n = true) →
      cycleStart e n c = beginCycle e n c) := by
  intro r below
  have notLocked (h : r.state = .running) : ¬r.state = .lockout := by rw [h]; exact nofun
  have notHung (h : r.state = .running) : ¬r.state = .hangup := by rw [h]; exact nofun
  refine ⟨fun locked => if_pos locked, fun hung => ?_, fun runs low => ?_, fun runs high held => ?_,
    fun runs high free => ?_⟩
  · exact (if_neg (by rw [show (c.pass _).state = .hangup from hung]; exact nofun)).trans (if_pos hung)
  · exact (if_neg (notLocked runs)).trans ((if_neg (notHung runs)).trans (if_pos low))
  · exact (if_neg (notLocked runs)).trans ((if_neg (notHung runs)).trans
      ((if_neg high).trans (if_pos held)))
  · exact (if_neg (notLocked runs)).trans ((if_neg (notHung runs)).trans
      ((if_neg high).trans (if_neg free)))

/-- R107: what a cycle start makes of an outlet that has a record. -/
theorem cycleStart_outlet {x : LoadRecord} (recorded : (c.outlet n).lastRecord = some x) :
    let o := c.outlet n
    let p := (e.outletCfg n).pass
    let k := e.passCfg p
    let r := c.pass p
    let y := cycleStart e n c
    let o' := y.outlet n
    let below := r.cls ≠ .unknown ∧ r.low < k.cushionMark ∧ r.grant = false ∧ o.grantHeld = false
    let target := o.latchTarget.getD o.orderedTarget
    let opening := o.latchOpening.getD o.orderedOpening
    let cycles := o.latchCycles.getD o.remaining
    let lowered (limit v : Nat) : Nat := if r.wetActive then min limit v else v
    let ended (reason : EndReason) := o'.state = .idle ∧ o'.stopReason = some reason ∧
      o'.tag = none ∧ o'.timer = none
    y.passes = c.passes ∧
    (r.state = .lockout → ended .lockout) ∧ (r.state = .hangup → ended .hangup) ∧
    (r.state = .running → below → ended .cushion) ∧
    (r.state = .running → ¬below →
      (r.wetActive = true → c.otherDrawing e n = true →
        y = c.setOutlet n { o with startPending := true }) ∧
      (r.wetActive = false ∨ c.otherDrawing e n = false →
        o' = { o with
          state := .opening, orderedTarget := target, orderedOpening := opening
          workingTarget := lowered k.restrictedTarget target
          workingOpening := lowered k.restrictedOpening opening, remaining := cycles
          latchTarget := none, latchCycles := none, latchOpening := none, snapshot := x.weight
          highMark := x.weight, startIdentity := x.identity, deliveredCycle := 0
          startPending := false, timer := some (.openT, e.clock) } ∧
        (y.slot (outletSlot n)).wb =
          { (c.slot (outletSlot n)).wb with
            a := some (toWord (lowered k.restrictedTarget target)), b := some (toWord cycles)
            c := some (toWord (lowered k.restrictedOpening opening))
            demand := some (joinWord (c.slot (outletSlot n)).lastTag 1) })) := by
  intro o p k r y o' below target opening cycles lowered ended
  obtain ⟨locked, hung, low, held, begins⟩ := cycleStart_checks (e := e) (n := n) (c := c)
  have isBelow : (r.belowCushion k = true ∧ r.grant = false ∧ o.grantHeld = false) ↔ below := by
    rw [belowCushion_iff]; exact and_assoc
  have ends {reason : EndReason} (h : y = endOrder e n reason c) : ended reason := by
    have after : OrderEnded reason o' := by simp only [o', h]; exact endOrder_ended reason
    exact ⟨after.state, after.reason, after.tag, after.timer⟩
  refine ⟨cycleStart_passes .., fun h => ends (locked h), fun h => ends (hung h),
    fun h b => ends (low h (isBelow.2 b)), fun h b => ⟨fun wet other => ?_, fun free => ?_⟩⟩
  · exact held h (mt isBelow.1 b) ⟨wet, other⟩
  · have started : y = beginCycle e n c := begins h (mt isBelow.1 b) fun both => by
      rcases free with dry | alone
      · exact absurd (both.1.symm.trans dry) nofun
      · exact absurd (both.2.symm.trans alone) nofun
    simp only [o', started]
    exact ⟨beginCycle_outlet recorded, beginCycle_wb⟩

/-! ### The flow begins, the receiver is lost (R102, R116) -/

theorem flowBegins_flowing {since : Clock} (flowing : (c.outlet n).state = .flowing)
    (waits : (c.outlet n).timer = some (.flowStart, since)) :
    flowBegins e n c = c.setOutlet n { c.outlet n with timer := some (.cycleDraw, e.clock) } := by
  simp only [flowBegins, waits]
  exact if_pos flowing

/-- R116: the receiver of a drawing outlet is lost. -/
theorem receiverLost_outlet (drawing : (c.outlet n).state.drawing = true)
    (free : (c.slot (outletSlot n)).holder = none) :
    (settleOutlets e (e.outletCfg n).pass (receiverLost e n c)).outlet n =
      { c.outlet n with
        state := .stopping, stopReason := some .receiverLost, startPending := false
        timer := some (.close, e.clock) } := by
  have notClosing : (c.outlet n).state ≠ .closing := fun h => by simp [h, OutletState.drawing] at drawing
  have stops : receiverLost e n c = stopOutlet e n .receiverLost c := if_pos drawing
  have view := stopOutlet_view (e := e) n .receiverLost c
  have outlet : (stopOutlet e n .receiverLost c).outlet n = _ := congrArg Prod.fst view
  have slot : (stopOutlet e n .receiverLost c).slot (outletSlot n) = _ := congrArg Prod.snd view
  have stopped : stoppedOutlet e.clock .receiverLost (c.outlet n) =
      { c.outlet n with
        state := .stopping, stopReason := some .receiverLost, startPending := false
        timer := some (.close, e.clock) } := by
    simp [stoppedOutlet, active_of_drawing drawing, notClosing]
  have idle : (stopOutlet e n .receiverLost c).waits n = false := waits_eq_false.2 <| by
    rw [slot, outlet]
    refine ⟨?_, congrArg Outlet.startPending stopped⟩
    show (if (c.outlet n).state.drawing then _ else _ : CommandSlot).holder = none
    rw [if_pos drawing]
    exact free
  rw [stops, (outletView_eq.1 (settleOutlets_view_idle idle)).1]
  exact outlet.trans stopped

end

/-! ### The timer expiries (R117) -/

section
variable {s : State} {n : Fin 8} {since : Clock}

theorem exec_openTimeout (released : s.resetAsserted = false)
    (running : (s.ctl.outlet n).timer = some (.openT, since))
    (passed : (s.live.outletCfg n).openTimeout ≤ (s.clock - since).toNat) :
    ∃ t, exec (.openTimeout n) s = .next t ∧
      t.ctl = timeoutEvent s.env n .gateNoOpen .gateNoOpen s.ctl := by
  obtain ⟨t, ran, after⟩ := event_onCtl (openTimeoutEvent n) released
  exact ⟨t, ran, after.trans (if_pos (timerDue_of_running running passed))⟩

theorem exec_flowStartTimeout (released : s.resetAsserted = false)
    (running : (s.ctl.outlet n).timer = some (.flowStart, since))
    (passed : (s.live.outletCfg n).flowStartTimeout ≤ (s.clock - since).toNat) :
    ∃ t, exec (.flowStartTimeout n) s = .next t ∧ t.ctl = noFlowTimeout s.env n s.ctl := by
  obtain ⟨t, ran, after⟩ := event_onCtl (flowStartTimeoutEvent n) released
  exact ⟨t, ran, after.trans (if_pos (timerDue_of_running running passed))⟩

theorem exec_cycleDrawTimeout (released : s.resetAsserted = false)
    (running : (s.ctl.outlet n).timer = some (.cycleDraw, since))
    (passed : (s.live.outletCfg n).cycleDrawTimeout * 1000 ≤ (s.clock - since).toNat) :
    ∃ t, exec (.cycleDrawTimeout n) s = .next t ∧
      t.ctl = timeoutEvent s.env n .drawTimeout .drawTimeout s.ctl := by
  obtain ⟨t, ran, after⟩ := event_onCtl (cycleDrawTimeoutEvent n) released
  exact ⟨t, ran, after.trans (if_pos (timerDue_of_running running passed))⟩

end

/-- Settles O44: the expiries end in the timeout stop, a record is its weighing and the reaction of
the state, and a cycle start runs through its checks. -/
theorem cycleTimersStopOrder : Obligations.CycleTimersStopOrder := by
  unfold Obligations.CycleTimersStopOrder
  refine ⟨?expiries, outletRecord_weighs, outletRecord_moves, ?starts, ?values⟩
  case expiries =>
    intro s n since released o cfg ran stopped closed
    have drawing (h : o.state = .opening ∨ o.state = .flowing) : o.state.drawing = true := by
      rcases h with h | h <;> rw [h] <;> rfl
    refine ⟨fun opening timer passed => ?_, fun flowing timer passed => ?_,
      fun flowing timer passed => ?_⟩
    · obtain ⟨t, steps, after⟩ := exec_openTimeout released timer passed
      obtain ⟨outlet, demand⟩ := timeoutEvent_outlet (e := s.env) .gateNoOpen .gateNoOpen
        (drawing (.inl opening))
      exact ⟨t, steps, by simp only [closed, after]; exact demand, by rw [after]; exact outlet⟩
    · obtain ⟨t, steps, after⟩ := exec_flowStartTimeout released timer passed
      obtain ⟨outlet, demand⟩ := noFlowTimeout_outlet (e := s.env) (drawing (.inr flowing))
      exact ⟨t, steps, by simp only [closed, after]; exact demand, by rw [after]; exact outlet⟩
    · obtain ⟨t, steps, after⟩ := exec_cycleDrawTimeout released timer passed
      obtain ⟨outlet, demand⟩ := timeoutEvent_outlet (e := s.env) .drawTimeout .drawTimeout
        (drawing (.inr flowing))
      exact ⟨t, steps, by simp only [closed, after]; exact demand, by rw [after]; exact outlet⟩
  case starts =>
    intro e n x c recorded
    exact cycleStart_outlet recorded
  case values =>
    intro e n since c o
    refine ⟨fun flowing waits => flowBegins_flowing flowing waits, fun drawing _ free => ?_⟩
    exact receiverLost_outlet (by rcases drawing with h | h <;> rw [h] <;> rfl) free

end Sys2Proof.Machine
end

section
/-! Proofs: the pass events FULL, CUSHION, HANGUP and LOCKOUT at one member (R9, R14, R115, R124, R137). -/

namespace Sys2Proof.Machine

/-! ### What a delivery does before the members that wait are re-judged -/

/-- Section 1.9, log 41: the stops, withdrawals and parkings of a delivery, in their order. -/
def staged (e : Env) (p : Fin 4) (news : News) (c : Ctl) : Ctl :=
  deliver e p { news with touched := false } c

section
variable (e : Env) (p : Fin 4) (news : News) (c : Ctl)

theorem deliver_staged : deliver e p news c =
    if news.touched then settle e p (staged e p news c) else staged e p news c := rfl

theorem staged_passSide : PassSide c (staged e p news c) := deliver_passSide ..

/-- The events that reach outlets, on an outlet and its slot. -/
def stagedView (now : Clock) (news : News) (v : Outlet × CommandSlot) : Outlet × CommandSlot :=
  let v1 :=
    if news.cushion = true ∧ v.1.state.drawing = true ∧ v.1.grantHeld = false then
      stoppedView now .cushion v
    else v
  let v2 := if news.hangup then stoppedView now .hangup v1 else v1
  if news.lockout then stoppedView now .lockout v2 else v2

theorem staged_outletView {n : Fin 8} (hn : n ∈ e.live.outletsOf p) :
    outletView n (staged e p news c) = stagedView e.clock news (outletView n c) := by
  unfold staged deliver
  extract_lets c1 c2 c3 c4
  have first : outletView n c1 = outletView n c := by
    simp only [c1]
    split
    · exact closeTips_outletView ..
    · rfl
  obtain ⟨outlet, -⟩ := outletView_eq.1 first
  have second : outletView n c2 =
      if news.cushion = true ∧ (c.outlet n).state.drawing = true ∧ (c.outlet n).grantHeld = false then
        stoppedView e.clock .cushion (outletView n c)
      else outletView n c := by
    cases hc : news.cushion with
    | true => simp only [c2, hc, if_true, true_and, stopForCushion_view e hn, first, outlet]
    | false => simpa [c2, hc] using first
  have third : outletView n c3 =
      if news.hangup then stoppedView e.clock .hangup (outletView n c2) else outletView n c2 := by
    simp only [c3]
    split
    · rw [closeTips_outletView, stopOutlets_view e hn]
    · rfl
  have fourth : outletView n c4 =
      if news.lockout then stoppedView e.clock .lockout (outletView n c3) else outletView n c3 := by
    simp only [c4]
    split
    · rw [parkTips_outletView, closeTips_outletView, stopOutlets_view e hn]
    · rfl
  rw [if_neg nofun, fourth, third, second]
  rfl

/-- The events that reach tip points, FULL among them, on a tip point and its slot. -/
theorem staged_tipView_full {t : Fin 12} (ht : t ∈ e.live.tipsOf p) (full : news.full = true) :
    tipView t (staged e p news c) =
      if news.lockout then parkedView e t (withdrawnView (tipView t c))
      else withdrawnView (tipView t c) := by
  have again (v : Tip × CommandSlot) : withdrawnView (withdrawnView v) = withdrawnView v := by
    by_cases opened : v.1.state = .opened <;> simp [withdrawnView, opened]
  unfold staged deliver
  extract_lets c1 c2 c3 c4
  have first : tipView t c1 = withdrawnView (tipView t c) := by
    simp only [c1, full, if_true]
    exact closeTips_view e ht c
  have second : tipView t c2 = tipView t c1 := by
    simp only [c2]
    split
    · exact stopForCushion_tipView ..
    · rfl
  have third : tipView t c3 = withdrawnView (tipView t c) := by
    simp only [c3]
    split
    · rw [closeTips_view e ht, stopOutlets_tipView, second, first, again]
    · rw [second, first]
  rw [if_neg nofun]
  simp only [c4]
  split
  · rw [parkTips_view e ht, closeTips_view e ht, stopOutlets_tipView, third, again]
  · exact third

end

/-! ### FULL at a tip point (R137) -/

theorem withdrawnView_closed {v : Tip × CommandSlot} (opened : v.1.state = .opened) :
    withdrawnView v =
      ({ v.1 with state := .closed, remaining := 0 }, v.2.putDemand 0 v.2.lastTag) := if_pos opened

theorem withdrawnView_not_opened (v : Tip × CommandSlot) : (withdrawnView v).1.state ≠ .opened := by
  unfold withdrawnView
  split
  · exact nofun
  · next other => exact other

theorem parkedView_not_opened (e : Env) (t : Fin 12) {v : Tip × CommandSlot} (h : v.1.state ≠ .opened) :
    (parkedView e t v).1.state ≠ .opened := by
  unfold parkedView enterParking
  repeat' split
  · exact nofun
  · exact nofun
  · exact h

section
variable {e : Env} {p : Fin 4} {news : News} {c : Ctl} {t : Fin 12}

theorem staged_full (ht : t ∈ e.live.tipsOf p) (full : news.full = true) :
    ((staged e p news c).tip t).state ≠ .opened ∧
    ((c.tip t).state = .opened →
      tipView t (staged e p news c) =
        ({ c.tip t with state := .closed, remaining := 0 },
          (c.slot (tipSlot t)).putDemand 0 (c.slot (tipSlot t)).lastTag)) := by
  have view := staged_tipView_full e p news c ht full
  have shut : (withdrawnView (tipView t c)).1.state ≠ .opened := withdrawnView_not_opened _
  refine ⟨fun opened => ?_, fun opened => ?_⟩
  · have state : (tipView t (staged e p news c)).1.state = .opened := opened
    rw [view] at state
    split at state
    · exact parkedView_not_opened e t shut state
    · exact shut state
  · rw [view, withdrawnView_closed opened]
    split
    · exact if_neg nofun
    · rfl

/-- R124, R137: FULL at a tip point of the pass. -/
theorem deliver_full (ht : t ∈ e.live.tipsOf p) (full : news.full = true)
    (cls : (c.pass p).cls = .full) :
    let y := deliver e p news c
    (y.tip t).state ≠ .opened ∧
    ((c.tip t).state = .opened →
      y.tip t = { c.tip t with state := .closed, remaining := 0 } ∧
      (y.slot (tipSlot t)).wb.demand = some (joinWord (c.slot (tipSlot t)).lastTag 0)) ∧
    (news.touched = true → (y.slot (tipSlot t)).holder = none) := by
  intro y
  obtain ⟨shut, withdrawn⟩ := staged_full (c := c) ht full
  have refusing : PermitRefusing ((staged e p news c).pass p) :=
    .inr (by rw [(staged_passSide e p news c).passes p]; exact cls)
  obtain ⟨tip, emptied, demand⟩ := settle_permitRefusing ht refusing
  have result : y = _ := deliver_staged e p news c
  cases touched : news.touched with
  | false =>
    rw [touched, if_neg nofun] at result
    refine ⟨result ▸ shut, fun opened => ?_, nofun⟩
    obtain ⟨tip', slot'⟩ := Prod.mk.inj (withdrawn opened)
    rw [result]
    exact ⟨tip', by rw [slot']; rfl⟩
  | true =>
    rw [touched, if_pos rfl] at result
    rw [result, tip, demand]
    refine ⟨shut, fun opened => ?_, fun _ => emptied⟩
    obtain ⟨tip', slot'⟩ := Prod.mk.inj (withdrawn opened)
    exact ⟨tip', by rw [slot']; rfl⟩

end

/-! ### CUSHION at an outlet (R9, R107, R115) -/

/-- R114: an outlet whose order does not run is left by a stop. -/
theorem stoppedView_inactive (now : Clock) (r : EndReason) {v : Outlet × CommandSlot}
    (inactive : v.1.state.active = false) : stoppedView now r v = v := by
  have notDrawing : v.1.state.drawing = false := by
    cases h : v.1.state.drawing with
    | false => rfl
    | true => exact absurd (active_of_drawing h) (by simp [inactive])
  simp [stoppedView, stoppedOutlet, inactive, notDrawing]

section
variable {now : Clock} {news : News} {v : Outlet × CommandSlot}

theorem stoppedView_drawing (r : EndReason) (drawing : v.1.state.drawing = true) :
    stoppedView now r v =
      ({ v.1 with
          state := .stopping, stopReason := some r, startPending := false
          timer := some (.close, now) },
        v.2.putDemand 0 v.2.lastTag) := by
  have notClosing : v.1.state ≠ .closing := fun h => by simp [h, OutletState.drawing] at drawing
  simp [stoppedView, stoppedOutlet, active_of_drawing drawing, notClosing, drawing]

/-- Log 41: CUSHION comes first, and what it has stopped HANGUP and LOCKOUT leave. -/
theorem stagedView_cushion (cushion : news.cushion = true) (drawing : v.1.state.drawing = true)
    (without : v.1.grantHeld = false) :
    stagedView now news v =
      ({ v.1 with
          state := .stopping, stopReason := some .cushion, startPending := false
          timer := some (.close, now) },
        v.2.putDemand 0 v.2.lastTag) := by
  have stopped := stoppedView_drawing (now := now) .cushion drawing
  have left (r : EndReason) : stoppedView now r (stoppedView now .cushion v) =
      stoppedView now .cushion v := stoppedView_inactive now r (by rw [stopped]; rfl)
  have stops : news.cushion = true ∧ v.1.state.drawing = true ∧ v.1.grantHeld = false :=
    ⟨cushion, drawing, without⟩
  rw [← stopped]
  simp only [stagedView, if_pos stops, left, ite_self]

/-- The outlets that CUSHION leaves, where it comes alone. -/
theorem stagedView_alone (left : v.1.state.drawing = false ∨ v.1.grantHeld = true)
    (hangup : news.hangup = false) (lockout : news.lockout = false) : stagedView now news v = v := by
  have notStopped : ¬(news.cushion = true ∧ v.1.state.drawing = true ∧ v.1.grantHeld = false) := by
    rintro ⟨-, drawing, without⟩
    rcases left with h | h
    · simp [h] at drawing
    · simp [h] at without
  simp [stagedView, hangup, lockout, if_neg notStopped]

theorem stagedView_induct {P : Outlet × CommandSlot → Prop} (hv : P v)
    (stops : ∀ r w, P w → P (stoppedView now r w)) : P (stagedView now news v) := by
  unfold stagedView
  extract_lets v1 v2
  have first : P v1 := by simp only [v1]; split; exact stops _ _ hv; exact hv
  have second : P v2 := by simp only [v2]; split; exact stops _ _ first; exact first
  split
  · exact stops _ _ second
  · exact second

/-- What the events leave of an outlet where no cycle start waits, and of its deferred DRAW. -/
theorem stagedView_waiting (idle : v.1.startPending = false) :
    let w := stagedView now news v
    w.1.startPending = false ∧ w.2.holder = v.2.holder ∧ w.1.lastRecord = v.1.lastRecord ∧
    (v.1.state ≠ .fault → w.1.state ≠ .fault) := by
  refine stagedView_induct (P := fun w => w.1.startPending = false ∧ w.2.holder = v.2.holder ∧
    w.1.lastRecord = v.1.lastRecord ∧ (v.1.state ≠ .fault → w.1.state ≠ .fault))
    ⟨idle, rfl, rfl, id⟩ fun r w ⟨idle, holder, record, sound⟩ => ?_
  have slot : (stoppedView now r w).2.holder = w.2.holder := stoppedView_holder now r w
  cases active : w.1.state.active with
  | false => rw [stoppedView_inactive now r active]; exact ⟨idle, holder, record, sound⟩
  | true =>
    refine ⟨?_, slot.trans holder, ?_, fun _ => ?_⟩ <;>
      simp only [stoppedView, stoppedOutlet, active, if_true]
    · exact record
    · exact nofun

end

section
variable {e : Env} {p : Fin 4} {news : News} {c : Ctl} {n : Fin 8}

theorem staged_drawRefusing {k : PassCfg} (h : DrawRefusing k (c.pass p)) :
    DrawRefusing k ((staged e p news c).pass p) := by
  have side := staged_passSide e p news c
  have record := side.passes p
  have state : ((staged e p news c).pass p).state = (c.pass p).state := by rw [record]
  have below : ((staged e p news c).pass p).belowCushion k = (c.pass p).belowCushion k := by
    rw [record]; rfl
  refine h.imp state.trans (Or.imp state.trans fun ⟨low, without⟩ => ⟨below.trans low, ?_⟩)
  cases hg : ((staged e p news c).pass p).grant with
  | false => rfl
  | true => exact absurd (side.grants p hg) (by simp [without])

/-- R9, R115: CUSHION stops an outlet in OPENING or FLOWING without the grant. -/
theorem deliver_cushion_stops (hn : n ∈ e.live.outletsOf p) (cushion : news.cushion = true)
    (drawing : (c.outlet n).state.drawing = true) (without : (c.outlet n).grantHeld = false) :
    let y := deliver e p news c
    y.outlet n =
      { c.outlet n with
        state := .stopping, stopReason := some .cushion, startPending := false
        timer := some (.close, e.clock) } ∧
    (y.slot (outletSlot n)).wb.demand = some (joinWord (c.slot (outletSlot n)).lastTag 0) := by
  intro y
  have view := (staged_outletView e p news c hn).trans (stagedView_cushion cushion drawing without)
  obtain ⟨outlet, slot⟩ := Prod.mk.inj view
  have demand : ((staged e p news c).slot (outletSlot n)).wb.demand =
      some (joinWord (c.slot (outletSlot n)).lastTag 0) := by rw [slot]; rfl
  have result : y = _ := deliver_staged e p news c
  cases touched : news.touched with
  | false =>
    rw [touched, if_neg nofun] at result
    rw [result]
    exact ⟨outlet, demand⟩
  | true =>
    rw [touched, if_pos rfl] at result
    have kept := settleOutlets_busy (e := e) (p := p) (c := staged e p news c) (n := n)
      (by rw [outlet]; exact nofun) (by rw [outlet])
    obtain ⟨outlet', slot'⟩ := outletView_eq.1 (settle_outletView (e := e) (p := p)
      (c := staged e p news c) n)
    rw [result, outlet', slot']
    exact ⟨kept.1.trans outlet, kept.2.trans demand⟩

/-- The outlets that CUSHION leaves: those outside OPENING and FLOWING, and those with the grant. -/
theorem deliver_cushion_leaves (hn : n ∈ e.live.outletsOf p)
    (left : (c.outlet n).state.drawing = false ∨ (c.outlet n).grantHeld = true)
    (idle : c.waits n = false) (hangup : news.hangup = false) (lockout : news.lockout = false) :
    (deliver e p news c).outlet n = c.outlet n := by
  have view : outletView n (staged e p news c) = outletView n c :=
    (staged_outletView e p news c hn).trans (stagedView_alone left hangup lockout)
  rw [deliver_staged]
  split
  · exact (outletView_eq.1 (settle_idle ((waits_congr view).trans idle))).1.trans
      (outletView_eq.1 view).1
  · exact (outletView_eq.1 view).1

/-- R44, R97: below the cushion without the grant a deferred DRAW is refused. -/
theorem deliver_cushion_refuses (hn : n ∈ e.live.outletsOf p) (touched : news.touched = true)
    (below : (c.pass p).belowCushion (e.passCfg p) = true) (without : (c.pass p).grant = false)
    (idle : (c.outlet n).startPending = false) {d : Deferred}
    (held : (c.slot (outletSlot n)).holder = some d) :
    let y := deliver e p news c
    (y.slot (outletSlot n)).holder = none ∧
    (y.slot (outletSlot n)).wb.verdict = some (joinWord d.commit.tag 4) ∧
    ((c.pass p).state = .running → (c.outlet n).state ≠ .fault → e.outletFresh n = true →
      (c.outlet n).lastRecord ≠ none →
      (y.slot (outletSlot n)).wb.detail = some (joinWord 0 Reason.cushion.code)) := by
  intro y
  set b := staged e p news c with hb
  have view : outletView n b = stagedView e.clock news (outletView n c) :=
    staged_outletView e p news c hn
  obtain ⟨pending, holder, record, sound⟩ :=
    stagedView_waiting (now := e.clock) (news := news) (v := outletView n c) idle
  rw [← view] at pending holder record sound
  obtain ⟨x, reason, kept, outlet, fails, slot⟩ := settle_refused (c := b) hn
    (staged_drawRefusing (.inr (.inr ⟨below, without⟩))) pending (holder.trans held)
  have result : y = settle e p b := (deliver_staged e p news c).trans (if_pos touched)
  rw [result, slot]
  refine ⟨rfl, rfl, fun running notFault fresh recorded => ?_⟩
  have refusing := kept.drawRefusing (staged_drawRefusing (e := e) (news := news)
    (.inr (.inr ⟨below, without⟩) : DrawRefusing (e.passCfg p) (c.pass p)))
  have state : (x.pass p).state = .running := by
    rw [(kept p).1, hb, (staged_passSide e p news c).passes p]; exact running
  obtain ⟨low, free⟩ := (refusing.resolve_left (by rw [state]; exact nofun)).resolve_left
    (by rw [state]; exact nofun)
  have cushion : drawCheck e n d.commit x = .refuse .cushion := by
    refine drawCheck_cushion d.commit ?_ ?_ ?_ ?_ fresh ?_
    · rw [outletCfg_pass (e := e) hn]; exact low
    · rw [outletCfg_pass (e := e) hn]; exact free
    · rw [outletCfg_pass (e := e) hn]; exact state
    · rw [outlet]; exact sound notFault
    · rw [outlet]; exact fun none => recorded (record.symm.trans none)
  rw [Judgement.refuse.inj (fails.symm.trans cushion)]
  rfl

/-- R107: below the cushion without the grant a cycle start that waits ends the order. -/
theorem deliver_cushion_ends (hn : n ∈ e.live.outletsOf p) (touched : news.touched = true)
    (hangup : news.hangup = false) (lockout : news.lockout = false)
    (below : (c.pass p).belowCushion (e.passCfg p) = true) (without : (c.pass p).grant = false)
    (running : (c.pass p).state = .running) (waits : (c.outlet n).startPending = true)
    (notDrawing : (c.outlet n).state.drawing = false) (free : (c.outlet n).grantHeld = false) :
    ((deliver e p news c).outlet n).state = .idle ∧
    ((deliver e p news c).outlet n).stopReason = some .cushion := by
  set b := staged e p news c with hb
  have view : outletView n b = outletView n c :=
    (staged_outletView e p news c hn).trans (stagedView_alone (.inl notDrawing) hangup lockout)
  have pass := outletCfg_pass (e := e) hn
  have refusing : DrawRefusing (e.passCfg p) (b.pass p) :=
    staged_drawRefusing (.inr (.inr ⟨below, without⟩))
  obtain ⟨x, y, hx, hy, before, between, after⟩ := settleOutlets_visits (c := b) hn
  have outlet : x.outlet n = c.outlet n :=
    (outletView_eq.1 before).1.trans (outletView_eq.1 view).1
  have state : (x.pass p).state = .running := by
    rw [(hx p).1, hb, (staged_passSide e p news c).passes p]; exact running
  obtain ⟨low, taken⟩ := ((hx.drawRefusing refusing).resolve_left (by rw [state]; exact nofun)).resolve_left
    (by rw [state]; exact nofun)
  have ends : cycleStart e n x = endOrder e n .cushion x := by
    obtain ⟨-, -, cushion, -, -⟩ := cycleStart_checks (e := e) (n := n) (c := x)
    rw [pass, outlet] at cushion
    exact cushion state ⟨low, taken, free⟩
  have first := visitOutlet_ends (by rw [outlet]; exact waits) ends
  rw [first] at between
  have ended : y.outlet n = (endOrder e n .cushion x).outlet n := (outletView_eq.1 between).1
  rw [endOrder_outlet] at ended
  have second := visitOutlet_refusing (e := e) (n := n) (c := y)
    (by rw [pass]; exact hy.drawRefusing refusing) (by rw [ended])
  have result : deliver e p news c = settle e p b :=
    (deliver_staged e p news c).trans (if_pos touched)
  have final : (deliver e p news c).outlet n = y.outlet n := by
    rw [result, (outletView_eq.1 (settle_outletView (e := e) (p := p) (c := b) n)).1,
      (outletView_eq.1 after).1, second.1]
  rw [final, ended]
  exact ⟨rfl, rfl⟩

end

end Sys2Proof.Machine
end

section
/-! Proofs: O41, the pass events at outlets and tip points. -/

namespace Sys2Proof.Machine

/-! ### Chute no-flow reports that wait (R13, log 28) -/

/-- The queues of chute no-flow reports are as before. -/
def SameQueues (c d : Ctl) : Prop := ∀ n, (d.outlet n).noFlowReports = (c.outlet n).noFlowReports

section
variable {e : Env} {p : Fin 4} {n : Fin 8} {c d : Ctl}

/-- An operation at one outlet keeps the queues where it keeps the queue of that outlet. -/
theorem AtOutlet.queues (h : AtOutlet n c d)
    (own : (d.outlet n).noFlowReports = (c.outlet n).noFlowReports) : SameQueues c d := fun m => by
  by_cases hm : m = n
  · subst hm; exact own
  · rw [h.outlets m hm]

theorem SameQueues.trans {x : Ctl} (h : SameQueues c d) (g : SameQueues d x) : SameQueues c x :=
  fun n => (g n).trans (h n)

theorem SameQueues.of_outlets (h : d.outlets = c.outlets) : SameQueues c d := fun n => by
  rw [Ctl.outlet_congr h]

theorem stopOutlet_queues (r : EndReason) : SameQueues c (stopOutlet e n r c) :=
  (AtOutlet.refl.stopOutlet r).queues <| by
    rw [stopOutlet_outlet_same, stoppedOutlet]
    split <;> rfl

theorem cycleStart_queue :
    ((cycleStart e n c).outlet n).noFlowReports = (c.outlet n).noFlowReports := by
  have ended (r : EndReason) :
      ((endOrder e n r c).outlet n).noFlowReports = (c.outlet n).noFlowReports := by
    rw [endOrder_outlet]
  simp only [cycleStart]
  repeat' split
  · exact ended _
  · exact ended _
  · exact ended _
  · rw [Ctl.outlet_setOutlet_same]
  · simp [beginCycle]

theorem takeGrant_outlet (p : Fin 4) (n : Fin 8) (c : Ctl) :
    (takeGrant p c).1.outlet n = c.outlet n := by
  simp only [takeGrant]
  split <;> rfl

theorem rejudgeDraw_queue :
    ((rejudgeDraw e n c).outlet n).noFlowReports = (c.outlet n).noFlowReports := by
  unfold rejudgeDraw
  split
  · rfl
  · split
    · simp only [executeDraw, startOrder, Ctl.accept, Ctl.updSlot_outlet, Ctl.outlet_setOutlet_same,
        takeGrant_outlet]
      rfl
    · rfl
    · unfold Ctl.keepDeferred; split <;> rfl

theorem visitOutlet_queues : SameQueues c (visitOutlet e c n) :=
  AtOutlet.refl.visitOutlet.queues <| by
    unfold visitOutlet
    split
    · exact cycleStart_queue
    · exact rejudgeDraw_queue

theorem settle_queues : SameQueues c (settle e p c) := by
  have visits (ns : List (Fin 8)) (b : Ctl) (hb : SameQueues c b) :
      SameQueues c (ns.foldl (visitOutlet e) b) :=
    foldl_keeps (Q := SameQueues c) (fun _ _ h => h.trans visitOutlet_queues) _ _ hb
  have drawn (ns : List (Fin 8)) : SameQueues c (drawOrder c ns) := by
    unfold drawOrder
    split
    · exact .of_outlets rfl
    · exact .of_outlets rfl
  have outlets : SameQueues c (settleOutlets e p c) := visits _ _ (visits _ _ (drawn _))
  exact foldl_keeps (Q := SameQueues c)
    (fun _ _ h => h.trans (.of_outlets AtTip.refl.rejudgePermit.outlets)) _ _ outlets

end

/-! ### HANGUP by a chute no-flow report (R13, R14) -/

/-- R14: a HANGUP reaches the members as the stop of all orders and the closing of the tip points. -/
theorem withNews_hangup (e : Env) (p : Fin 4) (k : HangCause) (c : Ctl) :
    withNews e p (enterHangup e p k) c =
      settle e p (closeTips e p (stopOutlets e p .hangup (enterHangup e p k c).1)) := rfl

section
variable {e : Env} {p : Fin 4} {k : HangCause} {c : Ctl}

theorem withNews_hangup_queues : SameQueues c (withNews e p (enterHangup e p k) c) := by
  rw [withNews_hangup]
  have entered : SameQueues c (enterHangup e p k c).1 := .of_outlets (enterHangup_atPass ..).outlets
  have stopped : SameQueues c (stopOutlets e p .hangup (enterHangup e p k c).1) :=
    foldl_keeps (Q := SameQueues c) (fun _ _ h => h.trans (stopOutlet_queues _)) _ _ entered
  exact (stopped.trans (.of_outlets (closeTips_outlets ..))).trans settle_queues

/-- R14: the pass after its entry into HANGUP. -/
theorem withNews_hangup_pass :
    ((withNews e p (enterHangup e p k) c).pass p).state = .hangup ∧
    ((withNews e p (enterHangup e p k) c).pass p).cause = k := by
  have record := (withNews_passSide e p (enterHangup e p k) c).passes p
  rw [enterHangup_pass] at record
  rw [record]
  exact ⟨rfl, rfl⟩

/-- R14, R115, R137: the members after an entry into HANGUP. -/
theorem withNews_hangup_hung : Hung e.live p (withNews e p (enterHangup e p k) c) := by
  rw [withNews_hangup]
  set x := (enterHangup e p k c).1 with hx
  have hung : (x.pass p).state = .hangup := by rw [hx, enterHangup_pass]
  have side : PassSide x (closeTips e p (stopOutlets e p .hangup x)) :=
    (passSide_closed e.live x).closeTips ((passSide_closed e.live x).stopOutlets (.refl x))
  exact ((hung_closed e.live p).settle ⟨hung_of_hangup e p .hangup x, by
    rw [side.passes p]; simp [hung]⟩).1

/-- R115: the reason with which HANGUP stops a running order. -/
theorem withNews_hangup_reason {n : Fin 8} (hn : n ∈ e.live.outletsOf p)
    (active : (c.outlet n).state.active = true) :
    ((withNews e p (enterHangup e p k) c).outlet n).stopReason = some .hangup := by
  rw [withNews_hangup]
  set x := (enterHangup e p k c).1 with hx
  set y := closeTips e p (stopOutlets e p .hangup x) with hy
  have side : PassSide x y :=
    (passSide_closed e.live x).closeTips ((passSide_closed e.live x).stopOutlets (.refl x))
  have hung : (y.pass p).state = .hangup := by rw [side.passes p, hx, enterHangup_pass]
  have before : x.outlet n = c.outlet n := Ctl.outlet_congr (enterHangup_atPass ..).outlets n
  have view : outletView n y = stoppedView e.clock .hangup (outletView n x) := by
    rw [hy, closeTips_outletView, stopOutlets_view e hn]
  have outlet : y.outlet n = stoppedOutlet e.clock .hangup (c.outlet n) :=
    (congrArg Prod.fst view).trans (congrArg (stoppedOutlet e.clock .hangup) before)
  rw [stoppedOutlet, if_pos active] at outlet
  rw [(settle_refusing hn (.inr (.inl hung)) (by rw [outlet])).1, outlet]

end

/-- R13: the oldest report of an outlet is taken from its queue. -/
def reportTaken (n : Fin 8) (rest : List (Fin 4)) (c : Ctl) : Ctl :=
  c.setOutlet n { c.outlet n with noFlowReports := rest }

theorem takeNoFlow_eq {e : Env} {n : Fin 8} {c : Ctl} {p : Fin 4} {rest : List (Fin 4)}
    (queue : (c.outlet n).noFlowReports = p :: rest) :
    takeNoFlow e n c =
      if (c.pass p).state = .running then
        withNews e p (enterHangup e p .chuteNoFlow) (reportTaken n rest c)
      else reportTaken n rest c := by
  simp only [takeNoFlow, queue, reportTaken]

theorem reportTaken_state (n m : Fin 8) (rest : List (Fin 4)) (c : Ctl) :
    ((reportTaken n rest c).outlet m).state = (c.outlet m).state := by
  rw [reportTaken, Ctl.outlet_setOutlet]
  split
  · next same => rw [same]
  · rfl

/-! ### The events that debits, credits and level reports make (R9) -/

/-- R9: the events of a change of the estimates from `r` to `x`. -/
structure FillNews (k : PassCfg) (r x : Pass) (news : News) : Prop where
  full : news.full = true ↔ x.cls = .full ∧ r.cls ≠ .full
  cushion : news.cushion = true ↔ x.belowCushion k = true ∧ r.belowCushion k = false
  lockout : news.lockout = false
  touched : news.full = true ∨ news.cushion = true ∨ news.hangup = true → news.touched = true

/-- Events that no estimate makes. -/
structure NoFillNews (news : News) : Prop where
  full : news.full = false
  cushion : news.cushion = false
  lockout : news.lockout = false
  touched : news.hangup = true → news.touched = true

theorem noFillNews_touch (b : Bool) : NoFillNews (News.touch b) := ⟨rfl, rfl, rfl, nofun⟩

section
variable {k : PassCfg} {r x y : Pass} {news : News}

theorem FillNews.join {other : News} (h : FillNews k r x news) (g : NoFillNews other) :
    FillNews k r x (news.join other) where
  full := by simp [News.join, g.full, h.full]
  cushion := by simp [News.join, g.cushion, h.cushion]
  lockout := by simp [News.join, g.lockout, h.lockout]
  touched made := by
    simp only [News.join, Bool.or_eq_true, g.full, g.cushion, Bool.false_eq_true, or_false] at made ⊢
    rcases made with full | cushion | hangup | hangup
    · exact .inl (h.touched (.inl full))
    · exact .inl (h.touched (.inr (.inl cushion)))
    · exact .inl (h.touched (.inr (.inr hangup)))
    · exact .inr (g.touched hangup)

theorem FillNews.congr (h : FillNews k r x news) (same : SameEstimates x y) : FillNews k r y news := by
  have below : y.belowCushion k = x.belowCushion k := by
    simp only [Pass.belowCushion, same.cls, same.low]
  exact ⟨by rw [same.cls]; exact h.full, by rw [below]; exact h.cushion, h.lockout, h.touched⟩

end

section
variable (e : Env) (p : Fin 4) (c : Ctl)

/-- R9: an event with these flags is the one of a change from `r` to `x`. -/
theorem fillNews_of_flags (k : PassCfg) (r x : Pass) : FillNews k r x
    { full := x.cls == .full && r.cls != .full
      cushion := x.belowCushion k && !r.belowCushion k
      hangup := false
      lockout := false
      touched := x.cls != r.cls || x.belowCushion k != r.belowCushion k } where
  full := by simp
  cushion := by simp
  lockout := rfl
  touched made := by
    simp only [Bool.and_eq_true, beq_iff_eq, bne_iff_ne, Bool.not_eq_true', Bool.false_eq_true,
      or_false, Bool.or_eq_true] at made ⊢
    rcases made with ⟨now, before⟩ | ⟨now, before⟩
    · exact .inl (by rw [now]; exact Ne.symm before)
    · exact .inr (by rw [now, before]; exact nofun)

theorem stocked_fillNews {v : Nat} {d : Ctl} (hd : d.pass p = { c.pass p with inventory := v }) :
    FillNews (e.passCfg p) (c.pass p) ((c.pass p).stocked (e.passCfg p) e.clock v)
      (if v = (c.pass p).inventory then (d, News.quiet) else recompute e p d).2 := by
  rw [stocked_news e p c hd]
  exact fillNews_of_flags ..

theorem accumulate_news (m : Nat) : NoFillNews (accumulate e p m c).2 := by
  simp only [accumulate]
  repeat' split
  · exact ⟨rfl, rfl, rfl, fun _ => rfl⟩
  · exact noFillNews_touch false
  · exact noFillNews_touch false

theorem loosen_news (m : Nat) : NoFillNews (loosen e p m c).2 := by
  simp only [loosen, endingTest]
  repeat' split
  all_goals exact noFillNews_touch _

theorem debit_fillNews (m : Nat) :
    FillNews (e.passCfg p) (c.pass p) ((debit e p m c).1.pass p) (debit e p m c).2 := by
  have stocked : FillNews (e.passCfg p) (c.pass p) _ (debitInventory e p m c).2 :=
    stocked_fillNews e p c (clamped_pass ..)
  have estimates := (accumulated_estimates (e.passCfg p) m
    ((c.pass p).stocked (e.passCfg p) e.clock ((c.pass p).inventory - m)))
  rw [debit_pass, debit_eq]
  exact (((stocked.join (accumulate_news ..)).join (loosen_news ..)).congr estimates).congr
    (loosenedBy_estimates ..)

theorem credit_fillNews (m : Nat) :
    FillNews (e.passCfg p) (c.pass p) ((credit e p m c).1.pass p) (credit e p m c).2 := by
  rw [credit_pass]
  exact stocked_fillNews e p c (clamped_pass ..)

theorem levelReport_fillNews (fill : Nat) (valid : Bool) :
    FillNews (e.passCfg p) (c.pass p) ((levelReport e p fill valid c).1.pass p)
      (levelReport e p fill valid c).2 := by
  have cls : ((levelTaken e p fill valid c).pass p).cls = (c.pass p).cls := by
    rw [levelTaken_pass, levelled_eq]
  rw [levelReport_eq, recomputeFrom_news, cls]
  exact fillNews_of_flags ..

end

/-- Settles O41: HANGUP by its stages, the news by the parts that make them, FULL and CUSHION by what a
delivery does at one member. -/
theorem chuteNoFlowHangsUpRunningPass : Obligations.ChuteNoFlowHangsUpRunningPass := by
  unfold Obligations.ChuteNoFlowHangsUpRunningPass
  refine ⟨?reports, ?news, ?events⟩
  case reports =>
    intro s n p rest released queue
    obtain ⟨t, ran, after⟩ := event_onCtl (fun e c => takeNoFlow e n c) released
    rw [takeNoFlow_eq queue] at after
    have own : ((reportTaken n rest s.ctl).outlet n).noFlowReports = rest := by
      rw [reportTaken, Ctl.outlet_setOutlet_same]
    refine ⟨t, ran, ?_, fun running => ?_, fun other => ?_⟩
    · rw [after]
      split
      · exact (withNews_hangup_queues n).trans own
      · exact own
    · rw [if_pos running] at after
      rw [after]
      obtain ⟨state, cause⟩ := withNews_hangup_pass (e := s.env) (p := p) (k := .chuteNoFlow)
        (c := reportTaken n rest s.ctl)
      have hung := withNews_hangup_hung (e := s.env) (p := p) (k := .chuteNoFlow)
        (c := reportTaken n rest s.ctl)
      refine ⟨state, cause, fun m hm => ⟨hung.outlets m hm, fun active => ?_⟩, hung.tips⟩
      exact withNews_hangup_reason (e := s.env) hm (by rw [reportTaken_state]; exact active)
    · rw [if_neg other] at after
      rw [after]
      exact ⟨rfl, rfl, fun m hm => Ctl.outlet_setOutlet_other _ _ (Ne.symm hm)⟩
  case news =>
    intro e p m fill valid c below y hy
    have made : FillNews (e.passCfg p) (c.pass p) (y.1.pass p) y.2 := by
      simp only [List.mem_cons, List.not_mem_nil, or_false] at hy
      rcases hy with rfl | rfl | rfl
      · exact debit_fillNews ..
      · exact credit_fillNews ..
      · exact levelReport_fillNews ..
    refine ⟨made.full, made.cushion.trans (and_congr belowCushion_iff ?_), made.lockout, made.touched⟩
    rw [← Bool.not_eq_true]
    exact not_congr belowCushion_iff
  case events =>
    intro e p f c b news y r
    refine ⟨fun full cls t ht => deliver_full ht full cls, fun cushion n hn => ?_⟩
    intro o k alone refusing
    have below (h : refusing) : r.belowCushion (e.passCfg p) = true := by
      obtain ⟨-, known, low, -⟩ := h
      exact belowCushion_iff.2 ⟨known, low⟩
    have without (h : refusing) : r.grant = false := by
      obtain ⟨-, -, -, free⟩ := h
      exact free
    refine ⟨fun drawing free => deliver_cushion_stops hn cushion drawing free,
      fun left idle ⟨hangup, lockout⟩ => deliver_cushion_leaves hn left idle hangup lockout,
      fun d held idle refuses => ?_, fun waits notDrawing free running refuses ⟨hangup, lockout⟩ => ?_⟩
    · exact deliver_cushion_refuses hn refuses.1 (below refuses) (without refuses) idle held
    · exact deliver_cushion_ends hn refuses.1 hangup lockout (below refuses) (without refuses) running
        waits notDrawing free

end Sys2Proof.Machine
end

section
/-! Proofs: a WRITE_CONFIG, its checks and its answers (R160 to R163). -/

namespace Sys2Proof.Machine

/-- R161: the state with this response in transmission. -/
def State.inReply (octets : List Octet) (s : State) : State :=
  { s with link := { s.link with tx := some { octets := withCheck octets, reload := false } } }

section
variable {s : State} {unit : Octet} {payload : List Octet}

/-- R160: a WRITE_CONFIG that is taken is answered by its length, then by the part state. -/
theorem writeConfig_taken (takes : s.takesRequest unit payload) :
    exec (.writeConfig unit payload) s =
      .next (s.withLength unit 3 36 payload
        (State.answerInRun unit 3 (State.answerWriteConfig unit payload))).seek := by
  obtain ⟨released, inFrame, free, fits, notAll, mine⟩ := takes
  have taken : s.takes unit false = true := by
    rw [State.takes, if_neg notAll]
    by_cases run : s.partState = .run <;> simp [run, mine]
  have request (f : State → State) : s.request unit false payload f = f s := by
    simp [State.request, State.inFrame, inFrame, taken, fitsFrame, fits, free]
  show event (State.request unit false payload _) s = _
  simp [event, quiet, released, request]

/-- R162: a wrong length, and a part state in which a WRITE_CONFIG is not judged. -/
theorem writeConfig_outside_run (takes : s.takesRequest unit payload) :
    (payload.length ≠ 36 →
      exec (.writeConfig unit payload) s = .next (s.inReply [unit, 0x83, 5]).seek) ∧
    (payload.length = 36 → s.partState = .starting ∨ s.partState = .safing →
      exec (.writeConfig unit payload) s = .next (s.inReply [unit, 0x83, 4]).seek) ∧
    (payload.length = 36 → s.partState = .unconfigured →
      exec (.writeConfig unit payload) s = .next (s.inReply [unit, 0x83, 6]).seek) := by
  rw [writeConfig_taken takes]
  refine ⟨fun other => ?_, fun length part => ?_, fun length part => ?_⟩
  · rw [State.withLength, if_neg other]; rfl
  · rw [State.withLength, if_pos length, State.answerInRun]
    rcases part with h | h <;> rw [h] <;> rfl
  · rw [State.withLength, if_pos length, State.answerInRun, part]; rfl

theorem writeConfig_run (takes : s.takesRequest unit payload) (run : s.partState = .run)
    (length : payload.length = 36) :
    exec (.writeConfig unit payload) s = .next (s.answerWriteConfig unit payload).seek := by
  rw [writeConfig_taken takes, State.withLength, if_pos length, State.answerInRun, run]

/-- R162: an entry that does not exist. -/
theorem writeConfig_unnamed (takes : s.takesRequest unit payload) (run : s.partState = .run)
    (length : payload.length = 36) (unnamed : namedEntry payload = none) :
    exec (.writeConfig unit payload) s = .next (s.inReply [unit, 0x83, 1]).seek := by
  rw [writeConfig_run takes run length, State.answerWriteConfig, unnamed]; rfl

/-- A WRITE_CONFIG that is judged, with the entry that it names. -/
structure WriteJudged (s : State) (unit : Octet) (payload : List Octet) (kind : EntryKind)
    (i : Nat) : Prop where
  takes : s.takesRequest unit payload
  run : s.partState = .run
  length : payload.length = 36
  named : namedEntry payload = some (kind, i)

variable {kind : EntryKind} {i : Nat}

theorem WriteJudged.changes (h : WriteJudged s unit payload kind i) :
    exec (.writeConfig unit payload) s =
      .next (s.changeEntry unit kind i (entryOfOctets ((payload.drop 2).take 32))
        (payloadWord payload 34)).seek := by
  rw [writeConfig_run h.takes h.run h.length, State.answerWriteConfig, h.named]

/-- R163: the checks of a WRITE_CONFIG in their order. -/
theorem changeEntry_checks (s : State) (unit : Octet) (kind : EntryKind) (i : Nat)
    (entry : RawEntry) (identity : Word) :
    let new := s.live.replace kind i entry
    let x := s.changeEntry unit kind i entry identity
    (s.lockedOut new kind i = false → x = s.inReply [unit, 0x83, 3]) ∧
    (s.lockedOut new kind i = true → s.noneStopping new kind i = false →
      x = s.inReply [unit, 0x83, 4]) ∧
    (s.lockedOut new kind i = true → s.noneStopping new kind i = true →
      s.live.slotsMove new = true → x = s.inReply [unit, 0x83, 2, 6, 0, 0]) ∧
    (s.lockedOut new kind i = true → s.noneStopping new kind i = true →
      s.live.slotsMove new = false →
      (∀ f, new.failure = some f → x = s.inReply ([unit, 0x83, 2] ++ failureOctets f)) ∧
      (new.failure = none → x = (s.applyConfig kind i entry identity).inReply
        [unit, 0x83, 0, lowOctet identity, highOctet identity])) := by
  intro new x
  refine ⟨fun open' => ?_, fun locked stops => ?_, fun locked rests moves => ?_,
    fun locked rests stays => ⟨fun f fails => ?_, fun sound => ?_⟩⟩
  · exact if_pos open'
  · exact (if_neg (by simp [locked, new])).trans (if_pos stops)
  · exact (if_neg (by simp [locked, new])).trans
      ((if_neg (by simp [rests, new])).trans (if_pos moves))
  · refine (if_neg (by simp [locked, new])).trans
      ((if_neg (by simp [rests, new])).trans ((if_neg (by simp [stays, new])).trans ?_))
    rw [show (s.live.replace kind i entry).failure = some f from fails]
    rfl
  · refine (if_neg (by simp [locked, new])).trans
      ((if_neg (by simp [rests, new])).trans ((if_neg (by simp [stays, new])).trans ?_))
    rw [show (s.live.replace kind i entry).failure = none from sound]
    rfl

end

/-- R163: the checks that an accepted WRITE_CONFIG has passed. -/
structure WritePasses (s : State) (kind : EntryKind) (i : Nat) (entry : RawEntry) : Prop where
  locked : s.lockedOut (s.live.replace kind i entry) kind i = true
  rests : s.noneStopping (s.live.replace kind i entry) kind i = true
  stays : s.live.slotsMove (s.live.replace kind i entry) = false
  sound : (s.live.replace kind i entry).failure = none

/-- R164: an accepted WRITE_CONFIG leaves the applied change, its answer apart, and moves the drainer. -/
theorem writeConfig_accepted {s : State} {unit : Octet} {payload : List Octet} {kind : EntryKind}
    {i : Nat} (h : WriteJudged s unit payload kind i)
    (passes : WritePasses s kind i (entryOfOctets ((payload.drop 2).take 32))) :
    let identity := payloadWord payload 34
    let x := s.applyConfig kind i (entryOfOctets ((payload.drop 2).take 32)) identity
    ∃ t, exec (.writeConfig unit payload) s = .next t ∧
      t = { x.inReply [unit, 0x83, 0, lowOctet identity, highOctet identity] with
        drainer := t.drainer } := by
  intro identity x
  obtain ⟨-, -, -, checks⟩ := changeEntry_checks s unit kind i
    (entryOfOctets ((payload.drop 2).take 32)) identity
  obtain ⟨-, accepted⟩ := checks passes.locked passes.rests passes.stays
  rw [h.changes, accepted passes.sound]
  exact ⟨_, rfl, seek_only _⟩

/-- R163: the answers to a WRITE_CONFIG in RUN. -/
theorem writeConfig_answers {s : State} {unit : Octet} {payload : List Octet} {kind : EntryKind}
    {i : Nat} (h : WriteJudged s unit payload kind i) :
    let entry := entryOfOctets ((payload.drop 2).take 32)
    let identity := payloadWord payload 34
    let new := s.live.replace kind i entry
    let go := exec (.writeConfig unit payload) s
    (s.lockedOut new kind i = false → go = .next (s.inReply [unit, 0x83, 3]).seek) ∧
    (s.lockedOut new kind i = true →
      (s.noneStopping new kind i = false → go = .next (s.inReply [unit, 0x83, 4]).seek) ∧
      (s.noneStopping new kind i = true →
        (s.live.slotsMove new = true →
          go = .next (s.inReply [unit, 0x83, 2, 6, 0, 0]).seek) ∧
        (s.live.slotsMove new = false →
          (∀ f, new.failure = some f →
            go = .next (s.inReply ([unit, 0x83, 2] ++ failureOctets f)).seek) ∧
          (new.failure = none → ∃ t, go = .next t ∧ t.live = new ∧ t.identity = identity ∧
            t.partState = .run ∧ t.clock = s.clock ∧ t.mem = s.mem ∧ t.bulk = s.bulk ∧
            t.link = { s.link with
              tx := some
                { octets := withCheck [unit, 0x83, 0, lowOctet identity, highOctet identity]
                  reload := false } })))) := by
  intro entry identity new go
  have changes : go = _ := h.changes
  obtain ⟨open', stops, moves, checks⟩ := changeEntry_checks s unit kind i entry identity
  refine ⟨fun hl => ?_, fun hl => ⟨fun hn => ?_, fun hn => ⟨fun hm => ?_, fun hm => ⟨fun f hf => ?_,
    fun hf => ?_⟩⟩⟩⟩
  · rw [changes, open' hl]
  · rw [changes, stops hl hn]
  · rw [changes, moves hl hn hm]
  · rw [changes, (checks hl hn hm).1 f hf]
  · obtain ⟨t, ran, after⟩ := writeConfig_accepted h ⟨hl, hn, hm, hf⟩
    have only := applyConfig_only kind i entry identity s
    unfold EntryOnly at only
    refine ⟨t, ran, ?_⟩
    rw [after, State.inReply, only]
    exact ⟨rfl, rfl, h.run, rfl, rfl, rfl, rfl⟩

end Sys2Proof.Machine
end

section
/-! Proofs: what an accepted WRITE_CONFIG leaves, block by block (R4, R56, R90, R93, R123, R148, R164). -/

namespace Sys2Proof.Machine

/-! ### The change and its record -/

/-- R164: the state with the new table and identity, before the block takes the change. -/
def State.rewritten (kind : EntryKind) (i : Nat) (entry : RawEntry) (identity : Word) (s : State) :
    State :=
  { s with live := s.live.replace kind i entry, identity := identity }

/-- R164: `t` is `y` with CONFIG_CHANGE requested, the answer to the request and the drainer apart. -/
structure ReportsChange (kind : EntryKind) (i : Nat) (identity : Word) (y t : State) : Prop where
  ctl : t.ctl = y.ctl.report y.env .configChange 255 kind.code i identity.toNat 0
  bases : t.bases = y.bases
  port : t.port = y.port
  mirror : t.mirror = y.mirror
  stationSlots : t.stationSlots = y.stationSlots
  stations : t.stations = y.stations
  quals : t.quals = y.quals

section
variable {s t y : State} {kind : EntryKind} {i : Nat} {entry : RawEntry} {identity : Word}

theorem reportsChange_of_reply {octets : List Octet}
    (h : t = { (s.applyConfig kind i entry identity).inReply octets with drainer := t.drainer }) :
    ReportsChange kind i identity
      ((s.rewritten kind i entry identity).applyEntry s.live kind i) t := by
  constructor <;> rw [h] <;> rfl

theorem ReportsChange.pass (h : ReportsChange kind i identity y t) (p : Fin 4) :
    t.ctl.pass p = y.ctl.pass p := by rw [h.ctl]; simp

theorem ReportsChange.outlet (h : ReportsChange kind i identity y t) (n : Fin 8) :
    t.ctl.outlet n = y.ctl.outlet n := by rw [h.ctl]; simp

theorem ReportsChange.tip (h : ReportsChange kind i identity y t) (n : Fin 12) :
    t.ctl.tip n = y.ctl.tip n := by rw [h.ctl]; simp

theorem ReportsChange.station (h : ReportsChange kind i identity y t) (j : Fin 32) :
    t.station j = y.station j := by simp only [State.station, h.stations]

theorem ReportsChange.qual (h : ReportsChange kind i identity y t) (j : Fin 32) :
    t.qual j = y.qual j := by simp only [State.qual, h.quals]

theorem ReportsChange.qualAt (h : ReportsChange kind i identity y t) (k : Nat) :
    t.env.qualAt k = y.env.qualAt k := by simp only [Env.qualAt, State.env, h.quals]

theorem ReportsChange.stationSlot (h : ReportsChange kind i identity y t) (k : Fin 32) :
    t.stationSlot k = y.stationSlot k := by simp only [State.stationSlot, h.stationSlots]

/-- R141, R142: a request leaves of the journal all but the list and the count of the lost. -/
theorem report_journal_rest (e : Env) (kd : RecordKind) (j a b f g : Nat) (c : Ctl) :
    (c.report e kd j a b f g).journal =
      { c.journal with
        list := (c.report e kd j a b f g).journal.list
        lost := (c.report e kd j a b f g).journal.lost } := by
  unfold Ctl.report Journal.request
  split
  · dsimp only
    split <;> rfl
  · rfl

/-- R141: while the Journal Writer takes requests, the last record of the list is the one last requested. -/
theorem report_last {e : Env} (taking : e.taking = true) (kd : RecordKind) (j a b f g : Nat) (c : Ctl) :
    (c.report e kd j a b f g).journal.list.getLast? = some
      { kind := kd, subject := j, stamp := e.clock, d0 := toWord a, d1 := toWord b, d2 := toWord f
        d3 := toWord g } := by
  unfold Ctl.report Journal.request
  rw [if_pos taking]
  dsimp only
  split <;> simp

theorem applyEntry_taking (old : Live) (kind : EntryKind) (i : Nat) (some : s.bases.isSome = true) :
    (s.applyEntry old kind i).bases.isSome = true := by
  unfold State.applyEntry
  split
  · rw [applyGlobal_only]; rfl
  · split
    · have only := applyPass_only (old.passCfg ⟨i, by assumption⟩) ⟨i, by assumption⟩ s
      unfold QualOnly at only
      rw [only]; exact some
    · exact some
  · split <;> exact some
  · split <;> exact some
  · split
    · have only := applyStation_only (old.stationCfg ⟨i, by assumption⟩) ⟨i, by assumption⟩ s
      unfold RecordOnly at only
      rw [only]; exact some
    · exact some

/-- R164: CONFIG_CHANGE is the last record requested. -/
theorem ReportsChange.last
    (h : ReportsChange kind i identity
      ((s.rewritten kind i entry identity).applyEntry s.live kind i) t)
    (taking : s.bases.isSome = true) :
    t.ctl.journal.list.getLast? = some
      { kind := .configChange, subject := 255, stamp := s.clock, d0 := BitVec.ofNat 16 kind.code
        d1 := BitVec.ofNat 16 i, d2 := identity, d3 := 0 } := by
  have only := applyEntry_only s.live kind i (s.rewritten kind i entry identity)
  unfold EntryOnly at only
  have clock : ((s.rewritten kind i entry identity).applyEntry s.live kind i).env.clock = s.clock := by
    rw [only]; rfl
  rw [h.ctl, report_last (applyEntry_taking (s := s.rewritten kind i entry identity) _ _ _ taking),
    clock]
  simp [toWord]

end

/-! ### GLOBAL (R148) -/

/-- R148: the journal region or its size moves. -/
theorem geometryChanged_iff {old new : GlobalCfg} : geometryChanged old new = true ↔
    old.journalSize ≠ new.journalSize ∨ old.ringBase ≠ new.ringBase ∨
      old.controlBase ≠ new.controlBase := by
  simp [geometryChanged, or_assoc]

theorem applyGlobal_spec (old : GlobalCfg) (s : State) :
    let y := s.applyGlobal old
    let new := s.live.globalCfg
    let moved := old.journalSize ≠ new.journalSize ∨ old.ringBase ≠ new.ringBase ∨
      old.controlBase ≠ new.controlBase
    y.bases = some s.live.regions ∧ y.ctl.journal.serial = s.ctl.journal.serial ∧
    y.ctl.journal.badIndex = s.ctl.journal.badIndex ∧
    (moved → y.ctl.journal.w = 0 ∧ y.ctl.journal.r = 0 ∧
      y.ctl.journal.zeroDue = s.ctl.journal.zeroDue ++ [new.controlBase] ∧
      ∀ x take, s.port = some x → x.purpose = .readIndex take →
        y.port = some { x with purpose := .readIndex false }) ∧
    (¬moved → y.ctl.journal.w = s.ctl.journal.w ∧ y.ctl.journal.r = s.ctl.journal.r ∧
      y.ctl.journal.zeroDue = s.ctl.journal.zeroDue ∧ y.port = s.port) ∧
    y.mirror = if old.mirrorPeriod = new.mirrorPeriod then s.mirror
      else { s.mirror with timer := some s.clock } := by
  intro y new moved
  by_cases changed : geometryChanged old new = true
  · have result : y = if old.mirrorPeriod = new.mirrorPeriod then
        ({ s with bases := some s.live.regions } : State).restartJournal new.controlBase
      else
        { ({ s with bases := some s.live.regions } : State).restartJournal new.controlBase with
          mirror := { s.mirror with timer := some s.clock } } := by
      simp only [y, State.applyGlobal, changed, if_true, new]
      rfl
    have dropped (x : Txn) (take : Bool) (held : s.port = some x) (index : x.purpose = .readIndex take) :
        s.port.map Txn.dropIndex = some { x with purpose := .readIndex false } := by
      rw [held, Option.map_some, Txn.dropIndex, index]
    have isMoved : moved := geometryChanged_iff.1 changed
    rw [result]
    split
    · exact ⟨rfl, rfl, rfl, fun _ => ⟨rfl, rfl, rfl, dropped⟩, fun still => absurd isMoved still, rfl⟩
    · exact ⟨rfl, rfl, rfl, fun _ => ⟨rfl, rfl, rfl, dropped⟩, fun still => absurd isMoved still, rfl⟩
  · have result : y = if old.mirrorPeriod = new.mirrorPeriod then
        ({ s with bases := some s.live.regions } : State)
      else
        { s with
          bases := some s.live.regions, mirror := { s.mirror with timer := some s.clock } } := by
      simp only [y, State.applyGlobal, if_neg changed, new]
    have still : ¬moved := fun isMoved => changed (geometryChanged_iff.2 isMoved)
    rw [result]
    split
    · exact ⟨rfl, rfl, rfl, fun isMoved => absurd isMoved still, fun _ => ⟨rfl, rfl, rfl, rfl⟩, rfl⟩
    · exact ⟨rfl, rfl, rfl, fun isMoved => absurd isMoved still, fun _ => ⟨rfl, rfl, rfl, rfl⟩, rfl⟩

/-! ### PASS (R4) -/

/-- R86: the level fill of a station's filter after a refill, and what the refill leaves. -/
theorem refill_qual (j i : Fin 32) (s : State) : (s.refill j).qual i =
    if j = i then
      { s.qual i with
        level := { (s.qual i).level with
          fill := levelFillOf (s.live.levelPass i) (s.qual i).level.distance } }
    else s.qual i := by
  by_cases same : j = i
  · subst same; rw [if_pos rfl, State.refill]; simp [State.qual, State.setQual]
  · rw [if_neg same, State.refill]
    exact State.qual_setQual_other s _ same

theorem refillAt_eq (j : Fin 32) (s : State) : s.refillAt j.val = s.refill j := by
  simp [State.refillAt, stationIndex, j.isLt]

theorem refillAt_distance (k : Nat) (i : Fin 32) (s : State) :
    ((s.refillAt k).qual i).level.distance = (s.qual i).level.distance := by
  unfold State.refillAt
  split
  · rfl
  · rw [refill_qual]
    split <;> rfl

/-- R86: the filters of the stations that a pass named before and names now are worked again. -/
def refilled (old new : PassCfg) (s : State) : State :=
  let s1 := if old.present then s.refillAt old.levelStation else s
  if new.present then s1.refillAt new.levelStation else s1

theorem applyPass_eq (old : PassCfg) (p : Fin 4) (s : State) : s.applyPass old p =
    if old.present && (s.live.passCfg p).present then
      (refilled old (s.live.passCfg p) s).onCtl (realignPass old p)
    else if old.present || (s.live.passCfg p).present then
      (refilled old (s.live.passCfg p) s).onCtl (restartPass p)
    else refilled old (s.live.passCfg p) s := rfl

theorem refilled_only (old new : PassCfg) (s : State) : QualOnly s (refilled old new s) :=
  refillIf_only _ _ (refillIf_only _ _ (.refl s))

theorem refillAt_ctl (k : Nat) (s : State) : (s.refillAt k).ctl = s.ctl := by
  unfold State.refillAt; split <;> rfl

theorem refillIf_ctl (b : Bool) (k : Nat) (s : State) :
    (if b then s.refillAt k else s).ctl = s.ctl := by
  cases b
  · rfl
  · exact refillAt_ctl k s

theorem refilled_ctl (old new : PassCfg) (s : State) : (refilled old new s).ctl = s.ctl :=
  (refillIf_ctl ..).trans (refillIf_ctl ..)

theorem applyPass_quals (old : PassCfg) (p : Fin 4) (s : State) :
    (s.applyPass old p).quals = (refilled old (s.live.passCfg p) s).quals := by
  rw [applyPass_eq]
  generalize refilled old (s.live.passCfg p) s = x
  split
  · rfl
  · split <;> rfl

theorem refilled_env (old new : PassCfg) (s : State) :
    (refilled old new s).env.live = s.live ∧ (refilled old new s).env.clock = s.clock := by
  have only := refilled_only old new s
  unfold QualOnly at only
  have live := congrArg State.live only
  have clock := congrArg State.clock only
  exact ⟨live, clock⟩

/-- R4: the pass stays configured. -/
theorem applyPass_kept {old : PassCfg} {p : Fin 4} {s : State} (was : old.present = true)
    (is : (s.live.passCfg p).present = true) :
    (s.applyPass old p).ctl =
      realignPass old p (refilled old (s.live.passCfg p) s).env s.ctl := by
  rw [applyPass_eq, was, is, ← refilled_ctl old (s.live.passCfg p) s]
  generalize refilled old (s.live.passCfg p) s = x
  rfl

/-- R4: the pass is now configured, or no longer so. -/
theorem applyPass_restarts {old : PassCfg} {p : Fin 4} {s : State}
    (changed : old.present ≠ (s.live.passCfg p).present) :
    (s.applyPass old p).ctl =
      restartPass p (refilled old (s.live.passCfg p) s).env s.ctl := by
  have one : (old.present && (s.live.passCfg p).present) = false ∧
      (old.present || (s.live.passCfg p).present) = true := by
    revert changed
    cases old.present <;> cases (s.live.passCfg p).present <;> simp
  rw [applyPass_eq, one.1, one.2, ← refilled_ctl old (s.live.passCfg p) s]
  generalize refilled old (s.live.passCfg p) s = x
  rfl

/-- R86: the level fill of the station that the pass names now. -/
theorem refilled_fill {old new : PassCfg} {s : State} {j : Fin 32} (present : new.present = true)
    (named : j.val = new.levelStation) : ((refilled old new s).qual j).level.fill =
      levelFillOf (s.live.levelPass j) (s.qual j).level.distance := by
  unfold refilled
  extract_lets s1
  have live : s1.live = s.live := by
    simp only [s1, State.refillAt]
    repeat' split
    all_goals rfl
  have distance : (s1.qual j).level.distance = (s.qual j).level.distance := by
    simp only [s1]
    split
    · exact refillAt_distance ..
    · rfl
  rw [if_pos present, ← named, refillAt_eq, refill_qual, if_pos rfl, live, distance]

/-- What the later parts of a realignment leave of the record. -/
structure Realigned (r x : Pass) : Prop where
  state : x.state = r.state
  inventory : x.inventory = r.inventory
  levelFill : x.levelFill = r.levelFill
  levelValid : x.levelValid = r.levelValid
  sensorWet : x.sensorWet = r.sensorWet
  reference : x.reference = r.reference
  accumulator : x.accumulator = r.accumulator

section
variable {r x y : Pass}

theorem Realigned.trans (h : Realigned r x) (g : Realigned x y) : Realigned r y :=
  ⟨g.state.trans h.state, g.inventory.trans h.inventory, g.levelFill.trans h.levelFill,
    g.levelValid.trans h.levelValid, g.sensorWet.trans h.sensorWet, g.reference.trans h.reference,
    g.accumulator.trans h.accumulator⟩

theorem Realigned.refl (r : Pass) : Realigned r r := ⟨rfl, rfl, rfl, rfl, rfl, rfl, rfl⟩

theorem realigned_passSide {c d : Ctl} (h : PassSide c d) (p : Fin 4) :
    Realigned (c.pass p) (d.pass p) := by
  rw [h.passes p]; exact ⟨rfl, rfl, rfl, rfl, rfl, rfl, rfl⟩

theorem realigned_recomputed (k : PassCfg) (now : Clock) (r : Pass) :
    Realigned r (r.recomputed k now) := by
  rw [recomputed_fixed]; exact ⟨rfl, rfl, rfl, rfl, rfl, rfl, rfl⟩

theorem realigned_tested (k : PassCfg) (timer : Option Clock) (r : Pass) :
    Realigned r ((r.activated k).tested k timer) := by
  unfold Pass.tested Pass.activated
  repeat' split
  all_goals exact ⟨rfl, rfl, rfl, rfl, rfl, rfl, rfl⟩

end

theorem measureDisagreement_realigned (e : Env) (p : Fin 4) (c : Ctl) :
    Realigned (c.pass p) ((measureDisagreement e p c).pass p) := by
  unfold measureDisagreement
  split
  · rw [disagreementExpires_pass]; exact ⟨rfl, rfl, rfl, rfl, rfl, rfl, rfl⟩
  · exact .refl _

/-- R4, step 1. -/
theorem clampInventory_pass (e : Env) (p : Fin 4) (c : Ctl) : (clampInventory e p c).pass p =
    { c.pass p with inventory := min (e.passCfg p).capacity (c.pass p).inventory } := by
  simp only [clampInventory]
  split
  · next above => simp [Nat.min_eq_left (Nat.le_of_lt above)]
  · next fits => rw [Nat.min_eq_right (Nat.not_lt.1 fits)]

/-- R4: the record of a pass that stays configured. -/
theorem realignPass_realigned (old : PassCfg) (p : Fin 4) (e : Env) (c : Ctl) :
    let k := e.passCfg p
    Realigned
      (({ c.pass p with inventory := min k.capacity (c.pass p).inventory } : Pass).takeStation
        (old.levelStation != k.levelStation) (e.qualAt k.levelStation))
      ((realignPass old p e c).pass p) := by
  intro k
  unfold realignPass
  extract_lets k' wasBelow c1 c2 c3
  have taken : c2.pass p =
      ({ c.pass p with inventory := min k.capacity (c.pass p).inventory } : Pass).takeStation
        (old.levelStation != k.levelStation) (e.qualAt k.levelStation) := by
    rw [Ctl.pass_setPass_same, clampInventory_pass]
  have recomputed : Realigned (c2.pass p) (c3.pass p) := by
    have counted := realigned_recomputed (e.passCfg p) e.clock (c2.pass p)
    rw [← recomputeFrom_pass e p wasBelow c2] at counted
    exact counted.trans (realigned_passSide (withNews_passSide e p (recomputeFrom e p wasBelow) c2) p)
  have tested (d : Ctl) : Realigned (d.pass p) ((withNews e p (wetTests e p) d).pass p) := by
    refine Realigned.trans ?_ (realigned_passSide (withNews_passSide e p (wetTests e p) d) p)
    rw [wetTests_pass]
    exact realigned_tested ..
  rw [← taken]
  exact (recomputed.trans (measureDisagreement_realigned e p c3)).trans (tested _)

/-- R4: a pass that stays configured, after the change of its entry. -/
theorem realignPass_spec (old : PassCfg) (p : Fin 4) (e : Env) (c : Ctl) :
    let k := e.passCfg p
    let q := e.qualAt k.levelStation
    let r := c.pass p
    let r' := (realignPass old p e c).pass p
    r'.state = r.state ∧ r'.inventory = min k.capacity r.inventory ∧
    r'.levelFill = q.level.fill ∧ r'.levelValid = q.level.valid ∧ r'.sensorWet = q.moisture.state ∧
    (old.levelStation ≠ k.levelStation → r'.reference = q.level.fill ∧ r'.accumulator = 0) ∧
    (old.levelStation = k.levelStation →
      r'.reference = r.reference ∧ r'.accumulator = r.accumulator) := by
  intro k q r r'
  obtain ⟨state, inventory, fill, valid, wet, reference, accumulator⟩ :=
    realignPass_realigned old p e c
  by_cases same : old.levelStation = k.levelStation
  · have stays : (old.levelStation != (e.passCfg p).levelStation) = false := by simp [same, k]
    rw [stays] at state inventory fill valid wet reference accumulator
    exact ⟨state, inventory, fill, valid, wet, fun moved => absurd same moved, fun _ =>
      ⟨reference, accumulator⟩⟩
  · have moves : (old.levelStation != (e.passCfg p).levelStation) = true := by simpa using same
    rw [moves] at state inventory fill valid wet reference accumulator
    exact ⟨state, inventory, fill, valid, wet, fun _ => ⟨reference, accumulator⟩, fun stays =>
      absurd stays same⟩

/-! ### OUTLET (R93) -/

theorem applyOutlet_spec (old : OutletCfg) (n : Fin 8) (e : Env) (c : Ctl) :
    let new := e.outletCfg n
    let o := c.outlet n
    let o' := (applyOutlet old n e c).outlet n
    (old.present = true → new.present = true →
      o' = if old.station = new.station then o else { o with lastRecord := none }) ∧
    (old.present ≠ new.present → o' =
      { Outlet.reset with lastFault := o.lastFault, noFlowReports := o.noFlowReports }) := by
  intro new o o'
  refine ⟨fun was is => ?_, fun changed => ?_⟩
  · simp only [o', applyOutlet, was, show (e.outletCfg n).present = true from is, Bool.and_self, if_true]
    split
    · rfl
    · rw [Ctl.outlet_setOutlet_same]
  · have one : (old.present && (e.outletCfg n).present) = false ∧
        (old.present || (e.outletCfg n).present) = true := by
      have changed : old.present ≠ (e.outletCfg n).present := changed
      revert changed
      cases old.present <;> cases (e.outletCfg n).present <;> simp
    simp only [o', applyOutlet, one.1, one.2, Bool.false_eq_true, if_false, if_true,
      Ctl.outlet_setOutlet_same]
    rfl

/-! ### TIP_POINT (R123) -/

/-- R127: a settling of the tip points leaves one in FAULT. -/
theorem settleTips_fault {e : Env} {p : Fin 4} {n : Fin 12} {c : Ctl} (hn : n ∈ e.live.tipsOf p)
    (fault : (c.tip n).state = .fault) : (settleTips e p c).tip n = c.tip n := by
  obtain ⟨b, -, before, after⟩ := settleTips_view (I := fun _ => True) hn
    (fun _ _ _ _ => trivial) c trivial
  obtain ⟨tip, -⟩ := tipView_eq.1 before
  refine (tipView_eq.1 after).1.trans (Eq.trans ?_ tip)
  cases held : (b.slot (tipSlot n)).holder with
  | none => rw [rejudgePermit_none held]
  | some d =>
    have fails : ∃ reason, permitCheck e n b = .refuse reason := by
      unfold permitCheck
      exact refuse_of_ite fun _ => ⟨.tipPointFault, if_pos (by rw [tip]; exact fault)⟩
    obtain ⟨reason, fails⟩ := fails
    exact congrArg Prod.fst (rejudgePermit_refused held fails)

theorem parkDue_iff {e : Env} {n : Fin 12} {c : Ctl} : parkDue e n c = true ↔
    ∃ since, (c.tip n).park = .running since ∧
      (e.tipCfg n).parkTimeout * 1000 ≤ (e.clock - since).toNat := by
  unfold parkDue elapsed
  split <;> simp_all

theorem dropKnown_tip (n : Fin 12) (changed : Bool) (c : Ctl) : (dropKnown n changed c).tip n =
    { c.tip n with known := (c.tip n).known && !changed } := by
  unfold dropKnown
  cases changed <;> simp

/-- R123: a tip point that stays configured, its park timer measured against the new timeout. -/
theorem applyTip_kept {old : TipCfg} {n : Fin 12} {e : Env} {c : Ctl} (was : old.present = true)
    (is : (e.tipCfg n).present = true) :
    let new := e.tipCfg n
    let x := c.tip n
    let known := x.known && old.station == new.station
    (∀ since, old.parkTimeout ≠ new.parkTimeout → x.park = .running since →
      new.parkTimeout * 1000 ≤ (e.clock - since).toNat →
      (applyTip old n e c).tip n = { x with known := known, state := .fault, park := .stopped }) ∧
    (old.parkTimeout = new.parkTimeout ∨ (∀ since, x.park = .running since →
        (e.clock - since).toNat < new.parkTimeout * 1000) →
      (applyTip old n e c).tip n = { x with known := known }) := by
  intro new x known
  set d := dropKnown n (old.station != new.station) c with hd
  have tip : d.tip n = { x with known := known } := by
    rw [hd, dropKnown_tip]
    simp [known, x, bne]
  have result : applyTip old n e c =
      measurePark (old.parkTimeout != new.parkTimeout) e n d := by
    simp only [applyTip, was, is, Bool.and_self, if_true]
    rfl
  rw [result, measurePark]
  refine ⟨fun since changed running passed => ?_, fun stays => ?_⟩
  · have due : parkDue e n d = true := parkDue_iff.2 ⟨since, by rw [tip]; exact running, passed⟩
    have expired : (parkExpires e n d).tip n =
        { x with known := known, state := .fault, park := .stopped } := by
      have parked : (d.tip n).park = .running since := by rw [tip]; exact running
      simp only [parkExpires, parked]
      simp [tip]
    have member : n ∈ e.live.tipsOf (e.tipCfg n).pass := mem_tipsOf.2 ⟨is, rfl⟩
    rw [if_pos (by simp [due, changed]), settleTips_fault member (by rw [expired]), expired]
  · rw [if_neg, tip]
    intro both
    obtain ⟨changed, due⟩ := Bool.and_eq_true_iff.1 both
    obtain ⟨since, running, passed⟩ := parkDue_iff.1 due
    rcases stays with same | early
    · simp [same] at changed
    · rw [tip] at running
      exact absurd (early since running) (Nat.not_lt.2 passed)

theorem applyTip_reset {old : TipCfg} {n : Fin 12} {e : Env} {c : Ctl}
    (changed : old.present ≠ (e.tipCfg n).present) : (applyTip old n e c).tip n = Tip.reset := by
  have one : (old.present && (e.tipCfg n).present) = false ∧
      (old.present || (e.tipCfg n).present) = true := by
    revert changed
    cases old.present <;> cases (e.tipCfg n).present <;> simp
  simp only [applyTip, one.1, one.2, Bool.false_eq_true, if_false, if_true, Ctl.tip_setTip_same]

/-! ### STATION (R56, R57, R90) -/

theorem staleLatch_latch (k : StationCfg) (i : Fin 32) (s : State) :
    ((s.staleLatch k).stationSlot i).latch =
      if k.present = true ∧ Fin.ofNat 32 k.slot = i then some (statusWord .stale .hunt)
      else (s.stationSlot i).latch := by
  unfold State.staleLatch
  by_cases present : k.present = true
  · by_cases same : Fin.ofNat 32 k.slot = i
    · rw [if_pos present, if_pos ⟨present, same⟩, ← same]
      simp [State.putLatch]
    · rw [if_pos present, if_neg fun h => same h.2]
      exact congrArg StationSlot.latch (State.stationSlot_setStationSlot_other s _ same)
  · rw [if_neg present, if_neg fun h => present h.1]

theorem restartStation_spec (old : StationCfg) (j : Fin 32) (s : State) :
    let y := s.restartStation old j
    y.station j = Station.reset ∧ y.qual j = Qualifiers.reset ∧
    (old.present = true →
      (y.stationSlot (Fin.ofNat 32 old.slot)).latch = some (statusWord .stale .hunt)) ∧
    ((s.live.stationCfg j).present = true →
      (y.stationSlot (s.live.slotOf j)).latch = some (statusWord .stale .hunt)) := by
  intro y
  set b := s.setStation j Station.reset with hb
  set x := (b.staleLatch old).staleLatch (s.live.stationCfg j) with hx
  have only := freshnessEvent_only j (s.station j).freshness .config x
  unfold QualOnly at only
  have result : y = (x.freshnessEvent j (s.station j).freshness .config).setQual j
    Qualifiers.reset := rfl
  have slots (k : Fin 32) : y.stationSlot k = x.stationSlot k := by
    rw [result, only]; rfl
  have station (k : StationCfg) (z : State) : (z.staleLatch k).station j = z.station j := by
    unfold State.staleLatch; split <;> rfl
  refine ⟨?_, ?_, fun was => ?_, fun is => ?_⟩
  · rw [result, only]
    show x.station j = _
    rw [hx, station, station, hb]
    simp [State.station, State.setStation]
  · rw [result]
    simp [State.qual, State.setQual]
  · rw [slots, hx, staleLatch_latch, staleLatch_latch, if_pos (And.intro was rfl)]
    exact ite_self _
  · rw [slots, hx, staleLatch_latch, if_pos ⟨is, rfl⟩]

/-- R56: a station that keeps its kind and its slot. -/
theorem applyStation_kept {old : StationCfg} {j : Fin 32} {s : State}
    (was : old.present = true) (is : (s.live.stationCfg j).present = true)
    (kind : old.kind = (s.live.stationCfg j).kind) (slot : old.slot = (s.live.stationCfg j).slot) :
    let new := s.live.stationCfg j
    let y := s.applyStation old j
    (old.lateLimit = new.lateLimit → y.station j = s.station j) ∧
    (∀ since, old.lateLimit ≠ new.lateLimit → (s.station j).late = some since →
      new.lateLimit ≤ (s.clock - since).toNat → y.station j = (s.station j).fallLate) ∧
    (old.parametersChanged new = true → y.qual j = Qualifiers.reset) := by
  intro new y
  set x := if old.lateLimit ≠ new.lateLimit ∧ s.lateDue j = true then s.lateExpires j else s with hx
  have result : y = if old.parametersChanged new then x.resetQualifiers j else x := by
    simp only [y, State.applyStation]
    rw [if_pos ⟨was.trans is.symm, kind, slot⟩, if_pos is]
  have reset (z : State) : (z.resetQualifiers j).station j = z.station j := by
    have only := resetQualifiers_only j z
    unfold QualOnly at only
    rw [only]; rfl
  have station : y.station j = x.station j := by
    rw [result]
    split
    · exact reset x
    · rfl
  refine ⟨fun same => ?_, fun since changed running passed => ?_, fun parameters => ?_⟩
  · rw [station, hx, if_neg fun h => h.1 same]
  · have due : s.lateDue j = true := by
      simp only [State.lateDue, running]
      exact decide_eq_true passed
    rw [station, hx, if_pos ⟨changed, due⟩, State.lateExpires]
    have only := freshnessEvent_only j (s.station j).freshness .late
      ((s.setStation j (s.station j).fallLate).putLatch (s.live.slotOf j) (s.station j).fallLate.status)
    unfold QualOnly at only
    rw [only]
    simp [State.station, State.setStation, State.putLatch, State.setStationSlot]
  · rw [result, if_pos parameters]
    have only := (((((forgetValue_only j .d0 (x.qual j).d0.value (x.setQual j Qualifiers.reset)).trans
      (forgetValue_only j .d1 (x.qual j).d1.value _)).trans
      (forgetValue_only j .d2 (x.qual j).d2.value _)).trans
      (forgetValue_only j .flow (x.qual j).flow.state.qualified _)).trans
      (reportCleared_only j (x.qual j) _))
    unfold CtlOnly at only
    show State.qual (State.reportCleared j (x.qual j) _) j = _
    rw [only]
    simp [State.qual, State.setQual]

end Sys2Proof.Machine
end

section
/-! Proofs: O51, WRITE_CONFIG by its checks and by the block that takes the change. -/

namespace Sys2Proof.Machine

section
variable {s t : State} {i : Nat} {entry : RawEntry} {identity : Word}

/-- R148: GLOBAL, with CONFIG_CHANGE requested after it. -/
theorem global_changed
    (h : ReportsChange .global i identity
      ((s.rewritten .global i entry identity).applyEntry s.live .global i) t) :
    let new := s.live.replace .global i entry
    let g := s.live.globalCfg
    let g' := new.globalCfg
    let moved := g.journalSize ≠ g'.journalSize ∨ g.ringBase ≠ g'.ringBase ∨
      g.controlBase ≠ g'.controlBase
    t.bases = some new.regions ∧ t.ctl.journal.serial = s.ctl.journal.serial ∧
    t.ctl.journal.badIndex = s.ctl.journal.badIndex ∧
    (moved → t.ctl.journal.w = 0 ∧ t.ctl.journal.r = 0 ∧
      t.ctl.journal.zeroDue = s.ctl.journal.zeroDue ++ [g'.controlBase] ∧
      ∀ x take, s.port = some x → x.purpose = .readIndex take →
        t.port = some { x with purpose := .readIndex false }) ∧
    (¬moved → t.ctl.journal.w = s.ctl.journal.w ∧ t.ctl.journal.r = s.ctl.journal.r ∧
      t.ctl.journal.zeroDue = s.ctl.journal.zeroDue ∧ t.port = s.port) ∧
    t.mirror = (if g.mirrorPeriod = g'.mirrorPeriod then s.mirror
      else { s.mirror with timer := some s.clock }) := by
  intro new g g' moved
  obtain ⟨bases, serial, badIndex, restarts, stays, mirror⟩ :=
    applyGlobal_spec g (s.rewritten .global i entry identity)
  have journal := report_journal_rest
    ((s.rewritten .global i entry identity).applyEntry s.live .global i).env .configChange 255
    EntryKind.global.code i identity.toNat 0
    ((s.rewritten .global i entry identity).applyEntry s.live .global i).ctl
  rw [← h.ctl] at journal
  rw [journal, h.bases, h.port, h.mirror]
  exact ⟨bases, serial, badIndex, restarts, stays, mirror⟩

/-- R4: PASS, with CONFIG_CHANGE requested after it. -/
theorem pass_changed {p : Fin 4}
    (h : ReportsChange .pass p.val identity
      ((s.rewritten .pass p.val entry identity).applyEntry s.live .pass p.val) t) :
    let new := s.live.replace .pass p.val entry
    let k := s.live.passCfg p
    let k' := new.passCfg p
    let r := s.ctl.pass p
    let r' := t.ctl.pass p
    let q := t.env.qualAt k'.levelStation
    (k.present = true → k'.present = true →
      r'.state = r.state ∧ r'.inventory = min k'.capacity r.inventory ∧
      r'.levelFill = q.level.fill ∧ r'.levelValid = q.level.valid ∧
      r'.sensorWet = q.moisture.state ∧
      (k.levelStation ≠ k'.levelStation →
        r'.reference = q.level.fill ∧ r'.accumulator = 0) ∧
      (k.levelStation = k'.levelStation →
        r'.reference = r.reference ∧ r'.accumulator = r.accumulator)) ∧
    (k'.present = true → ∀ j : Fin 32, j.val = k'.levelStation →
      (t.qual j).level.fill = levelFillOf (new.levelPass j) (s.qual j).level.distance) ∧
    (k.present ≠ k'.present →
      r' = { Pass.reset with dwellTimer := if k'.present then some s.clock else none }) := by
  intro new k k' r r' q
  set b := s.rewritten .pass p.val entry identity with hb
  have applied : b.applyEntry s.live .pass p.val = b.applyPass k p := dif_pos p.isLt
  rw [applied] at h
  obtain ⟨live, clock⟩ := refilled_env k k' b
  have cfg : (refilled k k' b).env.passCfg p = k' := congrArg (fun l => l.passCfg p) live
  have quals : (b.applyPass k p).quals = (refilled k k' b).quals := applyPass_quals ..
  have sees : q = (refilled k k' b).env.qualAt k'.levelStation := by
    simp only [q, Env.qualAt, State.env, h.quals, quals]
  have record : r' = (b.applyPass k p).ctl.pass p := h.pass p
  refine ⟨fun was is => ?_, fun is j named => ?_, fun changed => ?_⟩
  · have spec := realignPass_spec k p (refilled k k' b).env b.ctl
    rw [cfg] at spec
    rw [applyPass_kept (old := k) (p := p) (s := b) was is] at record
    rw [record, sees]
    exact spec
  · have fill := refilled_fill (old := k) (s := b) is named
    rw [h.qual, State.qual, quals]
    exact fill
  · rw [applyPass_restarts (old := k) (p := p) (s := b) changed] at record
    rw [record]
    show (restartPass p (refilled k k' b).env b.ctl).pass p = _
    rw [restartPass, Ctl.pass_setPass_same, cfg, clock]
    rfl

/-- R93: OUTLET, with CONFIG_CHANGE requested after it. -/
theorem outlet_changed {n : Fin 8}
    (h : ReportsChange .outlet n.val identity
      ((s.rewritten .outlet n.val entry identity).applyEntry s.live .outlet n.val) t) :
    let k := s.live.outletCfg n
    let k' := (s.live.replace .outlet n.val entry).outletCfg n
    let o := s.ctl.outlet n
    (k.present = true → k'.present = true → t.ctl.outlet n =
      if k.station = k'.station then o else { o with lastRecord := none }) ∧
    (k.present ≠ k'.present → t.ctl.outlet n =
      { Outlet.reset with lastFault := o.lastFault, noFlowReports := o.noFlowReports }) := by
  intro k k' o
  set b := s.rewritten .outlet n.val entry identity
  have applied : b.applyEntry s.live .outlet n.val = b.onCtl (applyOutlet k n) := dif_pos n.isLt
  rw [h.outlet, applied]
  exact applyOutlet_spec k n b.env b.ctl

/-- R123: TIP_POINT, with CONFIG_CHANGE requested after it. -/
theorem tip_changed {n : Fin 12}
    (h : ReportsChange .tipPoint n.val identity
      ((s.rewritten .tipPoint n.val entry identity).applyEntry s.live .tipPoint n.val) t) :
    let k := s.live.tipCfg n
    let k' := (s.live.replace .tipPoint n.val entry).tipCfg n
    let x := s.ctl.tip n
    (k.present = true → k'.present = true →
      let known := x.known && k.station == k'.station
      (∀ since, k.parkTimeout ≠ k'.parkTimeout → x.park = .running since →
        k'.parkTimeout * 1000 ≤ (s.clock - since).toNat →
        t.ctl.tip n = { x with known := known, state := .fault, park := .stopped }) ∧
      (k.parkTimeout = k'.parkTimeout ∨ (∀ since, x.park = .running since →
          (s.clock - since).toNat < k'.parkTimeout * 1000) →
        t.ctl.tip n = { x with known := known })) ∧
    (k.present ≠ k'.present → t.ctl.tip n = Tip.reset) := by
  intro k k' x
  set b := s.rewritten .tipPoint n.val entry identity
  have applied : b.applyEntry s.live .tipPoint n.val = b.onCtl (applyTip k n) := dif_pos n.isLt
  rw [h.tip, applied]
  exact ⟨fun was is => applyTip_kept (e := b.env) (c := b.ctl) was is,
    fun changed => applyTip_reset (e := b.env) (c := b.ctl) changed⟩

/-- R56, R57, R90: STATION, with CONFIG_CHANGE requested after it. -/
theorem station_changed {j : Fin 32}
    (h : ReportsChange .station j.val identity
      ((s.rewritten .station j.val entry identity).applyEntry s.live .station j.val) t) :
    let new := s.live.replace .station j.val entry
    let k := s.live.stationCfg j
    let k' := new.stationCfg j
    (k.present ≠ k'.present ∨ k.kind ≠ k'.kind ∨ k.slot ≠ k'.slot →
      t.station j = Station.reset ∧ t.qual j = Qualifiers.reset ∧
      (k.present = true →
        (t.stationSlot (s.live.slotOf j)).latch = some (statusWord .stale .hunt)) ∧
      (k'.present = true →
        (t.stationSlot (new.slotOf j)).latch = some (statusWord .stale .hunt))) ∧
    (k.present = true → k'.present = true → k.kind = k'.kind → k.slot = k'.slot →
      (k.lateLimit = k'.lateLimit → t.station j = s.station j) ∧
      (∀ since, k.lateLimit ≠ k'.lateLimit → (s.station j).late = some since →
        k'.lateLimit ≤ (s.clock - since).toNat →
        t.station j =
          { (s.station j).bump .late 1 with order := .late, held := none, late := none }) ∧
      (k.parametersChanged k' = true → t.qual j = Qualifiers.reset)) := by
  intro new k k'
  set b := s.rewritten .station j.val entry identity
  have applied : b.applyEntry s.live .station j.val = b.applyStation k j := dif_pos j.isLt
  rw [applied] at h
  refine ⟨fun moved => ?_, fun was is kind slot => ?_⟩
  · have restarts : b.applyStation k j = b.restartStation k j := by
      refine if_neg fun same => ?_
      obtain ⟨present, kind, slot⟩ := same
      rcases moved with differ | differ | differ
      · exact differ present
      · exact differ kind
      · exact differ slot
    rw [restarts] at h
    simp only [h.station, h.qual, h.stationSlot]
    exact restartStation_spec k j b
  · rw [h.station, h.qual]
    exact applyStation_kept (s := b) was is kind slot

end

/-- Settles O51: the answers by the checks in their order, an accepted change by its block. -/
theorem writeConfigIsChecked : Obligations.WriteConfigIsChecked := by
  unfold Obligations.WriteConfigIsChecked
  refine ⟨?answers, ?refusals, ?changes⟩
  case answers =>
    intro s unit payload kind i takes run length named
    exact writeConfig_answers ⟨takes, run, length, named⟩
  case refusals =>
    intro s unit payload takes answer go
    obtain ⟨wrong, busy, bare⟩ := writeConfig_outside_run takes
    exact ⟨wrong, fun length => ⟨busy length, bare length, fun run unnamed =>
      writeConfig_unnamed takes run length unnamed⟩⟩
  case changes =>
    intro s unit payload kind i takes run length named new identity locked rests stays sound taking
    obtain ⟨t, ran, after⟩ := writeConfig_accepted ⟨takes, run, length, named⟩
      ⟨locked, rests, stays, sound⟩
    have change := reportsChange_of_reply after
    refine ⟨t, ran, change.last taking, ?_, ?_, ?_, ?_, ?_⟩
    · rintro rfl
      exact global_changed change
    · rintro rfl p rfl
      exact pass_changed change
    · rintro rfl n rfl
      exact outlet_changed change
    · rintro rfl n rfl
      exact tip_changed change
    · rintro rfl j rfl
      exact station_changed change

end Sys2Proof.Machine
end

section
/-! Proofs: a property of the controllers' state that every update keeps, carried through the blocks that hand
on to the controllers, and the bound of the pending list (R144). -/

namespace Sys2Proof.Machine

section
variable {P : Ctl → Prop} (h : AllClosed P) {e : Env}
include h

/-! ### Timers -/

theorem AllClosed.dwellEvent {p : Fin 4} {c : Ctl} (hc : P c) : P (Machine.dwellEvent p e c) := by
  unfold Machine.dwellEvent
  split
  · exact hc
  · exact h.withNews (h.dwellExpires hc)

theorem AllClosed.disagreementEvent {p : Fin 4} {c : Ctl} (hc : P c) :
    P (Machine.disagreementEvent p e c) := keeps_ite (h.disagreementExpires hc) hc

theorem AllClosed.deferralEvent {k : Fin 24} {c : Ctl} (hc : P c) :
    P (Machine.deferralEvent k e c) := by
  unfold Machine.deferralEvent
  repeat' split
  · exact hc
  · exact h.refuseDeferred hc
  · exact hc

theorem AllClosed.openTimeoutEvent {n : Fin 8} {c : Ctl} (hc : P c) :
    P (Machine.openTimeoutEvent n e c) := keeps_ite (h.timeoutEvent hc) hc

theorem AllClosed.flowStartTimeoutEvent {n : Fin 8} {c : Ctl} (hc : P c) :
    P (Machine.flowStartTimeoutEvent n e c) := keeps_ite (h.noFlowTimeout hc) hc

theorem AllClosed.cycleDrawTimeoutEvent {n : Fin 8} {c : Ctl} (hc : P c) :
    P (Machine.cycleDrawTimeoutEvent n e c) := keeps_ite (h.timeoutEvent hc) hc

theorem AllClosed.indexTimeoutEvent {n : Fin 8} {c : Ctl} (hc : P c) :
    P (Machine.indexTimeoutEvent n e c) := keeps_ite (h.endOrder hc) hc

theorem AllClosed.closeTimeoutEvent {n : Fin 8} {c : Ctl} (hc : P c) :
    P (Machine.closeTimeoutEvent n e c) := keeps_ite (h.faultOutlet hc) hc

theorem AllClosed.parkTimeoutEvent {t : Fin 12} {c : Ctl} (hc : P c) :
    P (Machine.parkTimeoutEvent t e c) := keeps_ite (h.settleTips (h.parkExpires hc)) hc

/-! ### A changed entry -/

theorem AllClosed.clampInventory {p : Fin 4} {c : Ctl} (hc : P c) :
    P (Machine.clampInventory e p c) := by
  simp only [Machine.clampInventory]
  split
  · exact h.report _ _ _ _ _ _ _ _ (h.anyPass _ _ _ hc)
  · exact hc

theorem AllClosed.realignPass {old : PassCfg} {p : Fin 4} {c : Ctl} (hc : P c) :
    P (Machine.realignPass old p e c) := by
  refine h.withNews (h.wetTests (keeps_ite (h.disagreementExpires ?_) ?_)) <;>
    exact h.withNews (h.recomputeFrom (h.anyPass _ _ _ (h.clampInventory hc)))

theorem AllClosed.restartPass {p : Fin 4} {c : Ctl} (hc : P c) : P (Machine.restartPass p e c) :=
  h.anyPass _ _ _ hc

theorem AllClosed.applyOutlet {old : OutletCfg} {n : Fin 8} {c : Ctl} (hc : P c) :
    P (Machine.applyOutlet old n e c) := by
  simp only [Machine.applyOutlet]
  repeat' split
  · exact hc
  · exact h.outlet _ _ _ hc
  · exact h.outlet _ _ _ hc
  · exact hc

theorem AllClosed.applyTip {old : TipCfg} {t : Fin 12} {c : Ctl} (hc : P c) :
    P (Machine.applyTip old t e c) := by
  have dropped (b : Bool) : P (dropKnown t b c) := keeps_ite (h.tip _ _ _ hc) hc
  simp only [Machine.applyTip]
  repeat' split
  · exact keeps_ite (h.settleTips (h.parkExpires (dropped _))) (dropped _)
  · exact h.tip _ _ _ hc
  · exact hc

end

/-! ### Carried from state to state -/

/-- What holds of the controllers' state at `s` holds of it at `t`. -/
structure CtlKeeps (P : Ctl → Prop) (s t : State) : Prop where
  keeps : P s.ctl → P t.ctl

section
variable {P : Ctl → Prop}

theorem CtlKeeps.refl (s : State) : CtlKeeps P s s := ⟨id⟩

theorem CtlKeeps.trans {s t u : State} (h : CtlKeeps P s t) (g : CtlKeeps P t u) : CtlKeeps P s u :=
  ⟨g.keeps ∘ h.keeps⟩

theorem CtlKeeps.ite {s t u : State} {b : Prop} [Decidable b] (ht : CtlKeeps P s t)
    (hu : CtlKeeps P s u) : CtlKeeps P s (if b then t else u) := by split <;> assumption

theorem CtlKeeps.of_eq {s t : State} (h : t.ctl = s.ctl) : CtlKeeps P s t := ⟨fun hs => h ▸ hs⟩

theorem CtlKeeps.of_keeps {s t : State} (h : P s.ctl → P t.ctl) : CtlKeeps P s t := ⟨h⟩

theorem CtlKeeps.onCtl {s : State} {f : Env → Ctl → Ctl} (hf : ∀ e c, P c → P (f e c)) :
    CtlKeeps P s (s.onCtl f) := ⟨hf s.env s.ctl⟩

variable (h : AllClosed P)
include h

theorem AllClosed.valueEvent (i : Fin 32) (sig : Signal) (v : Tri) (s : State) :
    CtlKeeps P s (s.valueEvent i sig v) := by
  unfold State.valueEvent
  split
  · split
    · exact .refl s
    · exact .onCtl fun _ _ hc => h.outletValue hc
  · split
    · exact .refl s
    · exact .onCtl fun _ _ hc => h.tipValue hc
  · exact .refl s

theorem AllClosed.reportLevel (i : Fin 32) (s : State) : CtlKeeps P s (s.reportLevel i) := by
  unfold State.reportLevel
  split
  · exact .refl s
  · exact .onCtl fun _ _ hc => h.withNews (h.levelReport hc)

theorem AllClosed.reportMoisture (i : Fin 32) (s : State) : CtlKeeps P s (s.reportMoisture i) := by
  unfold State.reportMoisture
  split
  · exact .refl s
  · exact .onCtl fun _ _ hc => h.withNews (h.sensorReport hc)

theorem AllClosed.outletTakes (i : Fin 32) (pl : Payload) (s : State) :
    CtlKeeps P s (s.outletTakes i pl) := by
  unfold State.outletTakes
  split
  · exact .refl s
  · exact .onCtl fun _ _ hc => h.withNews (h.outletRecord hc)

theorem AllClosed.tipTakes (i : Fin 32) (pl : Payload) (s : State) :
    CtlKeeps P s (s.tipTakes i pl) := by
  unfold State.tipTakes
  split
  · exact .refl s
  · exact .onCtl fun _ _ hc => h.withNews (h.tipRecord hc)

omit h in
theorem CtlKeeps.setQual (i : Fin 32) (q : Qualifiers) (s : State) : CtlKeeps P s (s.setQual i q) :=
  .of_eq rfl

theorem AllClosed.filterSample (i : Fin 32) (sig : Signal) (raw : Bool) (s : State) :
    CtlKeeps P s (s.filterSample i sig raw) :=
  .ite (.setQual ..) ((CtlKeeps.setQual ..).trans (h.valueEvent ..))

theorem AllClosed.discreteSample (i : Fin 32) (w : Word) (s : State) :
    CtlKeeps P s (s.discreteSample i w) :=
  ((h.filterSample ..).trans (h.filterSample ..)).trans (h.filterSample ..)

theorem AllClosed.flowSample (i : Fin 32) (level : Nat) (s : State) :
    CtlKeeps P s (s.flowSample i level) :=
  .ite (.setQual ..) ((CtlKeeps.setQual ..).trans (h.valueEvent ..))

theorem AllClosed.levelSample (i : Fin 32) (d q : Nat) (s : State) :
    CtlKeeps P s (s.levelSample i d q) :=
  .ite ((CtlKeeps.setQual ..).trans (h.reportLevel ..)) (.setQual ..)

theorem AllClosed.moistureSample (i : Fin 32) (r : Nat) (s : State) :
    CtlKeeps P s (s.moistureSample i r) :=
  .ite (.setQual ..) ((CtlKeeps.setQual ..).trans (h.reportMoisture ..))

theorem AllClosed.deliverRecord (i : Fin 32) (pl : Payload) (s : State) :
    CtlKeeps P s (s.deliverRecord i pl) := by
  unfold State.deliverRecord
  split
  · exact ((h.discreteSample ..).trans (h.flowSample ..)).trans (h.outletTakes ..)
  · exact (h.discreteSample ..).trans (h.tipTakes ..)
  · exact (h.levelSample ..).trans (h.moistureSample ..)
  · exact .refl s

theorem AllClosed.reportCleared (i : Fin 32) (q : Qualifiers) (s : State) :
    CtlKeeps P s (s.reportCleared i q) := by
  have level : CtlKeeps P s (if q.level.distance.isSome then s.reportLevel i else s) :=
    .ite (h.reportLevel ..) (.refl s)
  exact .ite level (level.trans (h.reportMoisture ..))

theorem AllClosed.clearQualifiers (i : Fin 32) (s : State) : CtlKeeps P s (s.clearQualifiers i) :=
  (CtlKeeps.setQual ..).trans (h.reportCleared ..)

theorem AllClosed.forgetValue (i : Fin 32) (sig : Signal) (v : Tri) (s : State) :
    CtlKeeps P s (s.forgetValue i sig v) := .ite (.refl s) (h.valueEvent ..)

theorem AllClosed.resetQualifiers (i : Fin 32) (s : State) : CtlKeeps P s (s.resetQualifiers i) :=
  ((((((CtlKeeps.setQual ..).trans (h.forgetValue ..)).trans (h.forgetValue ..)).trans
    (h.forgetValue ..)).trans (h.forgetValue ..)).trans (h.reportCleared ..))

theorem AllClosed.dropoutExpires (i : Fin 32) (s : State) : CtlKeeps P s (s.dropoutExpires i) :=
  (CtlKeeps.setQual ..).trans (h.valueEvent ..)

theorem AllClosed.tellConsumer (i : Fin 32) (old new : Freshness) (s : State) :
    CtlKeeps P s (s.tellConsumer i old new) := by
  unfold State.tellConsumer
  split
  · split
    · exact .refl s
    · exact .onCtl fun _ _ hc => h.outletFreshness hc
  · split
    · exact .refl s
    · exact .onCtl fun _ _ hc => h.tipFreshness hc
  · exact .refl s

theorem AllClosed.freshnessEvent (i : Fin 32) (old : Freshness) (k : FreshnessCause) (s : State) :
    CtlKeeps P s (s.freshnessEvent i old k) := by
  have journaled (new : Station) : CtlKeeps P s (s.onCtl fun e c =>
      c.report e .freshness i.val old.code new.freshness.code new.order.code k.code) :=
    .onCtl fun _ _ hc => h.report _ _ _ _ _ _ _ _ hc
  refine .ite (.refl s) (.trans ?_ (h.tellConsumer ..))
  exact .ite ((journaled _).trans (h.clearQualifiers ..)) (journaled _)

omit h in
theorem CtlKeeps.answerRecord (i k : Fin 32) (pl : Payload) (cl : Word) (b : Bool) (old : Word)
    (s : State) : CtlKeeps P s (s.answerRecord i k pl cl b old) :=
  .ite (.of_eq rfl) (.ite (.refl s) (.of_eq rfl))

theorem AllClosed.judgeRecord (i k : Fin 32) (pl : Payload) (cl : Word) (s : State) :
    CtlKeeps P s (s.judgeRecord i k pl cl) := by
  have judged (x : Station) : CtlKeeps P s (s.setStation i x) := .of_eq rfl
  have answered (x : Station) (w : Word) (b : Bool) (old : Word) (was : Freshness)
      (cause : FreshnessCause) : CtlKeeps P s
        (((s.setStation i x).answerRecord i k pl w b old).freshnessEvent i was cause) :=
    ((judged _).trans (.answerRecord ..)).trans (h.freshnessEvent ..)
  exact .ite (.ite ((answered ..).trans (h.deliverRecord ..)) (answered ..)) (judged _)

theorem AllClosed.takeClosing (k : Fin 32) (cl : Word) (s : State) :
    CtlKeeps P s (s.takeClosing k cl) := by
  have emptied : CtlKeeps P s (s.emptyStaging k) := .of_eq rfl
  unfold State.takeClosing
  split
  · exact emptied
  · exact .ite (emptied.trans (h.judgeRecord ..)) (emptied.trans (.of_eq rfl))

theorem AllClosed.lateExpires (i : Fin 32) (s : State) : CtlKeeps P s (s.lateExpires i) :=
  .trans (t := (s.setStation i (s.station i).fallLate).putLatch _ _) (.of_eq rfl)
    (h.freshnessEvent ..)

omit h in
theorem CtlKeeps.refillAt (i : Nat) (s : State) : CtlKeeps P s (s.refillAt i) := by
  unfold State.refillAt
  split
  · exact .refl s
  · exact .of_eq rfl

theorem AllClosed.applyPass (old : PassCfg) (p : Fin 4) (s : State) :
    CtlKeeps P s (s.applyPass old p) := by
  have refilled (b : Bool) (i : Nat) (t : State) :
      CtlKeeps P t (if b then t.refillAt i else t) := .ite (.refillAt ..) (.refl t)
  unfold State.applyPass
  extract_lets new s1 s2
  have both : CtlKeeps P s s2 := (refilled ..).trans (refilled ..)
  exact .ite (both.trans (.onCtl fun _ _ hc => h.realignPass hc))
    (.ite (both.trans (.onCtl fun _ _ hc => h.restartPass hc)) both)

theorem AllClosed.restartStation (old : StationCfg) (i : Fin 32) (s : State) :
    CtlKeeps P s (s.restartStation old i) := by
  have latched (k : StationCfg) (t : State) : CtlKeeps P t (t.staleLatch k) :=
    .ite (.of_eq rfl) (.refl t)
  have reset : CtlKeeps P s (s.setStation i Station.reset) := .of_eq rfl
  exact (((reset.trans (latched ..)).trans (latched ..)).trans (h.freshnessEvent ..)).trans
    (.setQual ..)

theorem AllClosed.applyStation (old : StationCfg) (i : Fin 32) (s : State) :
    CtlKeeps P s (s.applyStation old i) := by
  have late : CtlKeeps P s (if old.lateLimit ≠ (s.live.stationCfg i).lateLimit ∧ s.lateDue i = true
      then s.lateExpires i else s) := .ite (h.lateExpires ..) (.refl s)
  exact .ite (.ite (.ite (late.trans (h.resetQualifiers ..)) late) (.refl s)) (h.restartStation ..)

end

/-! ### The pending list (R144) -/

/-- At most 8 records are pending, and `due` are the control regions whose zero words are to be placed. -/
def PendingBounded (due : List Nat) (c : Ctl) : Prop :=
  c.journal.list.length ≤ 8 ∧ c.journal.zeroDue = due

theorem PendingBounded.request {due : List Nat} {c : Ctl} (hc : PendingBounded due c)
    (x : JournalRecord) : PendingBounded due { c with journal := c.journal.request x } := by
  obtain ⟨list, zeroDue⟩ := hc
  unfold Journal.request
  split
  · next full =>
    refine ⟨?_, zeroDue⟩
    simp only [List.length_append, List.length_tail, List.length_singleton]
    omega
  · next room =>
    refine ⟨?_, zeroDue⟩
    simp only [List.length_append, List.length_singleton]
    omega

/-- R144: a request drops the oldest record where 8 are pending, and the controllers change the journal by
requests alone. -/
theorem pendingBounded_closed (due : List Nat) : AllClosed (PendingBounded due) where
  report e kd j a b d g c hc := by
    unfold Ctl.report
    split
    · exact hc.request _
    · exact hc
  slot _ _ _ _ hc := hc
  pass _ _ _ _ hc := hc
  outlet _ _ _ hc := hc
  free _ hc := hc
  anyPass _ _ _ hc := hc
  tip _ _ _ hc := hc

end Sys2Proof.Machine
end

section
/-! Proofs: what every command but a grant leaves of image memory and of the queues' bounds (R30, R34, R49 to
R51, R144). -/

namespace Sys2Proof.Machine

/-! ### Entries of the urgent queue -/

@[simp] theorem markedEntries_length (base : Nat) (ws : List (Option Word)) :
    (markedEntries base ws).length = (ws.filter Option.isSome).length := by
  induction ws generalizing base with
  | nil => rfl
  | cons w rest ih => cases w <;> simp [markedEntries, ih]

@[simp] theorem entriesAt_length (base : Nat) (ws : List Word) :
    (entriesAt base ws).length = ws.length := by
  rw [entriesAt, markedEntries_length, List.filter_eq_self.2 (by simp), List.length_map]

theorem urgentCount_congr {s t : State} (h : t.urgent = s.urgent) : t.urgentCount = s.urgentCount := by
  simp [State.urgentCount, h]

theorem urgentCount_append {s t : State} {g : List Entry} (h : t.urgent = s.urgent ++ [g]) :
    t.urgentCount = s.urgentCount + g.length := by
  simp [State.urgentCount, h]

/-! ### Growth of the urgent queue -/

/-- From `s` to `t` the urgent queue grows by at most `n` entries; of what the bounds read, the pending list
alone changes besides, by requests (R144). -/
structure Grows (n : Nat) (s t : State) : Prop where
  mem : t.mem = s.mem
  urgent : t.urgentCount ≤ s.urgentCount + n
  bulk : t.bulk = s.bulk
  urgentWait : t.urgentWait = s.urgentWait
  bulkWait : t.bulkWait = s.bulkWait
  loading : t.loading = s.loading
  partState : t.partState = s.partState
  safing : t.safing = s.safing
  bases : t.bases = s.bases
  pending : ∀ due, CtlKeeps (PendingBounded due) s t

theorem Grows.refl (s : State) : Grows 0 s s := ⟨rfl, le_refl _, rfl, rfl, rfl, rfl, rfl, rfl, rfl, fun _ => .refl s⟩

theorem Grows.trans {n m : Nat} {s t u : State} (h : Grows n s t) (g : Grows m t u) :
    Grows (n + m) s u where
  mem := g.mem.trans h.mem
  urgent := by have := h.urgent; have := g.urgent; omega
  bulk := g.bulk.trans h.bulk
  urgentWait := g.urgentWait.trans h.urgentWait
  bulkWait := g.bulkWait.trans h.bulkWait
  loading := g.loading.trans h.loading
  partState := g.partState.trans h.partState
  safing := g.safing.trans h.safing
  bases := g.bases.trans h.bases
  pending due := (h.pending due).trans (g.pending due)

/-- `Grows.trans` with the later part first. -/
theorem Grows.after {n m : Nat} {s t u : State} (g : Grows m t u) (h : Grows n s t) :
    Grows (n + m) s u := h.trans g

theorem Grows.mono {n m : Nat} {s t : State} (h : Grows n s t) (le : n ≤ m) : Grows m s t :=
  { h with urgent := h.urgent.trans (Nat.add_le_add_left le _) }

theorem Grows.ite {n : Nat} {s t u : State} {b : Prop} [Decidable b] (ht : Grows n s t)
    (hu : Grows n s u) : Grows n s (if b then t else u) := by split <;> assumption

theorem Grows.of_taken {n : Nat} {s t : State} (only : TakenOnly s t)
    (urgent : t.urgentCount ≤ s.urgentCount + n) (pending : ∀ due, CtlKeeps (PendingBounded due) s t) :
    Grows n s t := by
  unfold TakenOnly at only
  exact ⟨by rw [only], urgent, by rw [only], by rw [only], by rw [only], by rw [only], by rw [only],
    by rw [only], by rw [only], pending⟩

theorem Grows.of_qual {s t : State} (only : QualOnly s t)
    (pending : ∀ due, CtlKeeps (PendingBounded due) s t) : Grows 0 s t := by
  refine .of_taken only.toRecord.toTaken (urgentCount_congr ?_).le pending
  unfold QualOnly at only
  rw [only]

theorem Grows.onCtl {s : State} {f : Env → Ctl → Ctl}
    (hf : ∀ due e c, PendingBounded due c → PendingBounded due (f e c)) : Grows 0 s (s.onCtl f) :=
  .of_qual (onCtl_only ..).toQual fun due => .onCtl (hf due)

/-- Nothing that the bounds read differs. -/
theorem Grows.of_eq {s t : State} (mem : t.mem = s.mem) (urgent : t.urgent = s.urgent)
    (bulk : t.bulk = s.bulk) (urgentWait : t.urgentWait = s.urgentWait)
    (bulkWait : t.bulkWait = s.bulkWait) (loading : t.loading = s.loading)
    (partState : t.partState = s.partState) (safing : t.safing = s.safing) (bases : t.bases = s.bases)
    (list : t.ctl.journal.list = s.ctl.journal.list)
    (due : t.ctl.journal.zeroDue = s.ctl.journal.zeroDue) : Grows 0 s t where
  mem := mem
  urgent := (urgentCount_congr urgent).le
  bulk := bulk
  urgentWait := urgentWait
  bulkWait := bulkWait
  loading := loading
  partState := partState
  safing := safing
  bases := bases
  pending _ := ⟨fun hs => by unfold PendingBounded; rw [list, due]; exact hs⟩

/-- `Grows.of_eq` of an update that writes none of the fields. -/
theorem Grows.of_ctl {s t : State} (only : t = { s with
      port := t.port, busReady := t.busReady, busData := t.busData, mirror := t.mirror, link := t.link
      stations := t.stations, stationSlots := t.stationSlots, drainer := t.drainer, ctl := t.ctl
      clock := t.clock, pending := t.pending, live := t.live, identity := t.identity })
    (journal : t.ctl.journal.list = s.ctl.journal.list ∧
      t.ctl.journal.zeroDue = s.ctl.journal.zeroDue) : Grows 0 s t := by
  refine .of_eq ?_ ?_ ?_ ?_ ?_ ?_ ?_ ?_ ?_ journal.1 journal.2 <;> rw [only]

theorem Grows.seek (s : State) : Grows 0 s s.seek := by
  have only := seek_only s
  unfold DrainerOnly at only
  rw [only]
  exact .of_ctl rfl ⟨rfl, rfl⟩

/-! ### The blocks that hand on to the controllers -/

theorem Grows.freshnessEvent (i : Fin 32) (old : Freshness) (k : FreshnessCause) (s : State) :
    Grows 0 s (s.freshnessEvent i old k) :=
  .of_qual (freshnessEvent_only ..) fun due => (pendingBounded_closed due).freshnessEvent ..

theorem Grows.deliverRecord (i : Fin 32) (pl : Payload) (s : State) : Grows 0 s (s.deliverRecord i pl) :=
  .of_qual (deliverRecord_only ..) fun due => (pendingBounded_closed due).deliverRecord ..

theorem Grows.dropoutExpires (i : Fin 32) (s : State) : Grows 0 s (s.dropoutExpires i) :=
  .of_qual (dropoutExpires_only ..) fun due => (pendingBounded_closed due).dropoutExpires ..

theorem Grows.lateExpires (i : Fin 32) (s : State) : Grows 0 s (s.lateExpires i) := by
  have latched : Grows 0 s ((s.setStation i (s.station i).fallLate).putLatch (s.live.slotOf i)
      (s.station i).fallLate.status) := .of_ctl rfl ⟨rfl, rfl⟩
  exact latched.trans (.freshnessEvent ..)

/-- R38: a release places 12 words. -/
theorem Grows.answerRecord (i k : Fin 32) (pl : Payload) (cl : Word) (b : Bool) (old : Word)
    (s : State) : Grows 12 s (s.answerRecord i k pl cl b old) := by
  refine .of_taken (answerRecord_only ..).toTaken ?_ fun due => .answerRecord ..
  simp only [State.answerRecord]
  split
  · rw [urgentCount_append (s := s) (g := entriesAt (s.stationBase k)
      (pl.toList ++ [cl, (s.station i).status])) rfl]
    simp
  · split <;> exact Nat.le_add_right _ _

theorem Grows.judgeRecord (i k : Fin 32) (pl : Payload) (cl : Word) (s : State) :
    Grows 12 s (s.judgeRecord i k pl cl) := by
  have judged (x : Station) : Grows 0 s (s.setStation i x) := .of_ctl rfl ⟨rfl, rfl⟩
  have answered (x : Station) (w : Word) (b : Bool) (old : Word) (was : Freshness)
      (cause : FreshnessCause) : Grows 12 s
        (((s.setStation i x).answerRecord i k pl w b old).freshnessEvent i was cause) :=
    ((judged _).trans (.answerRecord ..)).trans (.freshnessEvent ..)
  exact .ite (.ite ((answered ..).trans (.deliverRecord ..)) (answered ..))
    ((judged _).mono (Nat.zero_le _))

/-- R37: a closing word taken asks for at most 12 entries. -/
theorem Grows.takeClosing (k : Fin 32) (cl : Word) (s : State) : Grows 12 s (s.takeClosing k cl) := by
  have emptied : Grows 0 s (s.emptyStaging k) := .of_ctl rfl ⟨rfl, rfl⟩
  unfold State.takeClosing
  split
  · exact emptied.mono (Nat.zero_le _)
  · exact .ite (emptied.trans (.judgeRecord ..))
      ((emptied.trans (.of_ctl (t := (s.emptyStaging k).setStation _ _) rfl ⟨rfl, rfl⟩)).mono
        (Nat.zero_le _))

/-- The number of marked words of a write-back record. -/
def WriteBack.count (w : WriteBack) : Nat := (w.words.filter Option.isSome).length

theorem WriteBack.count_le (w : WriteBack) : w.count ≤ 6 := List.length_filter_le _ w.words

theorem Grows.placeSlot (k : Fin 24) (s : State) : Grows (s.ctl.slot k).wb.count s (s.placeSlot k) := by
  refine .of_taken (by unfold TakenOnly; rw [placeSlot_only]) ?_ fun due => .ite (.of_keeps id) (.refl s)
  simp only [State.placeSlot]
  split
  · rw [urgentCount_append (s := s) (g := markedEntries (s.commandBase k) (s.ctl.slot k).wb.words) rfl,
      markedEntries_length]
    exact le_refl _
  · exact Nat.le_add_right _ _

/-- R46: a superseded commit asks for at most 6 entries. -/
theorem Grows.supersede (k : Fin 24) (s : State) : Grows 6 s (s.supersede k) := by
  unfold State.supersede
  split
  · exact (Grows.refl s).mono (Nat.zero_le _)
  · show Grows (0 + 6) s _
    exact ((Grows.placeSlot ..).mono (WriteBack.count_le _)).after (.of_ctl rfl ⟨rfl, rfl⟩)

/-- R41: a demand word taken asks for at most 12 entries. -/
theorem Grows.takeCommit (k : Fin 24) (d : Word) (s : State) : Grows 12 s (s.takeCommit k d) := by
  have cleared : Grows 0 s (s.clearStaged k) := .of_ctl rfl ⟨rfl, rfl⟩
  exact ((cleared.trans (.supersede ..)).trans (.onCtl fun due _ _ hc =>
    (pendingBounded_closed due).judgeCommit hc)).trans ((Grows.placeSlot ..).mono (WriteBack.count_le _))

/-- R48: a stretched write is taken where the room for it is there. -/
theorem Grows.takeStretched (s : State) : Grows s.urgentFree s s.takeStretched := by
  have same : Grows s.urgentFree s s := (Grows.refl s).mono (Nat.zero_le _)
  have readied (t : State) : Grows 0 t t.ready := .of_ctl rfl ⟨rfl, rfl⟩
  unfold State.takeStretched
  split
  · exact same
  split
  · exact same
  next room =>
  split
  · exact ((Grows.takeClosing ..).trans (readied _)).mono (by omega)
  · exact ((Grows.takeCommit ..).trans (readied _)).mono (by omega)
  all_goals exact same

/-! ### The drainer -/

theorem sourceWords_slot {s : State} {i : Fin 56} {k : Fin 24} (h : sourceOf i = .slot k) :
    s.sourceWords i = (s.ctl.slot k).wb.count := by
  unfold State.sourceWords
  rw [h]
  rfl

theorem sourceWords_latch {s : State} {i : Fin 56} {k : Fin 32} (h : sourceOf i = .latch k) :
    s.sourceWords i = if (s.stationSlot k).latch.isSome then 1 else 0 := by
  unfold State.sourceWords
  rw [h]

theorem Grows.placeLatch (k : Fin 32) (s : State) :
    Grows (if (s.stationSlot k).latch.isSome then 1 else 0) s (s.placeLatch k) := by
  unfold State.placeLatch
  cases latch : (s.stationSlot k).latch with
  | none => exact .refl s
  | some w =>
    have one := urgentCount_append (s := s) (g := [(BitVec.ofNat 22 (s.stationBase k + 11), w)])
      (t := (s.placeUrgent [(BitVec.ofNat 22 (s.stationBase k + 11), w)]).setStationSlot k
        { s.stationSlot k with latch := none }) rfl
    exact .of_taken rfl one.le fun due => .of_eq rfl

theorem Grows.placeSource (i : Fin 56) (s : State) : Grows (s.sourceWords i) s (s.placeSource i) := by
  unfold State.placeSource
  split
  · next k at_ => rw [sourceWords_slot at_]; exact .placeSlot ..
  · next k at_ => rw [sourceWords_latch at_]; exact .placeLatch ..

theorem Grows.drain (s : State) : Grows s.urgentFree s s.drain := by
  have moved (i : Fin 56) (t : State) : Grows 0 t { t with drainer := i } := .of_ctl rfl ⟨rfl, rfl⟩
  unfold State.drain
  split
  · exact (Grows.refl s).mono (Nat.zero_le _)
  · next i _ =>
    split
    · next room => exact ((Grows.placeSource i s).trans (moved _ _)).mono room
    · exact (moved _ s).mono (Nat.zero_le _)

/-! ### Image memory and the bounds -/

/-- Image memory is as before, and the bounds of the queues are kept. -/
structure QueuesKept (s t : State) : Prop where
  mem : t.mem = s.mem
  bounds : s.QueuesBounded → t.QueuesBounded

theorem QueuesKept.refl (s : State) : QueuesKept s s := ⟨rfl, id⟩

theorem QueuesKept.trans {s t u : State} (h : QueuesKept s t) (g : QueuesKept t u) : QueuesKept s u :=
  ⟨g.mem.trans h.mem, g.bounds ∘ h.bounds⟩

theorem QueuesKept.ite {s t u : State} {b : Prop} [Decidable b] (ht : QueuesKept s t)
    (hu : QueuesKept s u) : QueuesKept s (if b then t else u) := by split <;> assumption

/-- Growth within the room of the urgent queue keeps the bounds. -/
theorem Grows.kept {n : Nat} {s t : State} (h : Grows n s t) (room : n ≤ s.urgentFree) :
    QueuesKept s t where
  mem := h.mem
  bounds hs := by
    have pending (due : List Nat) (was : s.ctl.journal.zeroDue = due) := (h.pending due).keeps ⟨hs.list, was⟩
    refine ⟨?_, by rw [h.bulk]; exact hs.bulk, (pending _ rfl).1, by rw [h.urgentWait]; exact hs.urgentWait,
      by rw [h.bulkWait]; exact hs.bulkWait, fun loading => ?_, fun k w rest reads => ?_⟩
    · have grown := h.urgent
      have bounded := hs.urgent
      unfold State.urgentFree at room
      omega
    · obtain ⟨starting, off, bulk, bases, due⟩ := hs.loading (h.loading ▸ loading)
      exact ⟨h.partState.trans starting, h.safing.trans off, h.bulk.trans bulk, h.bases.trans bases,
        (pending _ due).2⟩
    · obtain ⟨safing, due, bulk⟩ := hs.reading k w rest (h.safing ▸ reads)
      exact ⟨h.partState.trans safing, (pending _ due).2, by rwa [h.bulk]⟩

theorem Grows.same {s t : State} (h : Grows 0 s t) : QueuesKept s t := h.kept (Nat.zero_le _)

end Sys2Proof.Machine
end

section
/-! Proofs: the bounds of the queues through every command, and image memory through every command but a grant
(R30, R34, R49 to R51, R144, R156, R157). -/

namespace Sys2Proof.Machine

/-! ### States past the start-up -/

/-- No image is read and no set-point word is to be read: the bounds of the bulk queue rest on nothing else. -/
def State.PastReads (s : State) : Prop := s.loading = false ∧ ∀ k w rest, s.safing ≠ .reads k w rest

theorem State.QueuesBounded.pastReads {s : State} (hs : s.QueuesBounded)
    (h : s.partState = .run ∨ s.partState = .unconfigured ∨ s.ctl.journal.zeroDue ≠ []) :
    s.PastReads := by
  refine ⟨?_, fun k w rest reads => ?_⟩
  · by_contra loading
    obtain ⟨starting, _, _, _, due⟩ := hs.loading (by simpa using loading)
    simp [starting, due] at h
  · obtain ⟨safing, due, _⟩ := hs.reading k w rest reads
    simp [safing, due] at h

theorem State.QueuesBounded.of_pastReads {s : State} (past : s.PastReads) (urgent : s.urgentCount ≤ 32)
    (bulk : s.bulk.length ≤ 16) (list : s.ctl.journal.list.length ≤ 8)
    (urgentWait : s.urgentWait ≤ 16) (bulkWait : s.bulkWait ≤ 16) : s.QueuesBounded where
  urgent := urgent
  bulk := bulk
  list := list
  urgentWait := urgentWait
  bulkWait := bulkWait
  loading h := by simp [past.1] at h
  reading k w rest h := absurd h (past.2 k w rest)

/-- The queues after a reset are empty. -/
theorem State.QueuesBounded.of_empty {s : State} (urgent : s.urgent = []) (bulk : s.bulk = [])
    (journal : s.ctl.journal = Journal.reset) (urgentWait : s.urgentWait = 0) (bulkWait : s.bulkWait = 0)
    (starting : s.partState = .starting) (off : s.safing = .off) (bases : s.bases = none) :
    s.QueuesBounded where
  urgent := by simp [State.urgentCount, urgent]
  bulk := by simp [bulk]
  list := by simp [journal, Journal.reset]
  urgentWait := by simp [urgentWait]
  bulkWait := by simp [bulkWait]
  loading _ := ⟨starting, off, bulk, bases, by rw [journal]; rfl⟩
  reading k w rest h := by simp [off] at h

/-! ### The resets -/

theorem State.fullReset_kept (s : State) : QueuesKept s s.fullReset := by
  unfold State.fullReset
  split
  · exact .refl s
  · exact ⟨s.completeHeld_mem, fun _ => .of_empty rfl rfl rfl rfl rfl rfl rfl rfl⟩

theorem State.fullResetEnd_kept (s : State) : QueuesKept s s.fullResetEnd := by
  unfold State.fullResetEnd
  split
  · exact ⟨rfl, fun _ => .of_empty rfl rfl rfl rfl rfl rfl rfl rfl⟩
  · exact .refl s

theorem State.endResponse_kept (s : State) : QueuesKept s s.endResponse := by
  unfold State.endResponse
  split
  · exact .refl s
  · split
    · exact ⟨s.completeHeld_mem, fun _ => .of_empty rfl rfl rfl rfl rfl rfl rfl rfl⟩
    · exact Grows.same (.of_ctl rfl ⟨rfl, rfl⟩)

/-! ### The start-up (R156, R157) -/

/-- The bounds hold wherever the first stage of SAFING stands at `s`. -/
def State.ReadsBounded (s : State) : Prop :=
  ∀ k w rest, State.QueuesBounded { s with safing := .reads k w rest }

theorem safeSlots_journal (l : Live) (c : Ctl) : (c.safeSlots l).journal = c.journal := by
  unfold Ctl.safeSlots
  exact foldl_keeps (Q := fun b : Ctl => b.journal = c.journal)
    (fun b k hb => (Ctl.updSlot_journal b k CommandSlot.safe).trans hb) _ _ rfl

/-- R157: the safe writes place 2 words behind what the reads have left in the bulk queue. -/
theorem State.ReadsBounded.beginSafing {s : State} (hs : s.ReadsBounded)
    (reads : List (Fin 24 × Fin 3)) : (s.beginSafing reads).QueuesBounded := by
  cases reads with
  | cons first rest => exact hs _ _ _
  | nil =>
    have bounded := hs 0 0 []
    obtain ⟨safing, _, bulk⟩ := bounded.reading 0 0 [] rfl
    have notLoading : s.loading = false := by
      by_contra loading
      exact nomatch (bounded.loading (by simpa using loading)).2.1
    unfold State.beginSafing
    rw [safeWrites_only]
    refine .of_pastReads ⟨notLoading, nofun⟩ bounded.urgent ?_ ?_ bounded.urgentWait bounded.bulkWait
    · have entries : (s.bulk ++ entriesAt s.regions.control [0, 0]).length = s.bulk.length + 2 := by simp
      show (s.bulk ++ entriesAt s.regions.control [0, 0]).length ≤ 16
      rw [entries]
      rcases bulk with none | nine
      · rw [show s.bulk = [] from none]; decide
      · rw [show s.bulk.length = 9 from nine]; decide
    · show (s.ctl.safeSlots s.live).journal.list.length ≤ 8
      rw [safeSlots_journal]
      exact bounded.list

theorem beginSafing_mem (reads : List (Fin 24 × Fin 3)) (s : State) : (s.beginSafing reads).mem = s.mem := by
  rw [beginSafing_only]

theorem State.readSetPoint_mem (k : Fin 24) (w : Fin 3) (rest : List (Fin 24 × Fin 3)) (s : State) :
    (s.readSetPoint k w rest).mem = s.mem := beginSafing_mem ..

theorem State.readSetPoint_kept {s : State} {k : Fin 24} {w : Fin 3} {rest : List (Fin 24 × Fin 3)}
    (reads : s.safing = .reads k w rest) : QueuesKept s (s.readSetPoint k w rest) := by
  refine ⟨readSetPoint_mem .., fun hs => State.ReadsBounded.beginSafing (fun k' w' rest' => ?_) rest⟩
  obtain ⟨safing, due, bulk⟩ := hs.reading k w rest reads
  have notLoading (loading : s.loading = true) : False := by
    rw [(hs.loading loading).2.1] at reads
    exact nomatch reads
  exact ⟨hs.urgent, hs.bulk, hs.list, hs.urgentWait, hs.bulkWait,
    fun loading => (notLoading loading).elim, fun _ _ _ _ => ⟨safing, due, bulk⟩⟩

theorem startDwell_journal (l : Live) (now : Clock) (c : Ctl) :
    (c.startDwell l now).journal = c.journal := by
  unfold Ctl.startDwell
  refine foldl_keeps (Q := fun b : Ctl => b.journal = c.journal) (fun b p hb => ?_) _ _ rfl
  exact (Ctl.setPass_journal ..).trans hb

theorem State.goodLoad_kept (image : List Octet) {s : State} (loading : s.loading = true) :
    QueuesKept s (s.goodLoad image) := by
  rw [goodLoad_eq]
  refine ⟨beginSafing_mem .., fun hs => State.ReadsBounded.beginSafing (fun k w rest => ?_) _⟩
  obtain ⟨_, _, bulk, _, due⟩ := hs.loading loading
  have journal : (s.loadedTable image).ctl.journal = s.ctl.journal := startDwell_journal ..
  exact ⟨hs.urgent, hs.bulk, by rw [journal]; exact hs.list, hs.urgentWait, hs.bulkWait, nofun,
    fun _ _ _ _ => ⟨rfl, by rw [journal]; exact due, .inl bulk⟩⟩

theorem State.completeLoad_kept (image : Option (List Octet)) {s : State} (loading : s.loading = true) :
    QueuesKept s (s.completeLoad image) := by
  have bad (f : Failure) : QueuesKept s (s.badLoad f) := by
    refine ⟨rfl, fun hs => .of_pastReads ⟨rfl, fun k w rest reads => ?_⟩ hs.urgent hs.bulk hs.list
      hs.urgentWait hs.bulkWait⟩
    rw [show (s.badLoad f).safing = .off from (hs.loading loading).2.1] at reads
    exact nomatch reads
  unfold State.completeLoad
  split
  · exact bad _
  · split
    · split
      · exact bad _
      · exact State.goodLoad_kept _ loading
    · exact .refl s

theorem State.enterRun_kept {s : State} (done : s.safingDone = true) : QueuesKept s s.enterRun := by
  simp only [State.safingDone, Bool.and_eq_true, beq_iff_eq] at done
  obtain ⟨⟨⟨⟨safing, _⟩, _⟩, _⟩, _⟩ := done
  refine ⟨rfl, fun hs => .of_pastReads ⟨?_, nofun⟩ hs.urgent hs.bulk ?_ hs.urgentWait hs.bulkWait⟩
  · by_contra loading
    have starting := (hs.loading (by simpa [State.enterRun, State.beginPublication] using loading)).1
    rw [starting] at safing
    cases safing
  · exact ((pendingBounded_closed s.ctl.journal.zeroDue).report _ _ _ _ _ _ _ _ ⟨hs.list, rfl⟩).1

/-! ### The bulk queue -/

/-- Words placed in the bulk queue within its room, past the reads of SAFING. -/
theorem QueuesKept.placed {s t : State} {g : List Entry}
    (past : s.QueuesBounded → s.PastReads) (only : t = { s with
      bulk := s.bulk ++ g, ctl := t.ctl, mirror := t.mirror })
    (room : g.length ≤ s.bulkFree) (list : t.ctl.journal.list.length ≤ s.ctl.journal.list.length) :
    QueuesKept s t := by
  refine ⟨by rw [only], fun hs => ?_⟩
  obtain ⟨notLoading, notReading⟩ := past hs
  rw [only]
  refine .of_pastReads ⟨notLoading, notReading⟩ hs.urgent ?_ (list.trans hs.list) hs.urgentWait hs.bulkWait
  have bounded := hs.bulk
  unfold State.bulkFree at room
  show (s.bulk ++ g).length ≤ 16
  rw [List.length_append]
  omega

theorem State.recordsGo_run {s : State} (h : s.recordsGo = true) : s.partState = .run := by
  simp only [State.recordsGo, Bool.and_eq_true, beq_iff_eq] at h
  exact h.1.1.1

theorem State.recordsGo_room {s : State} (h : s.recordsGo = true) : 9 ≤ s.bulkFree := by
  simp only [State.recordsGo, Bool.and_eq_true, State.recordRoom, decide_eq_true_eq] at h
  exact h.2

/-- R145: a record and its write index are 9 words. -/
theorem State.writeRecord_kept {s t : State} {x : JournalRecord} (go : s.recordsGo = true)
    (only : t = { s.writeRecord x with ctl := t.ctl })
    (list : t.ctl.journal.list.length ≤ s.ctl.journal.list.length) : QueuesKept s t := by
  refine .placed (g := entriesAt (s.regions.ring + 8 * s.ctl.journal.w) (x.words s.ctl.journal.serial) ++
    entriesAt s.regions.control [toWord ((s.ctl.journal.w + 1) % s.regions.records)])
    (fun hs => hs.pastReads (.inl (State.recordsGo_run go))) (by rw [only]; rfl) ?_ list
  simpa [JournalRecord.words] using State.recordsGo_room go

theorem State.writeHead_kept (s : State) : QueuesKept s s.writeHead := by
  unfold State.writeHead
  split
  · exact .refl s
  · split
    · next go =>
      refine State.writeRecord_kept go.2 rfl ?_
      simp [State.dropHead, State.writeRecord]
    · exact .refl s

theorem State.writeGap_kept (s : State) : QueuesKept s s.writeGap := by
  unfold State.writeGap
  split
  · next go => exact State.writeRecord_kept go.2 rfl (le_refl _)
  · exact .refl s

theorem State.placeZeros_kept (s : State) : QueuesKept s s.placeZeros := by
  unfold State.placeZeros
  split
  · exact .refl s
  · next base rest due =>
    split
    · next room =>
      exact .placed (g := entriesAt base [0, 0])
        (fun hs => hs.pastReads (.inr (.inr (by simp [due])))) rfl (by simpa using room) (le_refl _)
    · exact .refl s

theorem advanceCursor_only (g : MirrorGroup) (s : State) :
    s.advanceCursor g = { s with mirror := (s.advanceCursor g).mirror } := by
  unfold State.advanceCursor
  split
  · rfl
  · split <;> rfl

theorem placeGroup_only (g : MirrorGroup) (s : State) :
    s.placeGroup g = { s with
      bulk := s.bulk ++ entriesAt (s.mirror.base + (s.groupWords g).1) (s.groupWords g).2
      mirror := (s.placeGroup g).mirror } := by
  simp only [State.placeGroup]
  rw [advanceCursor_only]
  rfl

theorem State.publish_kept (s : State) : QueuesKept s s.publish := by
  unfold State.publish
  split
  · exact .refl s
  · next g _ =>
    split
    · next go =>
      obtain ⟨run, room, _⟩ := go
      refine .placed (g := entriesAt (s.mirror.base + (s.groupWords g).1) (s.groupWords g).2)
        (fun hs => hs.pastReads (.inl run)) ?_ (by simpa using room) ?_
      · rw [placeGroup_only]
      · rw [placeGroup_only]
    · exact .refl s

end Sys2Proof.Machine
end

section
/-! Proofs: O54, O57 and O58, command by command. -/

namespace Sys2Proof.Machine

/-! ### Bus writes -/

theorem QueuesKept.present {f : State → State} {s : State} (hf : QueuesKept s (f s)) :
    QueuesKept s (s.present f) := .ite (.refl s) hf

theorem State.ready_grows (s : State) : Grows 0 s s.ready := .of_ctl rfl ⟨rfl, rfl⟩

theorem State.hold_grows (s : State) (x : Txn) : Grows 0 s (s.hold x) := .of_ctl rfl ⟨rfl, rfl⟩

theorem QueuesKept.inRun {f : State → State} {s : State} (hf : QueuesKept s (f s)) :
    QueuesKept s (s.inRun f) := .ite hf s.ready_grows.same

theorem State.takeStretched_kept (s : State) : QueuesKept s s.takeStretched :=
  (Grows.takeStretched s).kept (le_refl _)

theorem State.closingWrite_kept (k : Fin 32) (v : Word) (s : State) :
    QueuesKept s (s.closingWrite k v) := (s.hold_grows _).same.trans (State.takeStretched_kept _)

theorem State.demandWrite_kept (k : Fin 24) (v : Word) (s : State) :
    QueuesKept s (s.demandWrite k v) := (s.hold_grows _).same.trans (State.takeStretched_kept _)

theorem State.readIndexWrite_kept (v : Word) (s : State) : QueuesKept s (s.readIndexWrite v) :=
  .ite (s.hold_grows _).same (Grows.same (.of_ctl rfl ⟨rfl, rfl⟩))

/-! ### Configuration changes -/

/-- R164, GLOBAL: zero words become due in RUN, past the reads of SAFING. -/
theorem State.applyGlobal_kept (old : GlobalCfg) {s : State} (run : s.partState = .run) :
    QueuesKept s (s.applyGlobal old) := by
  have list : (s.applyGlobal old).ctl.journal.list = s.ctl.journal.list := by
    simp only [State.applyGlobal, State.restartJournal]
    split <;> split <;> rfl
  rw [applyGlobal_only]
  refine ⟨rfl, fun hs => ?_⟩
  obtain ⟨notLoading, notReading⟩ := hs.pastReads (.inl run)
  exact .of_pastReads ⟨notLoading, notReading⟩ hs.urgent hs.bulk (list.symm ▸ hs.list) hs.urgentWait
    hs.bulkWait

theorem Grows.applyStation (old : StationCfg) (i : Fin 32) (s : State) :
    Grows 0 s (s.applyStation old i) := by
  have latched (k : StationCfg) (t : State) : Grows 0 t (t.staleLatch k) :=
    .ite (.of_ctl rfl ⟨rfl, rfl⟩) (.refl t)
  have qualified (t : State) (q : Qualifiers) : Grows 0 t (t.setQual i q) :=
    .of_qual (setQual_only ..) fun _ => .setQual ..
  have reset : Grows 0 s (s.setStation i Station.reset) := .of_ctl rfl ⟨rfl, rfl⟩
  have restarted : Grows 0 s (s.restartStation old i) :=
    (((reset.trans (latched ..)).trans (latched ..)).trans (.freshnessEvent ..)).trans (qualified ..)
  have forgotten (t : State) : Grows 0 t (t.resetQualifiers i) :=
    .of_qual (resetQualifiers_only ..) fun due => (pendingBounded_closed due).resetQualifiers ..
  have late : Grows 0 s (if old.lateLimit ≠ (s.live.stationCfg i).lateLimit ∧ s.lateDue i = true
      then s.lateExpires i else s) := .ite (.lateExpires ..) (.refl s)
  exact .ite (.ite (.ite (late.trans (forgotten _)) late) (.refl s)) restarted

/-- R164: the block that holds state for the entry. -/
theorem State.applyEntry_kept (old : Live) (kind : EntryKind) (i : Nat) {s : State}
    (run : s.partState = .run) : QueuesKept s (s.applyEntry old kind i) := by
  unfold State.applyEntry
  split
  · exact State.applyGlobal_kept _ run
  · split
    · exact (Grows.of_qual (applyPass_only ..) fun due => (pendingBounded_closed due).applyPass ..).same
    · exact .refl s
  · split
    · exact (Grows.onCtl fun due _ _ hc => (pendingBounded_closed due).applyOutlet hc).same
    · exact .refl s
  · split
    · exact (Grows.onCtl fun due _ _ hc => (pendingBounded_closed due).applyTip hc).same
    · exact .refl s
  · split
    · exact (Grows.applyStation ..).same
    · exact .refl s

theorem State.applyConfig_kept (kind : EntryKind) (i : Nat) (x : RawEntry) (w : Word) {s : State}
    (run : s.partState = .run) : QueuesKept s (s.applyConfig kind i x w) := by
  have replaced : Grows 0 s { s with live := s.live.replace kind i x, identity := w } :=
    .of_ctl rfl ⟨rfl, rfl⟩
  have applied := State.applyEntry_kept s.live kind i
    (s := { s with live := s.live.replace kind i x, identity := w }) run
  exact (replaced.same.trans applied).trans
    (Grows.onCtl fun due _ _ hc => (pendingBounded_closed due).report _ _ _ _ _ _ _ _ hc).same

/-! ### The maintenance link -/

theorem State.setLink_kept (f : Link → Link) (s : State) : QueuesKept s (s.setLink f) :=
  Grows.same (.of_ctl rfl ⟨rfl, rfl⟩)

theorem State.respond_kept (unit code : Octet) (status : Status) (payload : List Octet) (s : State) :
    QueuesKept s (s.respond unit code status payload) := s.setLink_kept _

theorem State.changeEntry_kept (unit : Octet) (kind : EntryKind) (i : Nat) (x : RawEntry) (w : Word)
    {s : State} (run : s.partState = .run) : QueuesKept s (s.changeEntry unit kind i x w) := by
  refine .ite (respond_kept ..) (.ite (respond_kept ..) (.ite (respond_kept ..) ?_))
  split
  · exact respond_kept ..
  · exact (State.applyConfig_kept _ _ _ _ run).trans (respond_kept ..)

theorem State.answerWriteConfig_kept (unit : Octet) (payload : List Octet) {s : State}
    (run : s.partState = .run) : QueuesKept s (s.answerWriteConfig unit payload) := by
  unfold State.answerWriteConfig
  split
  · exact respond_kept ..
  · exact State.changeEntry_kept _ _ _ _ _ run

theorem QueuesKept.inFrame {f : State → State} {s : State} (hf : QueuesKept s (f s)) :
    QueuesKept s (s.inFrame f) := .ite hf (.refl s)

theorem QueuesKept.request {f : State → State} {s : State} (hf : QueuesKept s (f s)) (unit : Octet)
    (b : Bool) (payload : List Octet) : QueuesKept s (s.request unit b payload f) :=
  .inFrame (.ite (.ite (s.setLink_kept _) hf) (.refl s))

theorem QueuesKept.answerInRun {f : State → State} {s : State} (unit code : Octet)
    (hf : s.partState = .run → QueuesKept s (f s)) : QueuesKept s (s.answerInRun unit code f) := by
  unfold State.answerInRun
  split
  · next run => exact hf run
  all_goals exact State.respond_kept ..

theorem QueuesKept.withLength {f : State → State} {s : State} (hf : QueuesKept s (f s))
    (unit code : Octet) (n : Nat) (payload : List Octet) :
    QueuesKept s (s.withLength unit code n payload f) := .ite hf (State.respond_kept ..)

theorem State.answerReadConfig_kept (unit : Octet) (payload : List Octet) (s : State) :
    QueuesKept s (s.answerReadConfig unit payload) := by
  unfold State.answerReadConfig
  split <;> exact respond_kept ..

theorem State.answerReadStatus_kept (unit : Octet) (payload : List Octet) (s : State) :
    QueuesKept s (s.answerReadStatus unit payload) := by
  unfold State.answerReadStatus
  split <;> exact respond_kept ..

theorem State.answerClearCounters_kept (unit : Octet) (payload : List Octet) (s : State) :
    QueuesKept s (s.answerClearCounters unit payload) := by
  have cleared (which : Nat) : Grows 0 s (s.clearStations which) := by
    unfold State.clearStations
    exact .of_ctl rfl ⟨rfl, rfl⟩
  exact .ite (respond_kept ..) ((cleared _).same.trans (respond_kept ..))

theorem refuseHeldWrite_only (s : State) : s.refuseHeldWrite =
    { s with port := s.refuseHeldWrite.port, busReady := s.refuseHeldWrite.busReady } := by
  unfold State.refuseHeldWrite
  repeat' split
  all_goals rfl

/-- R165: an accepted RELOAD comes past the reads of SAFING. -/
theorem State.acceptReload_kept (unit : Octet) {s : State}
    (taken : s.partState = .run ∨ s.partState = .unconfigured) : QueuesKept s (s.acceptReload unit) := by
  unfold State.acceptReload
  rw [refuseHeldWrite_only]
  refine ⟨rfl, fun hs => ?_⟩
  obtain ⟨notLoading, notReading⟩ := hs.pastReads (taken.imp_right .inl)
  exact .of_pastReads ⟨notLoading, notReading⟩ hs.urgent hs.bulk hs.list hs.urgentWait hs.bulkWait

theorem State.answerReload_kept (unit : Octet) (s : State) : QueuesKept s (s.answerReload unit) := by
  unfold State.answerReload
  split
  · next run => exact .ite (State.acceptReload_kept _ (.inl run)) (respond_kept ..)
  · exact respond_kept ..
  · exact respond_kept ..
  · next unconfigured => exact State.acceptReload_kept _ (.inr unconfigured)

/-! ### The commands but the grant -/

theorem QueuesKept.of_quiet {f : State → State} {s t : State} (ht : quiet f s = .next t)
    (hf : QueuesKept s (f s)) : QueuesKept s t := by
  unfold quiet at ht
  split at ht <;> cases ht
  · exact .refl _
  · exact hf

theorem QueuesKept.of_event {f : State → State} {s t : State} (ht : event f s = .next t)
    (hf : QueuesKept s (f s)) : QueuesKept s t :=
  .of_quiet (f := fun u => (f u).seek) ht (hf.trans (Grows.seek _).same)

theorem QueuesKept.of_onCtl {f : Env → Ctl → Ctl} {s t : State}
    (ht : event (State.onCtl f) s = .next t)
    (hf : ∀ due e c, PendingBounded due c → PendingBounded due (f e c)) : QueuesKept s t :=
  .of_event ht (Grows.onCtl hf).same

theorem commitWrite_kept {k : Fin 24} {code tag : Octet} {s t : State}
    (ht : commitWrite k code tag s = .next t) : QueuesKept s t :=
  .of_event ht (.present (.inRun (State.demandWrite_kept ..)))

/-- Every command but a grant leaves image memory and keeps the bounds. -/
theorem exec_kept {c : Instr} {s t : State} (notGrant : c ≠ .arbiterGrant)
    (ht : exec c s = .next t) : QueuesKept s t := by
  have pending := pendingBounded_closed
  cases c
  all_goals
    dsimp only [exec, execFullReset, execFullResetEnd, execMsTick, execConfigLoadComplete,
      execSafingSetpointRead, execSafingEnd, execUpstreamRead, execPassThroughWrite, execRefusedWrite,
      execStationPayloadWrite, execClosingWordWrite, execSetpointWrite, execReadIndexWrite,
      execDrainerPlaceGroup, execJournalRecordWrite, execGapRecordWrite,
      execJournalControlZeroPlace, execMirrorGroupPlace, execMirrorPeriodExpiry,
      execDwellIntervalExpiry, execDisagreementExpiry, execChuteNoFlowReport, execDeferralExpiry,
      execLateTimerExpiry, execDropoutExpiry, execOpenTimeout, execFlowStartTimeout,
      execCycleDrawTimeout, execIndexTimeout, execCloseTimeout, execParkTimeout, execFrameAbort,
      execFrameDropped, execFrameDroppedBusy, execFrameIgnored, execUnknownRequest, execIdentify,
      execReadConfig, execWriteConfig, execReadStatus, execClearCounters, execReload, execResponseEnd,
      execFrameOpeningDelimiter, execFrameDroppedAt69thOctet] at ht
  case fullReset => cases ht; exact s.fullReset_kept
  case fullResetEnd => cases ht; exact s.fullResetEnd_kept
  case msTick => exact .of_quiet ht (Grows.same (.of_ctl rfl ⟨rfl, rfl⟩))
  case configLoadComplete image =>
    refine .of_event ht ?_
    split
    · next starts => exact State.completeLoad_kept image starts.2
    · exact .refl s
  case safingSetpointRead =>
    refine .of_event ht ?_
    split
    · next reads => exact .ite (.refl s) (State.readSetPoint_kept reads)
    all_goals exact .refl s
  case safingEnd =>
    refine .of_event ht ?_
    split
    · next done => exact State.enterRun_kept done
    · exact .refl s
  case upstreamRead => exact .of_quiet ht (.present (s.hold_grows _).same)
  case passThroughWrite => exact .of_quiet ht (.present (.ite (s.hold_grows _).same (.refl s)))
  case refusedWrite => exact .of_quiet ht (.present (.ite s.ready_grows.same (.refl s)))
  case stationPayloadWrite =>
    exact .of_quiet ht (.present (.inRun (Grows.same (.of_ctl rfl ⟨rfl, rfl⟩))))
  case closingWordWrite => exact .of_event ht (.present (.inRun (s.closingWrite_kept ..)))
  case setpointWrite =>
    exact .of_quiet ht (.present (.inRun (Grows.same (.of_ctl rfl ⟨rfl, rfl⟩))))
  case commitBadCode k code tag =>
    unfold execCommitBadCode at ht
    split at ht
    · exact commitWrite_kept ht
    · cases ht; exact .refl s
  case close | draw | adjust | stopAfter | forceClose | withdraw | permit | boomWork | boomPark | lockout
    | run | releaseHangup | declareWet | clearWet | emptyOut | rebaseFromLevel | setInventory =>
    exact commitWrite_kept ht
  case readIndexWrite => exact .of_quiet ht (.present (.inRun (s.readIndexWrite_kept ..)))
  case arbiterGrant => exact absurd rfl notGrant
  case drainerPlaceGroup => exact .of_event ht ((Grows.drain s).kept (le_refl _))
  case journalRecordWrite => exact .of_quiet ht s.writeHead_kept
  case gapRecordWrite => exact .of_quiet ht s.writeGap_kept
  case journalControlZeroPlace => exact .of_quiet ht s.placeZeros_kept
  case mirrorGroupPlace => exact .of_quiet ht s.publish_kept
  case mirrorPeriodExpiry =>
    refine .of_quiet ht (.ite ?_ (.refl s))
    unfold State.periodExpires
    split
    · exact .refl s
    · exact .ite (Grows.same (.of_ctl rfl ⟨rfl, rfl⟩)) (Grows.same (.of_ctl rfl ⟨rfl, rfl⟩))
  case dwellIntervalExpiry => exact .of_onCtl ht fun due _ _ hc => (pending due).dwellEvent hc
  case disagreementExpiry => exact .of_onCtl ht fun due _ _ hc => (pending due).disagreementEvent hc
  case chuteNoFlowReport => exact .of_onCtl ht fun due _ _ hc => (pending due).takeNoFlow hc
  case deferralExpiry => exact .of_onCtl ht fun due _ _ hc => (pending due).deferralEvent hc
  case lateTimerExpiry => exact .of_event ht (.ite (Grows.lateExpires ..).same (.refl s))
  case dropoutExpiry => exact .of_event ht (.ite (Grows.dropoutExpires ..).same (.refl s))
  case openTimeout => exact .of_onCtl ht fun due _ _ hc => (pending due).openTimeoutEvent hc
  case flowStartTimeout => exact .of_onCtl ht fun due _ _ hc => (pending due).flowStartTimeoutEvent hc
  case cycleDrawTimeout => exact .of_onCtl ht fun due _ _ hc => (pending due).cycleDrawTimeoutEvent hc
  case indexTimeout => exact .of_onCtl ht fun due _ _ hc => (pending due).indexTimeoutEvent hc
  case closeTimeout => exact .of_onCtl ht fun due _ _ hc => (pending due).closeTimeoutEvent hc
  case parkTimeout => exact .of_onCtl ht fun due _ _ hc => (pending due).parkTimeoutEvent hc
  case frameAbort => exact .of_quiet ht (.inFrame (s.setLink_kept _))
  case frameDropped => exact .of_quiet ht (.inFrame (s.setLink_kept _))
  case frameDroppedBusy => exact .of_quiet ht (.request (.refl s) ..)
  case frameIgnored => exact .of_quiet ht (.refl s)
  case unknownRequest => exact .of_quiet ht (.ite (.request (State.respond_kept ..) ..) (.refl s))
  case identify => exact .of_quiet ht (.request (.withLength (State.respond_kept ..) ..) ..)
  case readConfig =>
    exact .of_quiet ht (.request (.withLength (.answerInRun _ _ fun _ =>
      s.answerReadConfig_kept ..) ..) ..)
  case writeConfig =>
    exact .of_event ht (.request (.withLength (.answerInRun _ _ fun run =>
      State.answerWriteConfig_kept _ _ run) ..) ..)
  case readStatus =>
    exact .of_quiet ht (.request (.withLength (.answerInRun _ _ fun _ =>
      s.answerReadStatus_kept ..) ..) ..)
  case clearCounters =>
    exact .of_quiet ht (.request (.withLength (.answerInRun _ _ fun _ =>
      s.answerClearCounters_kept ..) ..) ..)
  case reload => exact .of_quiet ht (.request (.withLength (s.answerReload_kept _) ..) ..)
  case responseEnd => exact .of_quiet ht s.endResponse_kept
  case frameOpeningDelimiter => exact .of_quiet ht (s.setLink_kept _)
  case frameDroppedAt69thOctet => exact .of_quiet ht (.inFrame (s.setLink_kept _))

/-- Settles O54: every command but a grant by what it leaves of image memory. -/
theorem memoryChangesOnlyAtAGrant : Obligations.MemoryChangesOnlyAtAGrant := by
  unfold Obligations.MemoryChangesOnlyAtAGrant
  exact fun _ _ _ notGrant ht => (exec_kept notGrant ht).mem

/-! ### The grant -/

/-- R51: a grant writes memory in the canonical form, and keeps the bounds. -/
structure GrantKeeps (s t : State) : Prop where
  mem : s.memoryCanonical → t.memoryCanonical
  bounds : s.QueuesBounded → t.QueuesBounded

theorem GrantKeeps.trans {s t u : State} (h : GrantKeeps s t) (g : GrantKeeps t u) : GrantKeeps s u :=
  ⟨g.mem ∘ h.mem, g.bounds ∘ h.bounds⟩

theorem QueuesKept.granted {s t : State} (h : QueuesKept s t) : GrantKeeps s t :=
  ⟨fun hs => by unfold State.memoryCanonical; rw [h.mem]; exact hs, h.bounds⟩

theorem waitAfter_le (waiting granted : Bool) (count : Nat) : waitAfter waiting granted count ≤ 16 := by
  unfold waitAfter
  split <;> omega

theorem State.countGrant_kept (g : Grant) (s : State) : QueuesKept s (s.countGrant g) :=
  ⟨rfl, fun hs => ⟨hs.urgent, hs.bulk, hs.list, waitAfter_le .., waitAfter_le .., hs.loading, hs.reading⟩⟩

/-- R34, R146: what the upstream transaction writes, no queue reads. -/
theorem State.performUpstream_keeps (s : State) : GrantKeeps s s.performUpstream := by
  have reindexed (take : Bool) (c : Ctl) (r : Nat) :
      (if take then { c with journal := { c.journal with r := r } } else c).journal.list =
        c.journal.list ∧
      (if take then { c with journal := { c.journal with r := r } } else c).journal.zeroDue =
        c.journal.zeroDue := by cases take <;> exact ⟨rfl, rfl⟩
  unfold State.performUpstream
  split
  · exact (QueuesKept.refl s).granted
  split
  · exact ⟨id, fun hs => ⟨hs.urgent, hs.bulk, hs.list, hs.urgentWait, hs.bulkWait, hs.loading, hs.reading⟩⟩
  · exact ⟨fun hs => Memory.wf_writeLanes _ _ _ hs,
      fun hs => ⟨hs.urgent, hs.bulk, hs.list, hs.urgentWait, hs.bulkWait, hs.loading, hs.reading⟩⟩
  · next x _ _ take _ =>
    obtain ⟨list, due⟩ := reindexed take s.ctl x.data.toNat
    refine ⟨fun hs => Memory.wf_writeWord _ _ hs, fun hs => ⟨hs.urgent, hs.bulk, list.symm ▸ hs.list,
      hs.urgentWait, hs.bulkWait, fun loading => ?_, fun k w rest reads => ?_⟩⟩
    · obtain ⟨starting, off, bulk, bases, zeroDue⟩ := hs.loading loading
      exact ⟨starting, off, bulk, bases, due.trans zeroDue⟩
    · obtain ⟨safing, zeroDue, bulk⟩ := hs.reading k w rest reads
      exact ⟨safing, due.trans zeroDue, bulk⟩
  all_goals exact (QueuesKept.refl s).granted

/-- R49: the head group leaves the queue before the write that waited for its room is taken. -/
theorem State.performUrgent_keeps (s : State) : GrantKeeps s s.performUrgent := by
  unfold State.performUrgent
  split
  · exact (QueuesKept.refl s).granted
  · next g rest urgent =>
    refine GrantKeeps.trans (t := { s with urgent := rest, mem := Memory.writeEntries g s.mem })
      ⟨fun hs => Memory.wf_writeEntries g hs, fun hs => ?_⟩ (State.takeStretched_kept _).granted
    have count : s.urgentCount = g.length + (rest.map List.length).sum := by
      simp [State.urgentCount, urgent]
    have bounded := hs.urgent
    refine ⟨?_, hs.bulk, hs.list, hs.urgentWait, hs.bulkWait, hs.loading, hs.reading⟩
    show (rest.map List.length).sum ≤ 32
    omega

/-- R50: the head word leaves the queue. -/
theorem State.performBulk_keeps {s : State} (notReading : ∀ k w rest, s.safing ≠ .reads k w rest) :
    GrantKeeps s s.performBulk := by
  unfold State.performBulk
  split
  · exact (QueuesKept.refl s).granted
  · next w rest bulk =>
    refine ⟨fun hs => Memory.wf_writeWord _ _ hs, fun hs => ?_⟩
    have notLoading : s.loading = false := by
      by_contra loading
      have empty := (hs.loading (by simpa using loading)).2.2.1
      simp [bulk] at empty
    have bounded := hs.bulk
    rw [bulk, List.length_cons] at bounded
    exact .of_pastReads ⟨notLoading, notReading⟩ hs.urgent (by show rest.length ≤ 16; omega) hs.list
      hs.urgentWait hs.bulkWait

theorem State.grant_keeps (s : State) : GrantKeeps s s.grant := by
  have counted (g : Grant) : GrantKeeps s (s.countGrant g) := (s.countGrant_kept g).granted
  unfold State.grant
  split
  · next reads =>
    split
    · exact s.performUpstream_keeps
    · exact (State.readSetPoint_kept reads).granted
  all_goals
    next stage =>
      have notReading : ∀ k w rest, s.safing ≠ .reads k w rest := by simp [stage]
      split
      · exact (counted _).trans (State.performUpstream_keeps _)
      · exact (counted _).trans (State.performUrgent_keeps _)
      · exact (counted _).trans (State.performBulk_keeps notReading)
      · exact (QueuesKept.refl s).granted

/-- Every command keeps the canonical form and the bounds. -/
theorem exec_keeps {c : Instr} {s t : State} (ht : exec c s = .next t) : GrantKeeps s t := by
  by_cases isGrant : c = .arbiterGrant
  · subst isGrant
    simp only [exec, execArbiterGrant, event, quiet] at ht
    split at ht <;> cases ht
    · exact (QueuesKept.refl _).granted
    · exact s.grant_keeps.trans (Grows.seek _).same.granted
  · exact (exec_kept isGrant ht).granted

theorem step_keeps {s t : State} (ht : step s = .next t) : GrantKeeps s t := by
  unfold step at ht
  split at ht
  · cases ht; exact (QueuesKept.refl _).granted
  · next c rest _ =>
    have taken : Grows 0 s { s with pending := rest } := .of_ctl rfl ⟨rfl, rfl⟩
    exact taken.same.granted.trans (exec_keeps ht)

/-- Settles O57: a grant writes memory by operations that keep the form, and no other command writes it. -/
theorem stepKeepsMemoryCanonical : Obligations.StepKeepsMemoryCanonical := by
  unfold Obligations.StepKeepsMemoryCanonical
  exact fun _ _ canonical ht => (step_keeps ht).mem canonical

/-- Settles O58: the urgent queue grows within its room, the bulk queue within its own, or past the reads of
SAFING by the two words of the safe writes. -/
theorem stepKeepsQueuesBounded : Obligations.StepKeepsQueuesBounded := by
  unfold Obligations.StepKeepsQueuesBounded
  exact fun _ _ bounded ht => (step_keeps ht).bounds bounded

end Sys2Proof.Machine
end

section
/-! Proofs: the writes of the upstream bus, O8 to O12 (R29 to R36, R40, R146). -/

namespace Sys2Proof.Machine

/-! ### The region of an address (R32) -/

theorem inRegion_iff {base len a : Nat} : inRegion base len a = true ↔ base ≤ a ∧ a < base + len := by
  simp [inRegion]

section
variable {r : Regions} {addr : Addr}

theorem find_of_station (h : r.station ≤ addr.toNat ∧ addr.toNat < r.station + 384) : r.find addr =
    .station (Fin.ofNat 32 ((addr.toNat - r.station) / 12)) ((addr.toNat - r.station) % 12) :=
  if_pos (inRegion_iff.2 h)

theorem find_of_not_station (h : ¬(r.station ≤ addr.toNat ∧ addr.toNat < r.station + 384)) :
    r.find addr =
      if inRegion r.command 144 addr.toNat then
        .command (Fin.ofNat 24 ((addr.toNat - r.command) / 6)) ((addr.toNat - r.command) % 6)
      else if inRegion r.control 2 addr.toNat then .control (addr.toNat - r.control)
      else if inRegion r.ring (8 * r.records) addr.toNat then .ring
      else if inRegion r.mirror 408 addr.toNat then .mirror
      else .ordinary := if_neg (inRegion_iff.not.2 h)

theorem find_of_command (notStation : ¬(r.station ≤ addr.toNat ∧ addr.toNat < r.station + 384))
    (h : r.command ≤ addr.toNat ∧ addr.toNat < r.command + 144) : r.find addr =
      .command (Fin.ofNat 24 ((addr.toNat - r.command) / 6)) ((addr.toNat - r.command) % 6) :=
  (find_of_not_station notStation).trans (if_pos (inRegion_iff.2 h))

theorem find_of_neither (notStation : ¬(r.station ≤ addr.toNat ∧ addr.toNat < r.station + 384))
    (notCommand : ¬(r.command ≤ addr.toNat ∧ addr.toNat < r.command + 144)) : r.find addr =
      if r.control ≤ addr.toNat ∧ addr.toNat < r.control + 2 then .control (addr.toNat - r.control)
      else if r.ring ≤ addr.toNat ∧ addr.toNat < r.ring + 8 * r.records then .ring
      else if r.mirror ≤ addr.toNat ∧ addr.toNat < r.mirror + 408 then .mirror
      else .ordinary := by
  simp only [find_of_not_station notStation, inRegion_iff, if_neg notCommand]

end

/-! ### The initiator (R30) -/

theorem ofTag_eq_scanner (tag : BitVec 2) : Initiator.ofTag tag = .scanner ↔ tag = 1 := by
  revert tag; decide

theorem ofTag_eq_controller (tag : BitVec 2) : Initiator.ofTag tag = .controller ↔ tag = 0 := by
  revert tag; decide

/-! ### The treatment of a write (R31, R32) -/

section
variable {s : State} {addr : Addr} {tag lanes : BitVec 2}

theorem treatment_outside_run (h : s.partState ≠ .run) : s.treatment addr tag lanes = .refused := if_neg h

theorem treatment_run (h : s.partState = .run) :
    s.treatment addr tag lanes = (s.regions.find addr).treat lanes (Initiator.ofTag tag) := if_pos h

theorem treatment_taken (h : s.treatment addr tag lanes = .taken) :
    (s.regions.find addr).treat lanes (Initiator.ofTag tag) = .taken := by
  by_cases run : s.partState = .run
  · rwa [treatment_run run] at h
  · rw [treatment_outside_run run] at h
    exact nomatch h

/-! ### The command that a write is -/

theorem busWrite_taken {data : Word} (h : s.treatment addr tag lanes = .taken) :
    s.busWrite addr tag lanes data =
      match s.regions.find addr with
      | .station k word => stationCommand k word data
      | .command k word => slotCommand k word data
      | .control _ => .readIndexWrite data
      | _ => .refusedWrite addr tag lanes data := by
  unfold State.busWrite
  rw [h]
  cases s.regions.find addr <;> rfl

theorem busWrite_station {data : Word} {k : Fin 32} {w : Nat} (h : s.treatment addr tag lanes = .taken)
    (lt : w < 12) (at_ : addr.toNat = s.regions.station + 12 * k.val + w) :
    s.busWrite addr tag lanes data = stationCommand k w data := by
  have slot : (addr.toNat - s.regions.station) / 12 = k.val := by omega
  have word : (addr.toNat - s.regions.station) % 12 = w := by omega
  rw [busWrite_taken h, find_of_station (by omega), slot, word]
  simp

theorem busWrite_command {data : Word} {k : Fin 24} {w : Nat} (h : s.treatment addr tag lanes = .taken)
    (notStation : ¬(s.regions.station ≤ addr.toNat ∧ addr.toNat < s.regions.station + 384))
    (lt : w < 6) (at_ : addr.toNat = s.regions.command + 6 * k.val + w) :
    s.busWrite addr tag lanes data = slotCommand k w data := by
  have slot : (addr.toNat - s.regions.command) / 6 = k.val := by omega
  have word : (addr.toNat - s.regions.command) % 6 = w := by omega
  rw [busWrite_taken h, find_of_command notStation (by omega), slot, word]
  simp

theorem busWrite_control {data : Word} (h : s.treatment addr tag lanes = .taken)
    (notStation : ¬(s.regions.station ≤ addr.toNat ∧ addr.toNat < s.regions.station + 384))
    (notCommand : ¬(s.regions.command ≤ addr.toNat ∧ addr.toNat < s.regions.command + 144)) :
    s.busWrite addr tag lanes data = .readIndexWrite data := by
  have taken := treatment_taken h
  rw [busWrite_taken h]
  rw [find_of_neither notStation notCommand] at taken ⊢
  by_cases control : s.regions.control ≤ addr.toNat ∧ addr.toNat < s.regions.control + 2
  · rw [if_pos control]
  · rw [if_neg control] at taken
    split at taken
    · exact nomatch taken
    · split at taken <;> exact nomatch taken

end

/-- Settles O8: the region of the address, and in it the word, the lanes and the initiator. -/
theorem writeTreatment : Obligations.WriteTreatment := by
  unfold Obligations.WriteTreatment
  intro s addr tag lanes a r station command control ring mirror
  refine ⟨treatment_outside_run, fun run => ⟨?ordinary, ?station, ?command, ?control, ?guarded⟩,
    fun data => ⟨?passes, ?refused, fun taken => ⟨?payload, ?closing, ?slots, ?index⟩⟩⟩
  case ordinary =>
    rintro ⟨notStation, notCommand, notControl, notRing, notMirror⟩
    rw [treatment_run run, find_of_neither notStation notCommand, if_neg notControl, if_neg notRing,
      if_neg notMirror]
    rfl
  case station =>
    intro inStation
    rw [treatment_run run, find_of_station inStation]
    simp only [Region.treat, ofTag_eq_scanner]
    rfl
  case command =>
    rintro ⟨notStation, inCommand⟩
    rw [treatment_run run, find_of_command notStation inCommand]
    simp only [Region.treat, ofTag_eq_controller]
    rfl
  case control =>
    rintro ⟨notStation, notCommand, inControl⟩
    rw [treatment_run run, find_of_neither notStation notCommand, if_pos inControl]
    simp only [Region.treat, ofTag_eq_controller]
    rfl
  case guarded =>
    rintro ⟨notStation, notCommand, notControl, inGuarded⟩
    rw [treatment_run run, find_of_neither notStation notCommand, if_neg notControl]
    by_cases inRing : ring
    · rw [if_pos inRing]; rfl
    · rw [if_neg inRing, if_pos (inGuarded.resolve_left inRing)]; rfl
  case passes => intro passes; simp only [State.busWrite, passes]
  case refused => intro refused; simp only [State.busWrite, refused]
  case payload =>
    intro k w at_
    rw [busWrite_station taken (by omega) at_]
    exact dif_pos w.isLt
  case closing =>
    intro k at_
    rw [busWrite_station taken (by decide) at_]
    rfl
  case slots =>
    intro notStation
    refine ⟨fun k w at_ => ?_, fun k at_ => ?_⟩
    · rw [busWrite_command taken notStation (by omega) at_]
      exact dif_pos w.isLt
    · rw [busWrite_command taken notStation (by decide) at_]
      exact ⟨demandCommand_slot k data, demandCommand_word k data, demandCommand_wellFormed k data⟩
  case index =>
    rintro ⟨notStation, notCommand⟩
    exact busWrite_control taken notStation notCommand

/-! ### The shape of a bus command -/

/-- On a port that holds nothing, completion is the ready line alone. -/
theorem ready_of_free {s : State} (free : s.port = none) : s.ready = { s with busReady := true } := by
  unfold State.ready
  rw [← free]

section
variable {s : State} {f : State → State}

theorem quiet_released (released : s.resetAsserted = false) : quiet f s = .next (f s) := by
  simp [quiet, released]

theorem event_released (released : s.resetAsserted = false) : event f s = .next (f s).seek :=
  quiet_released released

theorem present_free (free : s.port = none) : s.present f = f s := by simp [State.present, free]

theorem inRun_run (run : s.partState = .run) : s.inRun f = f s := if_pos run

theorem inRun_outside (h : s.partState ≠ .run) : s.inRun f = s.ready := if_neg h

/-- Outside RUN a write is completed at once. -/
theorem present_inRun_outside (free : s.port = none) (h : s.partState ≠ .run) :
    State.present (State.inRun f) s = { s with busReady := true } := by
  rw [present_free free, inRun_outside h, ready_of_free free]

end

/-! ### The commits -/

/-- A commit is the write of its demand word; a COMMIT_BAD_CODE only with a code outside its list (log 1). -/
theorem exec_commit {c : Instr} {k : Fin 24} {d : Word} (slot : commitSlot c = some k)
    (word : commitWord c = some d)
    (bad : ∀ j code tag, c = .commitBadCode j code tag → orderCodeBad j code = true) (s : State) :
    exec c s = event (State.present (State.inRun (State.demandWrite k d))) s := by
  cases c
  case commitBadCode j code tag =>
    obtain rfl := Option.some.inj slot
    obtain rfl := Option.some.inj word
    exact if_pos (bad _ _ _ rfl)
  case close | draw | adjust | stopAfter | forceClose | withdraw | permit | boomWork | boomPark | lockout
    | run | releaseHangup | declareWet | clearWet | emptyOut | rebaseFromLevel | setInventory =>
    obtain rfl := Option.some.inj slot
    obtain rfl := Option.some.inj word
    rfl
  all_goals exact nomatch slot

/-- A command on a command slot has a demand word. -/
theorem commitWord_of_commitSlot {c : Instr} (h : (commitSlot c).isSome = true) :
    ∃ d, commitWord c = some d := by
  cases c
  case commitBadCode | close | draw | adjust | stopAfter | forceClose | withdraw | permit | boomWork
    | boomPark | lockout | run | releaseHangup | declareWet | clearWet | emptyOut | rebaseFromLevel
    | setInventory => exact ⟨_, rfl⟩
  all_goals exact nomatch h

/-- Settles O9: a held transaction and a completed one, by the treatment of the write. -/
theorem readsWaitAndRefusedWritesComplete : Obligations.ReadsWaitAndRefusedWritesComplete := by
  unfold Obligations.ReadsWaitAndRefusedWritesComplete
  refine ⟨fun s addr tag lanes data released free => ⟨?read, fun passes => ?write⟩,
    fun s addr tag lanes data released free refused => ?refused⟩
  case read =>
    refine (quiet_released released).trans ?_
    rw [present_free free]
    rfl
  case write =>
    refine (quiet_released released).trans ?_
    rw [present_free free, if_pos passes]
    rfl
  case refused =>
    refine (quiet_released released).trans ?_
    rw [present_free free, if_pos refused, ready_of_free free]

/-- Settles O10: every guarded write outside RUN is completed by `State.inRun`. -/
theorem writesOutsideRunAreRefused : Obligations.WritesOutsideRunAreRefused := by
  unfold Obligations.WritesOutsideRunAreRefused
  intro s c released free outside kind
  have quietly (f : State → State) : quiet (State.present (State.inRun f)) s =
      .next { s with busReady := true } := by
    rw [quiet_released released, present_inRun_outside free outside]
  have eventful (f : State → State) : ∃ t, event (State.present (State.inRun f)) s = .next t ∧
      t = { s with busReady := true, drainer := t.drainer } := by
    rw [event_released released, present_inRun_outside free outside]
    exact ⟨_, rfl, seek_only { s with busReady := true }⟩
  rcases kind with ⟨k, w, v, rfl⟩ | ⟨k, w, v, rfl⟩ | ⟨v, rfl⟩ | ⟨k, v, rfl⟩ | ⟨bad, isCommit⟩
  · exact ⟨_, quietly _, rfl⟩
  · exact ⟨_, quietly _, rfl⟩
  · exact ⟨_, quietly _, rfl⟩
  · exact eventful _
  · obtain ⟨k, slot⟩ := Option.isSome_iff_exists.1 isCommit
    obtain ⟨d, word⟩ := commitWord_of_commitSlot isCommit
    rw [exec_commit slot word fun j code tag h => bad j code tag h]
    exact eventful _

/-- R40: one set-point staged, the others as they were. -/
theorem staged_put (w : Fin 3) (v : Word) (x : Staged) : x.put w v =
    { a := if w = 0 then some v else x.a
      b := if w = 1 then some v else x.b
      c := if w = 2 then some v else x.c } := by
  match w with
  | 0 => rfl
  | 1 => rfl
  | 2 => rfl

/-- Settles O11: one word of one slot. -/
theorem stagingWrites : Obligations.StagingWrites := by
  unfold Obligations.StagingWrites
  intro s v ⟨released, free, run⟩
  refine ⟨fun k w => ?payload, fun k w => ?setPoint⟩
  case payload =>
    refine (quiet_released released).trans ?_
    rw [present_free free, inRun_run run, ready_of_free (by exact free)]
    rfl
  case setPoint =>
    have staged : exec (.setpointWrite k w v) s =
        .next { s.stageSetPoint k w v with busReady := true } := by
      refine (quiet_released released).trans ?_
      rw [present_free free, inRun_run run, ready_of_free (by exact free)]
    refine ⟨_, staged, rfl, fun j other => Ctl.slot_updSlot_other _ _ other.symm, ?_⟩
    rw [← staged_put]
    exact Ctl.slot_updSlot_same ..

theorem admits_iff (s : State) (v : Nat) : s.admits v = true ↔
    v < s.regions.records ∧ (v + s.regions.records - s.ctl.journal.r) % s.regions.records ≤
      (s.ctl.journal.w + s.regions.records - s.ctl.journal.r) % s.regions.records := by
  simp [State.admits]

/-- Settles O12: the value is held or counted as the Journal Writer admits it. -/
theorem readIndexIsChecked : Obligations.ReadIndexIsChecked := by
  unfold Obligations.ReadIndexIsChecked
  intro s v ⟨released, free, run⟩ n j ok
  have taken : exec (.readIndexWrite v) s = .next (s.readIndexWrite v) := by
    refine (quiet_released released).trans ?_
    rw [present_free free, inRun_run run]
  rw [taken]
  refine ⟨fun admitted => ?_, fun refused => ?_⟩
  · rw [State.readIndexWrite, if_pos ((admits_iff s v.toNat).2 admitted)]
    rfl
  · rw [State.readIndexWrite, if_neg ((admits_iff s v.toNat).not.2 refused),
      ready_of_free (by exact free)]

end Sys2Proof.Machine
end

section
/-! Proofs: O28, the checks of a DRAW (R43, R96, R97). -/

namespace Sys2Proof.Machine

theorem ownerOf_outletSlot (n : Fin 8) : ownerOf (outletSlot n) = .outlet n := by
  revert n; decide

theorem judgeCommit_outletSlot (e : Env) (n : Fin 8) (cm : Commit) (c : Ctl) :
    judgeCommit e (outletSlot n) cm c = commitOutlet e n cm c := by
  unfold judgeCommit
  rw [ownerOf_outletSlot]

/-- A judgement that touches the slot alone reaches no other outlet. -/
theorem commitOutlet_of_slot {e : Env} {n : Fin 8} {cm : Commit} {c d : Ctl}
    (judged : judgeOutlet e n cm c = d) (outlets : d.outlets = c.outlets)
    (passes : d.passes = c.passes) : commitOutlet e n cm c = d := by
  simp only [commitOutlet, judged]
  rw [if_pos]
  simp [Ctl.outlet, Ctl.pass, outlets, passes]

/-- R96, R97: a DRAW is judged by its presence and its table of checks. -/
theorem judgeOutlet_draw {e : Env} {n : Fin 8} {cm : Commit} (draw : cm.code = 1) (c : Ctl) :
    judgeOutlet e n cm c =
      if (e.outletCfg n).present = false then c.refuse (outletSlot n) cm.tag .notConfigured
      else judgeDraw e n cm c := by
  simp [judgeOutlet, draw]

/-- R43: a commit that its judgement defers under a limit that is not 0. -/
theorem commitWrite_deferred {s : State} {k : Fin 24} {code tag : Octet} {r : Reason} {limit : Nat}
    (takes : s.takesCommits) (deferred : limit ≠ 0)
    (judged : judgeCommit s.env k (s.commitOf k code tag) (s.freshCtl k) =
      (s.freshCtl k).defer s.env k (s.commitOf k code tag) r limit) :
    ∃ t, commitWrite k code tag s = .next t ∧
      s.deferredWith t k (s.commitOf k code tag) r limit := by
  rw [Ctl.defer, if_neg deferred] at judged
  obtain ⟨t, ran, answered, after⟩ := commitWrite_taken takes judged (by
    simp [CommandSlot.putVerdict, WriteBack.marked, WriteBack.words])
  refine ⟨t, ran, ?_, ?_⟩
  · simpa [CommandSlot.putVerdict, State.verdictGroup, Verdict.code] using answered
  · rw [after]
    simp [Ctl.updSlot, State.freshCtl, CommandSlot.putVerdict, setSlot_setSlot, State.env]

section
variable {s : State} {n : Fin 8} {tag : Octet} {r : Reason}

/-- R97: what the checks of a DRAW find in the state that its commit leaves to them. -/
def State.drawJudgement (s : State) (n : Fin 8) (tag : Octet) : Judgement :=
  drawCheck s.env n (s.commitOf (outletSlot n) 1 tag) (s.freshCtl (outletSlot n))

theorem draw_judged (y : Ctl)
    (judged : judgeOutlet s.env n (s.commitOf (outletSlot n) 1 tag) (s.freshCtl (outletSlot n)) = y)
    (outlets : y.outlets = (s.freshCtl (outletSlot n)).outlets)
    (passes : y.passes = (s.freshCtl (outletSlot n)).passes) :
    judgeCommit s.env (outletSlot n) (s.commitOf (outletSlot n) 1 tag) (s.freshCtl (outletSlot n)) = y := by
  rw [judgeCommit_outletSlot]
  exact commitOutlet_of_slot judged outlets passes

theorem draw_refused (takes : s.takesCommits)
    (refuses : (s.live.outletCfg n).present = false ∧ r = .notConfigured ∨
      (s.live.outletCfg n).present = true ∧ s.drawJudgement n tag = .refuse r) :
    ∃ t, exec (.draw n tag) s = .next t ∧ s.refusedWith t (outletSlot n) tag r := by
  refine commitWrite_refused takes (draw_judged _ ?_ rfl rfl)
  rw [judgeOutlet_draw (commitOf_code ..)]
  rcases refuses with ⟨absent, rfl⟩ | ⟨present, fails⟩
  · rw [if_pos (by exact absent), commitOf_tag]
  · rw [if_neg (by simpa [Env.outletCfg, State.env] using present), judgeDraw]
    unfold State.drawJudgement at fails
    rw [fails]
    simp only [commitOf_tag]

theorem draw_transient (present : (s.live.outletCfg n).present = true)
    (fails : s.drawJudgement n tag = .transient r) :
    judgeOutlet s.env n (s.commitOf (outletSlot n) 1 tag) (s.freshCtl (outletSlot n)) =
      (s.freshCtl (outletSlot n)).defer s.env (outletSlot n) (s.commitOf (outletSlot n) 1 tag) r
        s.live.globalCfg.outletLimit := by
  rw [judgeOutlet_draw (commitOf_code ..), if_neg (by simpa [Env.outletCfg, State.env] using present),
    judgeDraw]
  unfold State.drawJudgement at fails
  rw [fails]
  rfl

end

/-- Settles O28: the table of the checks, with the presence of the outlet before it. -/
theorem drawChecksInOrder : Obligations.DrawChecksInOrder := by
  unfold Obligations.DrawChecksInOrder
  intro s n tag k p cfg o r q cm limit permanent transient takes reason
  have checks : s.drawJudgement n tag = tableJudgement permanent.tail transient :=
    drawCheck_eq_table ..
  have first : firstFailing permanent = if (!(s.live.outletCfg n).present) = true
      then some .notConfigured else firstFailing permanent.tail := firstFailing_cons ..
  refine ⟨fun fails => ?refused, fun passes fails => ?transient⟩
  case refused =>
    refine draw_refused takes ?_
    rw [first] at fails
    cases present : (s.live.outletCfg n).present with
    | false => exact .inl ⟨rfl, by simpa [present, eq_comm] using fails⟩
    | true => exact .inr ⟨rfl, checks.trans (tableJudgement_refuse (by simpa [present] using fails))⟩
  case transient =>
    rw [first] at passes
    have present : (s.live.outletCfg n).present = true := by
      by_contra absent
      rw [Bool.not_eq_true] at absent
      simp [absent] at passes
    have judgement : s.drawJudgement n tag = .transient reason :=
      checks.trans (tableJudgement_defers (by simpa [present] using passes) fails)
    have judged := draw_transient present judgement
    by_cases none : limit = 0
    · have refused : judgeCommit s.env k (s.commitOf k 1 tag) (s.freshCtl k) =
          (s.freshCtl k).refuse k tag reason := by
        refine draw_judged _ ?_ rfl rfl
        rw [judged, Ctl.defer, if_pos none, commitOf_tag]
      obtain ⟨t, ran, result⟩ := commitWrite_refused takes refused
      exact ⟨t, ran, fun _ => result, fun some => absurd none some⟩
    · have deferred : judgeCommit s.env k (s.commitOf k 1 tag) (s.freshCtl k) =
          (s.freshCtl k).defer s.env k (s.commitOf k 1 tag) reason limit := by
        refine draw_judged _ judged ?_ ?_ <;> rw [Ctl.defer, if_neg none] <;> rfl
      obtain ⟨t, ran, result⟩ := commitWrite_deferred takes none deferred
      exact ⟨t, ran, fun zero => absurd zero none, fun _ => result⟩

end Sys2Proof.Machine
end

section
/-! Proofs: O52, RELOAD and the end of its response (R52, R158, R161, R162, R165). -/

namespace Sys2Proof.Machine

/-! ### A request that is taken (R160, R161) -/

/-- R160, R161: the frame is for the part, fits, and finds the link free. -/
theorem request_takes {s : State} {unit : Octet} {payload : List Octet} {f : State → State}
    (takes : s.takesRequest unit payload) : s.request unit false payload f = f s := by
  obtain ⟨_, rx, tx, fits, notBroadcast, forUnit⟩ := takes
  have taken : s.takes unit false = true := by
    unfold State.takes
    rw [if_neg notBroadcast]
    by_cases run : s.partState = .run
    · simp [run, forUnit run]
    · simp [run]
  simp [State.request, State.inFrame, rx, tx, taken, fitsFrame, fits]

/-- R162: RELOAD has no payload. -/
theorem exec_reload {s : State} {unit : Octet} {payload : List Octet}
    (takes : s.takesRequest unit payload) : exec (.reload unit payload) s =
      .next (if payload.length = 0 then s.answerReload unit else s.respond unit 6 .badLength []) :=
  (quiet_released takes.1).trans (by rw [request_takes takes]; rfl)

theorem respond_reload (unit : Octet) (status : Status) (s : State) : s.respond unit 6 status [] =
    { s with
      link := { s.link with
        tx := some { octets := withCheck [unit, 0x86, status.code], reload := false } } } := rfl

/-! ### The acceptance (R165) -/

theorem allLockedOut_iff (s : State) : s.allLockedOut = true ↔
    ∀ p, (s.live.passCfg p).present = true → (s.ctl.pass p).state = .lockout := by
  simp only [State.allLockedOut, List.all_eq_true, List.mem_finRange, true_implies, Bool.or_eq_true,
    Bool.not_eq_true', beq_iff_eq]
  exact forall_congr' fun p => by cases (s.live.passCfg p).present <;> simp

theorem answerReload_accepts {s : State} (unit : Octet)
    (h : (s.partState = .run ∧ s.allLockedOut = true) ∨ s.partState = .unconfigured) :
    s.answerReload unit = s.acceptReload unit := by
  unfold State.answerReload
  rcases h with ⟨run, locked⟩ | unconfigured
  · rw [run, if_pos locked]
  · rw [unconfigured]

theorem refuseHeldWrite_of_free {s : State} (free : s.port = none) : s.refuseHeldWrite = s := by
  unfold State.refuseHeldWrite
  rw [free]

theorem refuseHeldWrite_of_held {s : State} {x : Txn} (held : s.port = some x) :
    s.refuseHeldWrite = if x.write then s.ready else s := by
  unfold State.refuseHeldWrite
  rw [held]

/-- R165: a held write is completed. -/
theorem refuseHeldWrite_of_write {s : State} (h : ∃ x, s.port = some x ∧ x.write = true) :
    s.refuseHeldWrite.port = none ∧ s.refuseHeldWrite.busReady = true := by
  obtain ⟨x, held, write⟩ := h
  rw [refuseHeldWrite_of_held held, if_pos write]
  exact ⟨rfl, rfl⟩

/-- R165: a held read waits on. -/
theorem refuseHeldWrite_of_read {s : State} (h : ∀ x, s.port = some x → x.write = false) :
    s.refuseHeldWrite.port = s.port := by
  cases held : s.port with
  | none => rw [refuseHeldWrite_of_free held, held]
  | some x => rw [refuseHeldWrite_of_held held, if_neg (by simp [h x held]), held]

/-! ### The end of the response (R52, R158, R161) -/

theorem exec_responseEnd_of_answer {s : State} {octets : List Octet} (released : s.resetAsserted = false)
    (tx : s.link.tx = some { octets := octets, reload := false }) :
    exec .responseEnd s = .next { s with link := { s.link with tx := none } } := by
  refine (quiet_released released).trans ?_
  simp [State.endResponse, tx, State.setLink]

theorem completeHeld_of_free {s : State} (free : s.port = none) : s.completeHeld = s := by
  unfold State.completeHeld
  rw [free]

theorem completeHeld_busData {s : State} {x : Txn} (held : s.port = some x) :
    s.completeHeld.busData = if x.write = true then s.busData else Memory.readWord s.mem x.addr := by
  unfold State.completeHeld
  rw [held]
  dsimp only
  split <;> rfl

/-- R52: the completion touches the port and the bus outputs alone. -/
theorem completeHeld_only (s : State) : s.completeHeld = { s with
    port := s.completeHeld.port, busReady := s.completeHeld.busReady
    busData := s.completeHeld.busData } := by
  unfold State.completeHeld
  repeat' split
  all_goals rfl

/-- R158: a reload leaves the reset state with memory, the link counters and the bus outputs kept. -/
theorem reloadEffect_eq (s : State) : s.reloadEffect =
    { State.reset with
      mem := s.mem, busReady := s.completeHeld.busReady, busData := s.completeHeld.busData
      pending := s.pending, ctl := { Ctl.reset with freeCount := s.ctl.freeCount }
      startCause := .reload, link := { s.link with rx := .waiting, tx := none } } := by
  unfold State.reloadEffect State.cleared
  rw [completeHeld_only]

/-- Settles O52: the request by its length and the part state, the end of its response by the state that a
reload leaves. -/
theorem reloadAndResponseEnd : Obligations.ReloadAndResponseEnd := by
  unfold Obligations.ReloadAndResponseEnd
  refine ⟨fun s unit takes => ?request, fun s octets released => ⟨?answered, fun tx => ?reloads⟩,
    fun s unit payload takes filled => ?badLength⟩
  case request =>
    intro allLocked answer
    have ran : exec (.reload unit []) s = .next (s.answerReload unit) := exec_reload takes
    rw [ran]
    refine ⟨fun accepted => ?_, fun run locked => ?_, fun busy => ?_⟩
    · rw [answerReload_accepts unit (accepted.imp_left fun h => ⟨h.1, (allLockedOut_iff s).2 h.2⟩)]
      refine ⟨_, rfl, rfl, ?_, ?_, ?_, ?_, refuseHeldWrite_of_write, refuseHeldWrite_of_read⟩
      all_goals
        unfold State.acceptReload
        rw [refuseHeldWrite_only]
        rfl
    · have unlocked : s.allLockedOut = false := by
        rw [Bool.eq_false_iff]
        exact fun h => locked ((allLockedOut_iff s).1 h)
      simp only [State.answerReload, run, unlocked]
      rfl
    · rcases busy with starting | safing
      · simp only [State.answerReload, starting]; rfl
      · simp only [State.answerReload, safing]; rfl
  case answered => exact exec_responseEnd_of_answer released
  case reloads =>
    refine ⟨_, exec_responseEnd_of_reload released tx, ?_⟩
    rw [reloadEffect_eq]
    refine ⟨rfl, rfl, rfl, rfl, rfl, rfl, rfl, rfl, rfl, rfl, rfl, rfl, rfl, rfl, rfl, rfl, rfl, rfl, rfl,
      rfl, rfl, rfl, rfl, rfl, rfl, fun free => ?_, fun x held => ?_⟩
    · rw [completeHeld_of_free free]
      exact ⟨rfl, rfl⟩
    · exact ⟨State.completeHeld_busReady held, completeHeld_busData held⟩
  case badLength =>
    rw [exec_reload takes, if_neg (by simpa using filled)]
    rfl

end Sys2Proof.Machine
end

section
/-! Proofs: the grants of the Memory Port, O14 and O15 (R34, R35, R49 to R51, R148, R157). -/

namespace Sys2Proof.Machine

/-! ### A seek moves the drainer alone (R48) -/

theorem seek_eq (s : State) : s.seek = { s with drainer := s.seek.drainer } := seek_only s

@[simp] theorem seek_port (s : State) : s.seek.port = s.port := by rw [seek_eq]
@[simp] theorem seek_busReady (s : State) : s.seek.busReady = s.busReady := by rw [seek_eq]
@[simp] theorem seek_urgent (s : State) : s.seek.urgent = s.urgent := by rw [seek_eq]
@[simp] theorem seek_bulk (s : State) : s.seek.bulk = s.bulk := by rw [seek_eq]
@[simp] theorem seek_urgentWait (s : State) : s.seek.urgentWait = s.urgentWait := by rw [seek_eq]
@[simp] theorem seek_bulkWait (s : State) : s.seek.bulkWait = s.bulkWait := by rw [seek_eq]
@[simp] theorem seek_starvation (s : State) : s.seek.starvation = s.starvation := by rw [seek_eq]
@[simp] theorem seek_stationSlots (s : State) : s.seek.stationSlots = s.stationSlots := by rw [seek_eq]
@[simp] theorem seek_stations (s : State) : s.seek.stations = s.stations := by rw [seek_eq]
@[simp] theorem seek_quals (s : State) : s.seek.quals = s.quals := by rw [seek_eq]
@[simp] theorem seek_ctl (s : State) : s.seek.ctl = s.ctl := by rw [seek_eq]
@[simp] theorem seek_mem (s : State) : s.seek.mem = s.mem := by rw [seek_eq]
@[simp] theorem seek_live (s : State) : s.seek.live = s.live := by rw [seek_eq]
@[simp] theorem seek_clock (s : State) : s.seek.clock = s.clock := by rw [seek_eq]
@[simp] theorem seek_bases (s : State) : s.seek.bases = s.bases := by rw [seek_eq]

/-! ### Reads of what a write leaves -/

/-- A write of one byte leaves the others, in whatever form memory is held. -/
theorem read_write_other (b : BitVec 8) {a x : Nat} (h : x ≠ a) (m : List Host.Cell) :
    Memory.read (Memory.write a b m) x = Memory.read m x := by
  induction m with
  | nil =>
    unfold Memory.write
    split
    · rfl
    · simp [Memory.read, h.symm]
  | cons c rest ih =>
    unfold Memory.write
    split
    · split
      · rfl
      · simp [Memory.read, h.symm]
    · split
      · next same => split <;> simp [Memory.read, h.symm, ← same]
      · simp [Memory.read, ih]

theorem sameOutside_writeWord (e : Entry) (m : List Host.Cell) :
    Memory.sameOutside [e] m (Memory.writeWord e.1 e.2 m) := by
  intro a outside
  obtain ⟨low, high⟩ := outside e (List.mem_singleton.2 rfl)
  rw [Memory.writeWord, read_write_other _ high, read_write_other _ low]

theorem sameOutside_writeEntries (g : List Entry) (m : List Host.Cell) :
    Memory.sameOutside g m (Memory.writeEntries g m) := by
  induction g generalizing m with
  | nil => exact fun _ _ => rfl
  | cons e rest ih =>
    intro a outside
    have first := sameOutside_writeWord e m a fun x hx =>
      outside x (List.mem_singleton.1 hx ▸ List.mem_cons_self)
    exact (ih _ a fun x hx => outside x (List.mem_cons_of_mem _ hx)).trans first

/-! ### The choice (R51) -/

/-- The guard of a queue is not at its limit while it is empty or has waited less. -/
theorem guard_below {α : Type} {l : List α} {limit count : Nat} (h : l = [] ∨ count < limit) :
    ¬(l ≠ [] ∧ limit ≤ count) := fun ⟨waits, full⟩ => h.elim waits (Nat.not_lt.2 full)

section
variable {s : State}

theorem choose_urgent {g : List Entry} {rest : List (List Entry)} (urgent : s.urgent = g :: rest)
    (h : 4 ≤ s.urgentWait ∨ ((s.bulk = [] ∨ s.bulkWait < 16) ∧ s.upstreamWaits = false)) :
    s.choose = .urgent := by
  have waits : s.urgent ≠ [] := by simp [urgent]
  unfold State.choose
  by_cases guarded : 4 ≤ s.urgentWait
  · rw [if_pos ⟨waits, guarded⟩]
  · obtain ⟨quiet, idle⟩ := h.resolve_left guarded
    rw [if_neg fun h => guarded h.2, if_neg (guard_below quiet), idle, if_neg nofun, if_pos waits]

theorem choose_bulk {e : Entry} {rest : List Entry} (bulk : s.bulk = e :: rest)
    (quiet : s.urgent = [] ∨ s.urgentWait < 4)
    (h : 16 ≤ s.bulkWait ∨ (s.upstreamWaits = false ∧ s.urgent = [])) : s.choose = .bulk := by
  have waits : s.bulk ≠ [] := by simp [bulk]
  unfold State.choose
  rw [if_neg (guard_below quiet)]
  by_cases guarded : 16 ≤ s.bulkWait
  · rw [if_pos ⟨waits, guarded⟩]
  · obtain ⟨idle, empty⟩ := h.resolve_left guarded
    rw [if_neg fun h => guarded h.2, idle, if_neg nofun, if_neg (not_not.2 empty), if_pos waits]

theorem choose_upstream (urgent : s.urgent = [] ∨ s.urgentWait < 4)
    (bulk : s.bulk = [] ∨ s.bulkWait < 16) (waits : s.upstreamWaits = true) :
    s.choose = .upstream := by
  unfold State.choose
  rw [if_neg (guard_below urgent), if_neg (guard_below bulk), if_pos waits]

/-! ### The counts (R51) -/

theorem waitAfter_granted {α : Type} (l : List α) (count : Nat) : waitAfter (!l.isEmpty) true count = 0 := by
  simp [waitAfter]

theorem waitAfter_passed {α : Type} [DecidableEq α] (l : List α) (count : Nat) :
    waitAfter (!l.isEmpty) false count = if l = [] then 0 else min 16 (count + 1) := by
  cases l <;> simp [waitAfter]

theorem starving_of_quiet (h : s.bulk = [] ∨ s.bulkWait < 16 ∨ s.urgent ≠ [] ∧ 4 ≤ s.urgentWait) :
    s.starving = false := by
  unfold State.starving
  rw [decide_eq_false_iff_not]
  rintro ⟨notUrgent, waits, full⟩
  rcases h with empty | few | guarded
  · exact waits empty
  · exact Nat.not_lt.2 full few
  · exact notUrgent guarded

/-- R51: the counts after a grant to the urgent queue. -/
theorem countGrant_urgent (unstarved : s.starving = false) : s.countGrant .urgent =
    { s with
      urgentWait := 0, bulkWait := if s.bulk = [] then 0 else min 16 (s.bulkWait + 1) } := by
  unfold State.countGrant
  rw [unstarved, show (Grant.urgent == Grant.urgent) = true from rfl,
    show (Grant.urgent == Grant.bulk) = false from rfl, waitAfter_granted, waitAfter_passed]
  rfl

/-- R51: the counts after a grant to the bulk queue. -/
theorem countGrant_bulk : s.countGrant .bulk =
    { s with
      urgentWait := if s.urgent = [] then 0 else min 16 (s.urgentWait + 1), bulkWait := 0
      starvation := if s.starving then s.starvation + 1 else s.starvation } := by
  unfold State.countGrant
  rw [show (Grant.bulk == Grant.urgent) = false from rfl,
    show (Grant.bulk == Grant.bulk) = true from rfl, waitAfter_granted, waitAfter_passed]

/-- R51: the counts after a grant to the upstream port. -/
theorem countGrant_upstream (unstarved : s.starving = false) : s.countGrant .upstream =
    { s with
      urgentWait := if s.urgent = [] then 0 else min 16 (s.urgentWait + 1)
      bulkWait := if s.bulk = [] then 0 else min 16 (s.bulkWait + 1) } := by
  unfold State.countGrant
  rw [unstarved, show (Grant.upstream == Grant.urgent) = false from rfl,
    show (Grant.upstream == Grant.bulk) = false from rfl, waitAfter_passed, waitAfter_passed]
  rfl

/-! ### One grant -/

theorem exec_arbiterGrant (released : s.resetAsserted = false) :
    exec .arbiterGrant s = .next s.grant.seek := event_released released

section
variable (notReading : ∀ k w rest, s.safing ≠ .reads k w rest)
include notReading

theorem grant_of_urgent (chosen : s.choose = .urgent) :
    s.grant = (s.countGrant .urgent).performUrgent := by
  unfold State.grant
  split
  · next reads => exact absurd reads (notReading _ _ _)
  all_goals rw [chosen]

theorem grant_of_bulk (chosen : s.choose = .bulk) : s.grant = (s.countGrant .bulk).performBulk := by
  unfold State.grant
  split
  · next reads => exact absurd reads (notReading _ _ _)
  all_goals rw [chosen]

theorem grant_of_upstream (chosen : s.choose = .upstream) :
    s.grant = (s.countGrant .upstream).performUpstream := by
  unfold State.grant
  split
  · next reads => exact absurd reads (notReading _ _ _)
  all_goals rw [chosen]

end

theorem grant_of_reads {k : Fin 24} {w : Fin 3} {rest : List (Fin 24 × Fin 3)}
    (reads : s.safing = .reads k w rest) :
    s.grant = if s.upstreamWaits then s.performUpstream else s.readSetPoint k w rest := by
  unfold State.grant
  rw [reads]

theorem exec_safingSetpointRead {k : Fin 24} {w : Fin 3} {rest : List (Fin 24 × Fin 3)}
    (released : s.resetAsserted = false) (reads : s.safing = .reads k w rest)
    (idle : s.upstreamWaits = false) :
    exec .safingSetpointRead s = .next (s.readSetPoint k w rest).seek := by
  simp only [exec, execSafingSetpointRead, event_released released, reads, idle, Bool.false_eq_true,
    if_false]

/-- R157: what a read of the first stage can change. -/
theorem readSetPoint_only (s : State) (k : Fin 24) (w : Fin 3) (rest : List (Fin 24 × Fin 3)) :
    s.readSetPoint k w rest = { s with
      safing := (s.readSetPoint k w rest).safing
      stationSlots := (s.readSetPoint k w rest).stationSlots
      ctl := (s.readSetPoint k w rest).ctl, bulk := (s.readSetPoint k w rest).bulk } := by
  simp only [State.readSetPoint]
  rw [beginSafing_only]

/-- R157: a read of the first stage counts nothing (R51). -/
theorem readSetPoint_counts (s : State) (k : Fin 24) (w : Fin 3) (rest : List (Fin 24 × Fin 3)) :
    (s.readSetPoint k w rest).seek.urgentWait = s.urgentWait ∧
    (s.readSetPoint k w rest).seek.bulkWait = s.bulkWait ∧
    (s.readSetPoint k w rest).seek.starvation = s.starvation := by
  rw [seek_urgentWait, seek_bulkWait, seek_starvation, readSetPoint_only]
  exact ⟨rfl, rfl, rfl⟩

/-! ### The upstream transaction (R34, R35, R146, R148) -/

theorem upstreamWaits_of_held {x : Txn} (held : s.port = some x) :
    s.upstreamWaits = x.purpose.needsMemory := by
  unfold State.upstreamWaits
  rw [held]

/-- What a grant does for each transaction that needs memory. -/
structure Performs (s : State) (x : Txn) : Prop where
  read : x.purpose = .read →
    s.performUpstream = { s.ready with busData := Memory.readWord s.mem x.addr }
  passes : x.purpose = .passes →
    s.performUpstream = { s.ready with mem := Memory.writeLanes x.addr x.lanes x.data s.mem }
  index : ∀ take, x.purpose = .readIndex take → s.performUpstream =
    { s.ready with
      mem := Memory.writeWord x.addr x.data s.mem
      ctl := if take then { s.ctl with journal := { s.ctl.journal with r := x.data.toNat } } else s.ctl }

theorem performs_of_held {x : Txn} (held : s.port = some x) : Performs s x := by
  refine ⟨fun purpose => ?_, fun purpose => ?_, fun take purpose => ?_⟩ <;>
    simp only [State.performUpstream, held, purpose]

end

/-- Settles O14: the transaction held by its purpose, after the counts; in SAFING the transaction or the next
read. -/
theorem grantPerformsUpstream : Obligations.GrantPerformsUpstream := by
  unfold Obligations.GrantPerformsUpstream
  refine ⟨fun s x released held notReading urgent bulk => ?counted,
    fun s x k w rest released held reads => ?safing, fun s k w rest released reads idle => ?next⟩
  case counted =>
    intro u
    have granted (needs : x.purpose.needsMemory = true) : exec .arbiterGrant s =
        .next (s.countGrant .upstream).performUpstream.seek := by
      have chosen := choose_upstream urgent bulk ((upstreamWaits_of_held held).trans needs)
      rw [exec_arbiterGrant released, grant_of_upstream notReading chosen]
    rw [countGrant_upstream (starving_of_quiet (bulk.imp_right .inl))] at granted
    obtain ⟨read, passes, index⟩ := performs_of_held (s := { s with
      urgentWait := if s.urgent = [] then 0 else min 16 (s.urgentWait + 1)
      bulkWait := if s.bulk = [] then 0 else min 16 (s.bulkWait + 1) }) held
    refine ⟨fun h => ?_, fun h => ?_, fun h => ?_, fun h => ?_⟩ <;> rw [granted (by rw [h]; rfl)]
    · rw [read h]; rfl
    · rw [passes h]; rfl
    · rw [index true h]; rfl
    · rw [index false h]; rfl
  case safing =>
    intro u
    have granted (needs : x.purpose.needsMemory = true) : exec .arbiterGrant s =
        .next s.performUpstream.seek := by
      rw [exec_arbiterGrant released, grant_of_reads reads,
        if_pos ((upstreamWaits_of_held held).trans needs)]
    obtain ⟨read, passes, _⟩ := performs_of_held held
    refine ⟨fun h => ?_, fun h => ?_⟩ <;> rw [granted (by rw [h]; rfl)]
    · rw [read h]; rfl
    · rw [passes h]; rfl
  case next =>
    have granted : exec .arbiterGrant s = .next (s.readSetPoint k w rest).seek := by
      rw [exec_arbiterGrant released, grant_of_reads reads, if_neg (by simp [idle])]
    obtain ⟨urgentWait, bulkWait, starvation⟩ := readSetPoint_counts s k w rest
    exact ⟨granted.trans (exec_safingSetpointRead released reads idle).symm, _, granted, urgentWait,
      bulkWait, starvation⟩

/-- R49: the head group is written; a stretched write leaves memory, the bulk queue and the counts. -/
theorem performUrgent_cons {s : State} {g : List Entry} {rest : List (List Entry)}
    (urgent : s.urgent = g :: rest) : s.performUrgent =
      State.takeStretched { s with urgent := rest, mem := Memory.writeEntries g s.mem } := by
  unfold State.performUrgent
  rw [urgent]

theorem performBulk_cons {s : State} {e : Entry} {rest : List Entry} (bulk : s.bulk = e :: rest) :
    s.performBulk = { s with bulk := rest, mem := Memory.writeWord e.1 e.2 s.mem } := by
  unfold State.performBulk
  rw [bulk]

theorem takeStretched_of_free {s : State} (free : s.port = none) : s.takeStretched = s := by
  unfold State.takeStretched
  rw [free]

/-- Settles O15: the choice, the counts, and what each queue writes. -/
theorem grantWritesQueues : Obligations.GrantWritesQueues := by
  unfold Obligations.GrantWritesQueues
  refine ⟨fun s g rest released notReading urgent claims => ?urgent,
    fun s e rest released notReading bulk quiet claims => ?bulk⟩
  case urgent =>
    have unstarved : s.starving = false := starving_of_quiet <| claims.elim
      (fun guarded => .inr (.inr ⟨by simp [urgent], guarded⟩)) fun ⟨quiet, _⟩ => quiet.imp_right .inl
    set u : State := { s with
      urgent := rest, mem := Memory.writeEntries g s.mem
      urgentWait := 0, bulkWait := if s.bulk = [] then 0 else min 16 (s.bulkWait + 1) } with hu
    have granted : exec .arbiterGrant s = .next u.takeStretched.seek := by
      rw [exec_arbiterGrant released, grant_of_urgent notReading (choose_urgent urgent claims),
        countGrant_urgent unstarved, performUrgent_cons (g := g) (rest := rest) (by exact urgent)]
    have taken := takeStretched_only u
    unfold TakenOnly at taken
    have mem : u.takeStretched.seek.mem = Memory.writeEntries g s.mem := by rw [seek_mem, taken]
    refine ⟨_, granted, mem, mem ▸ sameOutside_writeEntries g s.mem, ?_, ?_, ?_, ?_, fun free => ?_⟩
    · rw [seek_bulk, taken]
    · rw [seek_urgentWait, taken]
    · rw [seek_bulkWait, taken]
    · rw [seek_starvation, taken]
    · rw [takeStretched_of_free (s := u) free, seek_eq]
  case bulk =>
    have starving : s.starving = true ↔ 16 ≤ s.bulkWait := by
      simp only [State.starving, decide_eq_true_eq, bulk]
      exact ⟨fun h => h.2.2, fun full => ⟨guard_below quiet, nofun, full⟩⟩
    have granted : exec .arbiterGrant s = .next (State.seek { s with
        bulk := rest, mem := Memory.writeWord e.1 e.2 s.mem, bulkWait := 0
        urgentWait := if s.urgent = [] then 0 else min 16 (s.urgentWait + 1)
        starvation := if 16 ≤ s.bulkWait then s.starvation + 1 else s.starvation }) := by
      rw [exec_arbiterGrant released, grant_of_bulk notReading (choose_bulk bulk quiet claims),
        countGrant_bulk, performBulk_cons (e := e) (rest := rest) (by exact bulk)]
      simp only [starving]
    refine ⟨_, granted, seek_mem _, ?_, ?_⟩
    · rw [seek_mem]; exact sameOutside_writeWord e s.mem
    · rw [seek_eq]

end Sys2Proof.Machine
end

section
/-! Proofs: O16, the drainer (R48). -/

namespace Sys2Proof.Machine

/-! ### The rotation -/

theorem mem_rotation (i j : Fin 56) : j ∈ rotation i := by
  simp only [rotation, List.mem_map, List.mem_finRange, true_and]
  exact ⟨j - i, by omega⟩

theorem rotation_head (i : Fin 56) : ∃ rest, rotation i = i :: rest := by
  refine ⟨((List.finRange 55).map Fin.succ).map fun j => i + j, ?_⟩
  rw [rotation, List.finRange_succ, List.map_cons]
  simp

/-- A marked source at the drainer's own place is the first of its rotation. -/
theorem nextSource_here {s : State} (marked : 0 < s.sourceWords s.drainer) :
    s.nextSource = some s.drainer := by
  obtain ⟨rest, first⟩ := rotation_head s.drainer
  rw [State.nextSource, first, List.find?_cons_of_pos (by simpa using marked)]

theorem nextSource_marked {s : State} {i : Fin 56} (next : s.nextSource = some i) :
    0 < s.sourceWords i := by
  simpa using List.find?_some next

/-- The place of the drainer after a seek. -/
theorem seek_drainer (s : State) : s.seek.drainer = s.nextSource.getD s.drainer := by
  unfold State.seek
  cases s.nextSource <;> rfl

/-! ### The words of a source -/

theorem sourceOf_slot {i : Fin 56} {k : Fin 24} (h : i.val = k.val) : sourceOf i = .slot k := by
  have small : i.val < 24 := by omega
  simp only [sourceOf, small, dite_true, Source.slot.injEq]
  exact Fin.ext h

theorem sourceOf_latch {i : Fin 56} {k : Fin 32} (h : i.val = 24 + k.val) : sourceOf i = .latch k := by
  have large : ¬i.val < 24 := by omega
  simp only [sourceOf, large, dite_false, Source.latch.injEq]
  exact Fin.ext (by simp [h])

theorem slot_of_sourceOf {i : Fin 56} {k : Fin 24} (h : sourceOf i = .slot k) : i.val = k.val := by
  unfold sourceOf at h
  split at h
  · rw [← Source.slot.inj h]
  · exact nomatch h

theorem latch_of_sourceOf {i : Fin 56} {k : Fin 32} (h : sourceOf i = .latch k) :
    i.val = 24 + k.val := by
  unfold sourceOf at h
  split at h
  · exact nomatch h
  · rw [← Source.latch.inj h]
    dsimp only
    omega

theorem WriteBack.marked_iff (w : WriteBack) : w.marked = true ↔ 0 < w.count := by
  simp [WriteBack.marked, WriteBack.count, List.length_pos_iff, List.filter_eq_nil_iff,
    Option.isSome_iff_ne_none]

theorem WriteBack.count_empty : WriteBack.empty.count = 0 := rfl

/-- Where the marks agree, the words of a source do. -/
theorem sourceWords_congr {s t : State} {i : Fin 56}
    (slot : ∀ k, sourceOf i = .slot k → (t.ctl.slot k).wb = (s.ctl.slot k).wb)
    (latch : ∀ k, sourceOf i = .latch k → (t.stationSlot k).latch = (s.stationSlot k).latch) :
    t.sourceWords i = s.sourceWords i := by
  cases at_ : sourceOf i with
  | slot k => rw [sourceWords_slot at_, sourceWords_slot at_, slot k at_]
  | latch k => rw [sourceWords_latch at_, sourceWords_latch at_, latch k at_]

/-! ### A source placed -/

/-- What placing the marked source `i` makes of the state: its group is queued, its marks are gone. -/
structure Placed (i : Fin 56) (s t : State) : Prop where
  only : t = { s with
    urgent := t.urgent, stationSlots := t.stationSlots, ctl := { s.ctl with slots := t.ctl.slots } }
  slot : ∀ k : Fin 24, i.val = k.val →
    t.urgent = s.urgent ++ [markedEntries (s.commandBase k) (s.ctl.slot k).wb.words] ∧
    t.ctl.slot k = { s.ctl.slot k with wb := WriteBack.empty }
  otherSlot : ∀ k : Fin 24, i.val ≠ k.val → t.ctl.slot k = s.ctl.slot k
  latch : ∀ (k : Fin 32) (w : Word), i.val = 24 + k.val → (s.stationSlot k).latch = some w →
    t.urgent = s.urgent ++ [[(BitVec.ofNat 22 (s.stationBase k + 11), w)]] ∧
    t.stationSlot k = { s.stationSlot k with latch := none }
  otherLatch : ∀ k : Fin 32, i.val ≠ 24 + k.val → t.stationSlot k = s.stationSlot k

theorem placeLatch_marked {s : State} {k : Fin 32} {w : Word} (marked : (s.stationSlot k).latch = some w) :
    s.placeLatch k =
      (s.placeUrgent [(BitVec.ofNat 22 (s.stationBase k + 11), w)]).setStationSlot k
        { s.stationSlot k with latch := none } := by
  unfold State.placeLatch
  rw [marked]

theorem placed_slot {s : State} {i : Fin 56} {k : Fin 24} (at_ : i.val = k.val)
    (marked : 0 < s.sourceWords i) : Placed i s (s.placeSlot k) := by
  rw [sourceWords_slot (sourceOf_slot at_)] at marked
  rw [placeSlot_marked ((WriteBack.marked_iff _).2 marked)]
  refine ⟨rfl, fun j same => ?_, fun j other => ?_, fun j w same => ?_, fun j _ => rfl⟩
  · obtain rfl : k = j := Fin.ext (at_.symm.trans same)
    exact ⟨rfl, Ctl.slot_setSlot_same ..⟩
  · exact Ctl.slot_setSlot_other _ _ fun same => other (same ▸ at_)
  · omega

theorem placed_latch {s : State} {i : Fin 56} {k : Fin 32} (at_ : i.val = 24 + k.val)
    (marked : 0 < s.sourceWords i) : Placed i s (s.placeLatch k) := by
  rw [sourceWords_latch (sourceOf_latch at_)] at marked
  obtain ⟨w, latch⟩ : ∃ w, (s.stationSlot k).latch = some w := by
    cases latch : (s.stationSlot k).latch with
    | none => simp [latch] at marked
    | some w => exact ⟨w, rfl⟩
  rw [placeLatch_marked latch]
  refine ⟨rfl, fun j same => ?_, fun j _ => rfl, fun j v same held => ?_, fun j other => ?_⟩
  · omega
  · obtain rfl : k = j := Fin.ext (by omega)
    obtain rfl := Option.some.inj (latch.symm.trans held)
    exact ⟨rfl, State.stationSlot_setStationSlot_same ..⟩
  · exact State.stationSlot_setStationSlot_other _ _ fun same => other (same ▸ at_)

theorem placed_source {s : State} {i : Fin 56} (marked : 0 < s.sourceWords i) :
    Placed i s (s.placeSource i) := by
  unfold State.placeSource
  split
  · next at_ => exact placed_slot (slot_of_sourceOf at_) marked
  · next at_ => exact placed_latch (latch_of_sourceOf at_) marked

/-- R48: the marks of the source placed are gone, those of the others stand. -/
theorem Placed.sourceWords {s t : State} {i : Fin 56} (h : Placed i s t) (marked : 0 < s.sourceWords i)
    (j : Fin 56) : t.sourceWords j = if j = i then 0 else s.sourceWords j := by
  by_cases same : j = i
  · subst same
    rw [if_pos rfl]
    cases at_ : sourceOf j with
    | slot k =>
      rw [sourceWords_slot at_, (h.slot k (slot_of_sourceOf at_)).2]
      rfl
    | latch k =>
      rw [sourceWords_latch at_] at marked ⊢
      cases latch : (s.stationSlot k).latch with
      | none => simp [latch] at marked
      | some w => rw [(h.latch k w (latch_of_sourceOf at_) latch).2]; rfl
  · rw [if_neg same]
    have apart : i.val ≠ j.val := fun e => same (Fin.ext e.symm)
    refine sourceWords_congr (fun k at_ => ?_) fun k at_ => ?_
    · rw [h.otherSlot k (slot_of_sourceOf at_ ▸ apart)]
    · rw [h.otherLatch k (latch_of_sourceOf at_ ▸ apart)]

/-- R48: where the drainer goes from behind the source placed. -/
theorem Placed.nextSource {s t : State} {i d : Fin 56} (h : Placed i s t) (marked : 0 < s.sourceWords i) :
    State.nextSource { t with drainer := d } = (rotation d).find? fun j =>
      decide (j ≠ i) && decide (0 < s.sourceWords j) := by
  unfold State.nextSource
  congr 1
  funext j
  have words : State.sourceWords { t with drainer := d } j = if j = i then 0 else s.sourceWords j :=
    h.sourceWords marked j
  rw [words]
  by_cases same : j = i <;> simp [same]

/-- Settles O16: the source that the seek finds, placed or waited for. -/
theorem drainerPlacesMarkedSource : Obligations.DrainerPlacesMarkedSource := by
  unfold Obligations.DrainerPlacesMarkedSource
  intro s released
  have drained : exec .drainerPlaceGroup s = .next s.drain.seek := event_released released
  rw [drained]
  refine ⟨fun none => ?_, fun i next => ⟨fun short => ?_, fun room => ?_⟩⟩
  · simp only [State.drain, none, State.seek]
  · have waits : s.drain = { s with drainer := i } := by
      simp only [State.drain, next, if_neg (Nat.not_le.2 short)]
    have here : State.nextSource { s with drainer := i } = some i :=
      nextSource_here (s := { s with drainer := i }) (nextSource_marked next : 0 < s.sourceWords i)
    simp only [waits, State.seek, here]
  · have marked := nextSource_marked next
    have placed := placed_source marked
    have goes : s.drain = { s.placeSource i with drainer := i + 1 } := by
      simp only [State.drain, next, if_pos room]
    rw [goes]
    have words := placed.sourceWords marked i
    rw [if_pos rfl] at words
    refine ⟨_, rfl, ?_, ?_, ?_, ?_, ?_, ?_, ?_, ?_, ?_⟩
    · rw [seek_eq]; exact words
    · rw [seek_mem, placed.only]
    · rw [seek_bulk, placed.only]
    · rw [seek_eq]
      generalize (State.seek _).drainer = d
      conv_lhs => rw [placed.only]
    · rw [seek_drainer, placed.nextSource marked]
    · rw [seek_eq]; exact placed.slot
    · rw [seek_eq]; exact placed.otherSlot
    · rw [seek_eq]; exact placed.latch
    · rw [seek_eq]; exact placed.otherLatch

end Sys2Proof.Machine
end

section
/-! Proofs: what the port holds and whether it is ready are nothing to the taking of a closing word or of a
demand word; O13 and O19 (R29, R37, R41, R48, R59). -/

namespace Sys2Proof.Machine

/-! ### A state under another port -/

/-- The state with another transaction held and another ready line. -/
def State.withPort (p : Option Txn) (b : Bool) (s : State) : State := { s with port := p, busReady := b }

@[simp] theorem withPort_withPort (p q : Option Txn) (a b : Bool) (s : State) :
    (s.withPort q a).withPort p b = s.withPort p b := rfl

theorem ready_eq_withPort (s : State) : s.ready = s.withPort none true := rfl

theorem hold_eq_withPort (s : State) (x : Txn) : s.hold x = s.withPort (some x) false := rfl

section
variable (p : Option Txn) (b : Bool) (i k : Fin 32) (s : State)

theorem withPort_ite {c : Prop} [Decidable c] (x y : State) :
    (if c then x else y).withPort p b = if c then x.withPort p b else y.withPort p b :=
  apply_ite ..

theorem withPort_valueEvent (sig : Signal) (v : Tri) :
    (s.valueEvent i sig v).withPort p b = (s.withPort p b).valueEvent i sig v := by
  unfold State.valueEvent
  rcases kind : (s.live.stationCfg i).kind with _ | (_ | _ | _)
  · simp only [State.withPort, kind]
  · simp only [State.withPort, kind]
    cases s.live.tipOfStation i <;> rfl
  · simp only [State.withPort, kind]
    cases s.live.outletOfStation i <;> rfl
  · simp only [State.withPort, kind]

theorem withPort_tellConsumer (old new : Freshness) :
    (s.tellConsumer i old new).withPort p b = (s.withPort p b).tellConsumer i old new := by
  unfold State.tellConsumer
  rcases kind : (s.live.stationCfg i).kind with _ | (_ | _ | _)
  · simp only [State.withPort, kind]
  · simp only [State.withPort, kind]
    cases s.live.tipOfStation i <;> rfl
  · simp only [State.withPort, kind]
    cases s.live.outletOfStation i <;> rfl
  · simp only [State.withPort, kind]

theorem withPort_reportLevel : (s.reportLevel i).withPort p b = (s.withPort p b).reportLevel i := by
  unfold State.reportLevel
  simp only [State.withPort]
  cases s.live.passOfStation i <;> rfl

theorem withPort_reportMoisture :
    (s.reportMoisture i).withPort p b = (s.withPort p b).reportMoisture i := by
  unfold State.reportMoisture
  simp only [State.withPort]
  cases s.live.passOfStation i <;> rfl

theorem withPort_outletTakes (pl : Payload) :
    (s.outletTakes i pl).withPort p b = (s.withPort p b).outletTakes i pl := by
  unfold State.outletTakes
  simp only [State.withPort]
  cases s.live.outletOfStation i <;> rfl

theorem withPort_tipTakes (pl : Payload) :
    (s.tipTakes i pl).withPort p b = (s.withPort p b).tipTakes i pl := by
  unfold State.tipTakes
  simp only [State.withPort]
  cases s.live.tipOfStation i <;> rfl

theorem withPort_filterSample (sig : Signal) (raw : Bool) :
    (s.filterSample i sig raw).withPort p b = (s.withPort p b).filterSample i sig raw := by
  simp only [State.filterSample, withPort_ite, withPort_valueEvent]
  rfl

theorem withPort_discreteSample (w : Word) :
    (s.discreteSample i w).withPort p b = (s.withPort p b).discreteSample i w := by
  simp only [State.discreteSample, withPort_filterSample]

theorem withPort_flowSample (level : Nat) :
    (s.flowSample i level).withPort p b = (s.withPort p b).flowSample i level := by
  simp only [State.flowSample, withPort_ite, withPort_valueEvent]
  rfl

theorem withPort_levelSample (d q : Nat) :
    (s.levelSample i d q).withPort p b = (s.withPort p b).levelSample i d q := by
  simp only [State.levelSample, withPort_ite, withPort_reportLevel]
  rfl

theorem withPort_moistureSample (r : Nat) :
    (s.moistureSample i r).withPort p b = (s.withPort p b).moistureSample i r := by
  simp only [State.moistureSample, withPort_ite, withPort_reportMoisture]
  rfl

theorem withPort_deliverRecord (pl : Payload) :
    (s.deliverRecord i pl).withPort p b = (s.withPort p b).deliverRecord i pl := by
  unfold State.deliverRecord
  rcases kind : (s.live.stationCfg i).kind with _ | (_ | _ | _)
  · simp only [State.withPort, kind]
  · simp only [withPort_tipTakes, withPort_discreteSample]
    simp only [State.withPort, kind]
  · simp only [withPort_outletTakes, withPort_flowSample, withPort_discreteSample]
    simp only [State.withPort, kind]
  · simp only [withPort_moistureSample, withPort_levelSample]
    simp only [State.withPort, kind]

theorem withPort_reportCleared (q : Qualifiers) :
    (s.reportCleared i q).withPort p b = (s.withPort p b).reportCleared i q := by
  simp only [State.reportCleared, withPort_ite, withPort_reportMoisture, withPort_reportLevel]

theorem withPort_clearQualifiers :
    (s.clearQualifiers i).withPort p b = (s.withPort p b).clearQualifiers i := by
  simp only [State.clearQualifiers, withPort_reportCleared]
  rfl

theorem withPort_freshnessEvent (old : Freshness) (cause : FreshnessCause) :
    (s.freshnessEvent i old cause).withPort p b = (s.withPort p b).freshnessEvent i old cause := by
  simp only [State.freshnessEvent, withPort_ite, withPort_tellConsumer, withPort_clearQualifiers]
  rfl

theorem withPort_answerRecord (pl : Payload) (cl old : Word) (accepted : Bool) :
    (s.answerRecord i k pl cl accepted old).withPort p b =
      (s.withPort p b).answerRecord i k pl cl accepted old := by
  simp only [State.answerRecord, withPort_ite]
  rfl

theorem withPort_judgeRecord (pl : Payload) (cl : Word) :
    (s.judgeRecord i k pl cl).withPort p b = (s.withPort p b).judgeRecord i k pl cl := by
  simp only [State.judgeRecord, withPort_ite, withPort_deliverRecord, withPort_freshnessEvent,
    withPort_answerRecord]
  rfl

/-- R37: the taking of a closing word. -/
theorem withPort_takeClosing (cl : Word) :
    (s.takeClosing k cl).withPort p b = (s.withPort p b).takeClosing k cl := by
  unfold State.takeClosing
  simp only [show (s.withPort p b).live.stationOfSlot k = s.live.stationOfSlot k from rfl]
  cases s.live.stationOfSlot k with
  | none => rfl
  | some i =>
    simp only [withPort_ite, withPort_judgeRecord]
    rfl

theorem withPort_placeSlot (k : Fin 24) :
    (s.placeSlot k).withPort p b = (s.withPort p b).placeSlot k := by
  simp only [State.placeSlot, withPort_ite]
  rfl

theorem withPort_supersede (k : Fin 24) :
    (s.supersede k).withPort p b = (s.withPort p b).supersede k := by
  unfold State.supersede
  simp only [show (s.withPort p b).ctl = s.ctl from rfl]
  cases (s.ctl.slot k).holder with
  | none => rfl
  | some d => exact withPort_placeSlot ..

/-- R41: the taking of a demand word. -/
theorem withPort_takeCommit (k : Fin 24) (d : Word) :
    (s.takeCommit k d).withPort p b = (s.withPort p b).takeCommit k d := by
  have superseded := withPort_supersede p b (s.clearStaged k) k
  simp only [State.takeCommit, withPort_placeSlot]
  congr 1
  unfold State.onCtl
  have cleared : (s.withPort p b).clearStaged k = (s.clearStaged k).withPort p b := rfl
  rw [cleared, ← superseded]
  rfl

end

/-! ### A closing or demand write, taken or stretched (R29, R37, R41, R48) -/

theorem takeStretched_of_full {s : State} (full : s.urgentFree < 12) : s.takeStretched = s := by
  unfold State.takeStretched
  cases s.port with
  | none => rfl
  | some x => exact if_pos full

section
variable {s : State} {x : Txn} (held : s.port = some x) (room : 12 ≤ s.urgentFree)
include held room

theorem takeStretched_closing {k : Fin 32} (purpose : x.purpose = .closing k) :
    s.takeStretched = (s.takeClosing k x.data).ready := by
  unfold State.takeStretched
  rw [held]
  simp only [if_neg (Nat.not_lt.2 room), purpose]

theorem takeStretched_demand {k : Fin 24} (purpose : x.purpose = .demand k) :
    s.takeStretched = (s.takeCommit k x.data).ready := by
  unfold State.takeStretched
  rw [held]
  simp only [if_neg (Nat.not_lt.2 room), purpose]

end

/-- The taking does not read the port: whatever it held, it ends free and ready. -/
theorem takeClosing_withPort_ready (p : Option Txn) (b : Bool) (k : Fin 32) (v : Word) (s : State) :
    ((s.withPort p b).takeClosing k v).ready = (s.takeClosing k v).ready := by
  rw [← withPort_takeClosing, ready_eq_withPort, ready_eq_withPort, withPort_withPort]

theorem takeCommit_withPort_ready (p : Option Txn) (b : Bool) (k : Fin 24) (d : Word) (s : State) :
    ((s.withPort p b).takeCommit k d).ready = (s.takeCommit k d).ready := by
  rw [← withPort_takeCommit, ready_eq_withPort, ready_eq_withPort, withPort_withPort]

theorem closingWrite_with_room {s : State} (room : 12 ≤ s.urgentFree) (k : Fin 32) (v : Word) :
    s.closingWrite k v = (s.takeClosing k v).ready :=
  (takeStretched_closing (s := s.hold (s.closingTxn k v)) rfl room rfl).trans
    (takeClosing_withPort_ready ..)

theorem demandWrite_with_room {s : State} (room : 12 ≤ s.urgentFree) (k : Fin 24) (d : Word) :
    s.demandWrite k d = (s.takeCommit k d).ready :=
  (takeStretched_demand (s := s.hold (s.demandTxn k d)) rfl room rfl).trans
    (takeCommit_withPort_ready ..)

section
variable {s : State} (writes : s.takesWrites)
include writes

theorem exec_closingWordWrite (k : Fin 32) (v : Word) :
    exec (.closingWordWrite k v) s = .next (s.closingWrite k v).seek := by
  obtain ⟨released, free, run⟩ := writes
  refine (event_released released).trans ?_
  rw [present_free free, inRun_run run]

theorem exec_commit_run {c : Instr} {k : Fin 24} {d : Word} (slot : commitSlot c = some k)
    (word : commitWord c = some d)
    (bad : ∀ j code tag, c = .commitBadCode j code tag → orderCodeBad j code = true) :
    exec c s = .next (s.demandWrite k d).seek := by
  obtain ⟨released, free, run⟩ := writes
  rw [exec_commit slot word bad, event_released released, present_free free, inRun_run run]

end

theorem upstreamWaits_of_closing {s : State} {x : Txn} (held : s.port = some x)
    (purpose : (∃ k, x.purpose = .closing k) ∨ ∃ k, x.purpose = .demand k) :
    s.upstreamWaits = false := by
  rw [upstreamWaits_of_held held]
  obtain ⟨k, closing⟩ | ⟨k, demand⟩ := purpose
  · rw [closing]; rfl
  · rw [demand]; rfl

/-- R51: with the bulk queue empty, and no transaction that waits for memory, a grant goes to the urgent
queue, and the write that waits for its room is tried. -/
theorem exec_grant_urgent_alone {s : State} {g : List Entry} {rest : List (List Entry)}
    (released : s.resetAsserted = false) (notReading : ∀ k w rest, s.safing ≠ .reads k w rest)
    (urgent : s.urgent = g :: rest) (bulk : s.bulk = []) (idle : s.upstreamWaits = false) :
    exec .arbiterGrant s = .next (State.seek (State.takeStretched { s with
      urgent := rest, mem := Memory.writeEntries g s.mem, urgentWait := 0, bulkWait := 0 })) := by
  have chosen := choose_urgent urgent (.inr ⟨.inl bulk, idle⟩)
  rw [exec_arbiterGrant released, grant_of_urgent notReading chosen,
    countGrant_urgent (starving_of_quiet (.inl bulk)),
    performUrgent_cons (g := g) (rest := rest) (by exact urgent)]
  simp only [bulk, if_true]

/-- Settles O13: without room the transaction is held, and the grant takes it as the write with room is
taken, since the taking does not read the port. -/
theorem stretchedWritesWaitForRoom : Obligations.StretchedWritesWaitForRoom := by
  unfold Obligations.StretchedWritesWaitForRoom
  intro s writes full
  refine ⟨fun k v => ⟨_, exec_closingWordWrite writes k v, ?closing⟩,
    fun c k d slot word bad => ⟨_, exec_commit_run writes slot word bad, ?demand⟩,
    fun g rest x urgent bulk notReading room purpose => ?grant⟩
  case closing =>
    rw [State.closingWrite, takeStretched_of_full (s := s.hold _) full]
    exact seek_eq _
  case demand =>
    rw [State.demandWrite, takeStretched_of_full (s := s.hold _) full]
    exact seek_eq _
  case grant =>
    intro u
    obtain ⟨released, free, run⟩ := writes
    have taken : exec .arbiterGrant (s.withPort (some x) false) =
        .next (u.withPort (some x) false).takeStretched.seek :=
      exec_grant_urgent_alone released notReading urgent bulk (upstreamWaits_of_closing rfl purpose)
    have uWrites : u.takesWrites := ⟨released, free, run⟩
    obtain ⟨k, closing⟩ | ⟨k, demand⟩ := purpose
    · rw [takeStretched_closing (s := u.withPort (some x) false) rfl room closing,
        takeClosing_withPort_ready] at taken
      have only := takeClosing_only k x.data u
      unfold RecordOnly at only
      refine ⟨_, taken, seek_port _, seek_busReady _, ?_, fun j isJ => ?_, fun j isJ => ?_⟩
      · rw [seek_mem, State.ready, only]
      · obtain rfl : k = j := Purpose.closing.inj (closing.symm.trans isJ)
        exact ⟨rfl, by rw [exec_closingWordWrite uWrites, closingWrite_with_room (s := u) room]⟩
      · exact nomatch closing.symm.trans isJ
    · rw [takeStretched_demand (s := u.withPort (some x) false) rfl room demand,
        takeCommit_withPort_ready] at taken
      refine ⟨_, taken, seek_port _, seek_busReady _, ?_, fun j isJ => ?_, fun j isJ => ?_⟩
      · rw [seek_mem, State.ready, takeCommit_only]
      · exact nomatch demand.symm.trans isJ
      · obtain rfl : k = j := Purpose.demand.inj (demand.symm.trans isJ)
        refine ⟨rfl, fun c slot word bad => ?_⟩
        rw [exec_commit_run uWrites slot word bad, demandWrite_with_room (s := u) room]

/-! ### A record (R37, R59) -/

theorem exec_closingWordWrite_with_room {s : State} (takes : s.takesCommits) (k : Fin 32) (v : Word) :
    exec (.closingWordWrite k v) s = .next (s.takeClosing k v).ready.seek := by
  rw [exec_closingWordWrite takes.1, closingWrite_with_room takes.2]

theorem takeClosing_unassigned {s : State} {k : Fin 32} (unassigned : s.live.stationOfSlot k = none)
    (v : Word) : s.takeClosing k v = s.emptyStaging k := by
  unfold State.takeClosing
  rw [unassigned]

section
variable {s : State} {k i : Fin 32} (assigned : s.live.stationOfSlot k = some i)
include assigned

theorem takeClosing_torn (torn : (s.stationSlot k).complete = false) (v : Word) :
    s.takeClosing k v = (s.emptyStaging k).setStation i ((s.station i).bump .torn 1) := by
  unfold State.takeClosing
  simp only [assigned, torn, Bool.false_eq_true, if_false]

theorem takeClosing_complete (complete : (s.stationSlot k).complete = true) (v : Word) :
    s.takeClosing k v = (s.emptyStaging k).judgeRecord i k (s.stationSlot k).payload v := by
  unfold State.takeClosing
  simp only [assigned, complete, if_true]

end

/-- R59: a record that names another station. -/
theorem judgeRecord_misaddressed {i : Fin 32} {v : Word} (other : (highOctet v).toNat ≠ i.val)
    (k : Fin 32) (pl : Payload) (s : State) :
    s.judgeRecord i k pl v = s.setStation i ((s.station i).bump .misaddressed 1) := if_neg other

/-- Settles O19: the three records that are dropped. -/
theorem discardedRecords : Obligations.DiscardedRecords := by
  unfold Obligations.DiscardedRecords
  intro s k v takes emptied
  obtain ⟨-, free, -⟩ := takes.1
  refine ⟨fun unassigned => ?_, fun i assigned torn => ?_, fun i assigned complete other => ?_⟩ <;>
    rw [exec_closingWordWrite_with_room takes]
  · rw [takeClosing_unassigned unassigned, ready_of_free (by exact free)]
    rfl
  · rw [takeClosing_torn assigned torn, ready_of_free (by exact free)]
    rfl
  · rw [takeClosing_complete assigned complete, judgeRecord_misaddressed other, ready_of_free (by exact free)]
    rfl

end Sys2Proof.Machine
end

section
/-! Proofs: one sample of each qualifier, and what a sample hands to the consumer of its station
(R77 to R88). -/

namespace Sys2Proof.Machine

/-! ### One sample (R79, R81, R84 to R86, R88) -/

section
variable {k : StationCfg} {now : Clock} {level : Nat} {f : FlowQualifier}

/-- A flow qualifier that times nothing. -/
def FlowQualifier.untimed (x : FlowState) : FlowQualifier := { state := x, rise := none, dropout := none }

theorem flowSample_rest (h : f.state = .unknown ∨ f.state = .noFlow) :
    f.sample k level now = flowFromRest k level now := by
  unfold FlowQualifier.sample
  obtain unknown | noFlow := h
  · rw [unknown]
  · rw [noFlow]

theorem flowSample_rising {since : Clock} (h : f.state = .rising) (rise : f.rise = some since) :
    f.sample k level now =
      if level < k.onThreshold then FlowQualifier.untimed .noFlow
      else if (now - since).toNat < k.minOn then f
      else FlowQualifier.untimed .flow := by
  unfold FlowQualifier.sample
  rw [h, rise]
  rfl

theorem flowSample_flow (h : f.state = .flow) :
    f.sample k level now =
      if k.offThreshold ≤ level then f
      else if k.dropout = 0 then FlowQualifier.untimed .noFlow
      else { FlowQualifier.untimed .dropping with dropout := some now } := by
  unfold FlowQualifier.sample
  rw [h]
  rfl

theorem flowSample_dropping (h : f.state = .dropping) :
    f.sample k level now = if k.offThreshold ≤ level then FlowQualifier.untimed .flow else f := by
  unfold FlowQualifier.sample
  rw [h]
  rfl

end

section
variable {k : StationCfg} {pass : Option PassCfg} {distance quality : Nat} {f : LevelFilter}

theorem levelSample_poor (poor : quality < k.qualityFloor) :
    f.sample k pass distance quality =
      if k.poorLimit ≤ f.poor + 1 then (LevelFilter.reset, f.distance.isSome)
      else ({ f with poor := f.poor + 1 }, false) := if_pos poor

theorem levelSample_good (good : k.qualityFloor ≤ quality) :
    f.sample k pass distance quality =
      if f.distance = none ∨ k.interval ≤ f.good + 1 then (f.update k pass distance, true)
      else ({ f with good := f.good + 1, poor := 0 }, false) := if_neg (Nat.not_lt.2 good)

end

section
variable (k : StationCfg) (reading : Nat) (m : Moisture)

theorem moisture_count : m.count k reading =
    { m with
      wetRun := if k.wetThreshold ≤ reading then min k.moistureCount (m.wetRun + 1) else 0
      dryRun := if k.wetThreshold ≤ reading then 0
        else if reading < k.dryThreshold then min k.moistureCount (m.dryRun + 1) else 0 } := by
  unfold Moisture.count
  by_cases wet : k.wetThreshold ≤ reading
  · simp only [wet, if_true]
  · by_cases dry : reading < k.dryThreshold
    · simp only [wet, dry, if_true, if_false]
    · simp only [wet, dry, if_false]

theorem moisture_sample : m.sample k reading =
    { m.count k reading with
      state := if (m.count k reading).wetRun = k.moistureCount then .wet
        else if (m.count k reading).dryRun = k.moistureCount then .dry else m.state } := by
  have kept : (m.count k reading).state = m.state := by rw [moisture_count]
  unfold Moisture.sample
  by_cases wet : (m.count k reading).wetRun = k.moistureCount
  · simp only [wet, if_true]
  · by_cases dry : (m.count k reading).dryRun = k.moistureCount
    · simp only [wet, dry, if_true, if_false]
    · simp only [wet, dry, if_false, ← kept]

end

/-! ### The consumer of a station (R73, R77) -/

/-- R77: what a value event of a station does at its consumer. -/
def Live.hearValue (l : Live) (i : Fin 32) (sig : Signal) (v : Tri) (e : Env) (c : Ctl) : Ctl :=
  match (l.stationCfg i).kind with
  | some .outlet => (l.outletOfStation i).elim c fun n => outletValue e n sig v c
  | some .tip => (l.tipOfStation i).elim c fun t => tipValue e t sig v c
  | _ => c

/-- R73: what a freshness event of a station does at its consumer. -/
def Live.hearFreshness (l : Live) (i : Fin 32) (old new : Freshness) (e : Env) (c : Ctl) : Ctl :=
  match (l.stationCfg i).kind with
  | some .outlet => (l.outletOfStation i).elim c fun n => outletFreshness e n new c
  | some .tip => (l.tipOfStation i).elim c fun t => tipFreshness e t old new c
  | _ => c

section
variable (i : Fin 32) (s : State)

theorem valueEvent_eq_onCtl (sig : Signal) (v : Tri) :
    s.valueEvent i sig v = s.onCtl (s.live.hearValue i sig v) := by
  unfold State.valueEvent Live.hearValue
  rcases (s.live.stationCfg i).kind with _ | (_ | _ | _)
  · rfl
  · cases s.live.tipOfStation i <;> rfl
  · cases s.live.outletOfStation i <;> rfl
  · rfl

theorem tellConsumer_eq_onCtl (old new : Freshness) :
    s.tellConsumer i old new = s.onCtl (s.live.hearFreshness i old new) := by
  unfold State.tellConsumer Live.hearFreshness
  rcases (s.live.stationCfg i).kind with _ | (_ | _ | _)
  · rfl
  · cases s.live.tipOfStation i <;> rfl
  · cases s.live.outletOfStation i <;> rfl
  · rfl

theorem reportLevel_eq_onCtl : s.reportLevel i = s.onCtl fun e c =>
    (s.live.passOfStation i).elim c fun p =>
      withNews e p (levelReport e p (s.qual i).level.fill (s.qual i).level.valid) c := by
  unfold State.reportLevel
  cases s.live.passOfStation i <;> rfl

theorem reportMoisture_eq_onCtl : s.reportMoisture i = s.onCtl fun e c =>
    (s.live.passOfStation i).elim c fun p =>
      withNews e p (sensorReport e p (s.qual i).moisture.state) c := by
  unfold State.reportMoisture
  cases s.live.passOfStation i <;> rfl

theorem outletTakes_eq_onCtl (pl : Payload) : s.outletTakes i pl = s.onCtl fun e c =>
    (s.live.outletOfStation i).elim c fun n =>
      withNews e (e.outletCfg n).pass (outletRecord e n (loadRecord pl)) c := by
  unfold State.outletTakes
  cases s.live.outletOfStation i <;> rfl

theorem tipTakes_eq_onCtl (pl : Payload) : s.tipTakes i pl = s.onCtl fun e c =>
    (s.live.tipOfStation i).elim c fun t =>
      withNews e (e.tipCfg t).pass (tipRecord e t (lowOctet pl[1]) pl[2].toNat) c := by
  unfold State.tipTakes
  cases s.live.tipOfStation i <;> rfl

end

/-! ### A state with one station's qualifiers and the controllers replaced

All that a record does from its freshness event on is of this form, so its walk is a walk through the pair of
qualifiers and controllers. -/

/-- The state with the qualifiers of station `i` and the controllers' state replaced. -/
def State.sampled (i : Fin 32) (q : Qualifiers) (c : Ctl) (s : State) : State :=
  { s with quals := s.quals.set i.val q, ctl := c }

/-- What the controllers read of that state. -/
def State.sampledEnv (i : Fin 32) (q : Qualifiers) (s : State) : Env :=
  { s.env with quals := s.quals.set i.val q }

/-- R77: a qualified value went from `old` to `new` as the qualifiers became `q`, and the consumer hears of a
change. -/
def State.hearChange (i : Fin 32) (sig : Signal) (old new : Tri) (q : Qualifiers) (c : Ctl) (s : State) :
    Ctl :=
  if new = old then c else s.live.hearValue i sig new (s.sampledEnv i q) c

section
variable (i : Fin 32) (q : Qualifiers) (c : Ctl) (s : State)

theorem sampled_self : s.sampled i (s.qual i) s.ctl = s := by
  simp [State.sampled, State.qual]

theorem sampledEnv_self : s.sampledEnv i (s.qual i) = s.env := by
  simp [State.sampledEnv, State.qual, State.env]

@[simp] theorem sampled_ctl : (s.sampled i q c).ctl = c := rfl

@[simp] theorem sampled_live : (s.sampled i q c).live = s.live := rfl

@[simp] theorem sampled_clock : (s.sampled i q c).clock = s.clock := rfl

@[simp] theorem qual_sampled : (s.sampled i q c).qual i = q := State.qual_setQual_same ..

theorem qual_sampled_other {j : Fin 32} (other : j ≠ i) : (s.sampled i q c).qual j = s.qual j :=
  State.qual_setQual_other _ _ other.symm

@[simp] theorem setQual_sampled (q' : Qualifiers) :
    (s.sampled i q c).setQual i q' = s.sampled i q' c := by
  simp [State.sampled, State.setQual]

@[simp] theorem onCtl_sampled (f : Env → Ctl → Ctl) :
    (s.sampled i q c).onCtl f = s.sampled i q (f (s.sampledEnv i q) c) := rfl

/-- R79. -/
theorem filterSample_sampled (sig : Signal) (raw : Bool) :
    let f := (q.filter sig).sample (s.live.stationCfg i).depth raw
    let q' := q.setFilter sig f
    (s.sampled i q c).filterSample i sig raw =
      s.sampled i q' (s.hearChange i sig (q.filter sig).value f.value q' c) := by
  intro f q'
  simp only [State.filterSample, qual_sampled, setQual_sampled, valueEvent_eq_onCtl, onCtl_sampled,
    sampled_live]
  exact (apply_ite (s.sampled i q') ..).symm

/-- R78, step 1: the three discrete filters on a flag word. -/
theorem discreteSample_sampled (w : Word) :
    let d := (s.live.stationCfg i).depth
    let q2 : Qualifiers :=
      { q with
        d0 := q.d0.sample d (w.getLsbD 0), d1 := q.d1.sample d (w.getLsbD 1)
        d2 := q.d2.sample d (w.getLsbD 2) }
    let c0 := s.hearChange i .d0 q.d0.value q2.d0.value { q with d0 := q2.d0 } c
    let c1 := s.hearChange i .d1 q.d1.value q2.d1.value { q2 with d2 := q.d2 } c0
    (s.sampled i q c).discreteSample i w =
      s.sampled i q2 (s.hearChange i .d2 q.d2.value q2.d2.value q2 c1) := by
  intro d q2 c0 c1
  unfold State.discreteSample
  rw [filterSample_sampled, filterSample_sampled, filterSample_sampled]
  rfl

/-- R78, step 2. -/
theorem flowSample_sampled (level : Nat) :
    let f := q.flow.sample (s.live.stationCfg i) level s.clock
    let q' : Qualifiers := { q with flow := f }
    (s.sampled i q c).flowSample i level =
      s.sampled i q' (s.hearChange i .flow q.flow.state.qualified f.state.qualified q' c) := by
  intro f q'
  simp only [State.flowSample, qual_sampled, setQual_sampled, valueEvent_eq_onCtl, onCtl_sampled,
    sampled_live, sampled_clock]
  exact (apply_ite (s.sampled i q') ..).symm

/-- R78, step 3. -/
theorem levelSample_sampled (distance quality : Nat) :
    let y := q.level.sample (s.live.stationCfg i) (s.live.levelPass i) distance quality
    let q' : Qualifiers := { q with level := y.1 }
    let e := s.sampledEnv i q'
    (s.sampled i q c).levelSample i distance quality = s.sampled i q'
      (if y.2 then (s.live.passOfStation i).elim c fun p =>
          withNews e p (levelReport e p y.1.fill y.1.valid) c
       else c) := by
  intro y q' e
  simp only [State.levelSample, qual_sampled, setQual_sampled, reportLevel_eq_onCtl, onCtl_sampled,
    sampled_live]
  exact (apply_ite (s.sampled i q') ..).symm

/-- R78, step 3. -/
theorem moistureSample_sampled (reading : Nat) :
    let m := q.moisture.sample (s.live.stationCfg i) reading
    let q' : Qualifiers := { q with moisture := m }
    let e := s.sampledEnv i q'
    (s.sampled i q c).moistureSample i reading = s.sampled i q'
      (if m.state = q.moisture.state then c
       else (s.live.passOfStation i).elim c fun p => withNews e p (sensorReport e p m.state) c) := by
  intro m q' e
  simp only [State.moistureSample, qual_sampled, setQual_sampled, reportMoisture_eq_onCtl, onCtl_sampled,
    sampled_live]
  exact (apply_ite (s.sampled i q') ..).symm

end

end Sys2Proof.Machine
end

section
/-! Proofs: a complete record through the two machines, the answer, the freshness event and the qualifiers;
O20 (R37, R38, R58, R72 to R74, R89). -/

namespace Sys2Proof.Machine

/-! ### The walk is in one station's qualifiers -/

/-- `t` is `s` with at most the qualifiers of station `i` and the controllers' state replaced. -/
def SampledAt (i : Fin 32) (s t : State) : Prop := ∃ q c, t = s.sampled i q c

theorem SampledAt.qualOnly {i : Fin 32} {s t : State} (h : SampledAt i s t) : QualOnly s t := by
  obtain ⟨q, c, rfl⟩ := h
  rfl

theorem SampledAt.qual_other {i j : Fin 32} {s t : State} (h : SampledAt i s t) (other : j ≠ i) :
    t.qual j = s.qual j := by
  obtain ⟨q, c, rfl⟩ := h
  exact qual_sampled_other i q c s other

theorem CtlOnly.eq_sampled {s t u : State} {i : Fin 32} {q : Qualifiers} {c : Ctl} (h : CtlOnly t u)
    (at_ : t = s.sampled i q c) : u = s.sampled i q u.ctl := by
  unfold CtlOnly at h
  rw [h, at_]
  rfl

theorem CtlOnly.eq_sampled_self {s t : State} (h : CtlOnly s t) (i : Fin 32) :
    t = s.sampled i (s.qual i) t.ctl := h.eq_sampled (sampled_self i s).symm

/-! ### The freshness event (R73, R89) -/

section
variable (i : Fin 32) (old : Freshness) (cause : FreshnessCause) (s : State)

theorem freshnessEvent_same (same : (s.station i).freshness = old) : s.freshnessEvent i old cause = s :=
  if_pos same

/-- R73: a station becomes FRESH: the record, then the consumer; the qualifiers stay. -/
theorem freshnessEvent_gained (fresh : (s.station i).freshness = .fresh) (was : old ≠ .fresh) :
    s.freshnessEvent i old cause = s.sampled i (s.qual i)
      (s.live.hearFreshness i old .fresh (s.sampledEnv i (s.qual i))
        (s.ctl.report s.env .freshness i.val old.code 1 (s.station i).order.code cause.code)) := by
  have changed : ¬(s.station i).freshness = old := fun same => was (same.symm.trans fresh)
  have event : s.freshnessEvent i old cause = (s.onCtl fun e c => c.report e .freshness i.val old.code
      (s.station i).freshness.code (s.station i).order.code cause.code).tellConsumer i old
        (s.station i).freshness := by
    unfold State.freshnessEvent
    simp only [if_neg changed, if_neg was]
  rw [event, tellConsumer_eq_onCtl, fresh, sampledEnv_self]
  exact ((onCtl_only ..).trans (onCtl_only ..)).eq_sampled_self i

/-- R89: only the station that leaves FRESH gives its qualifiers up. -/
theorem freshnessEvent_sampled : ∃ c, s.freshnessEvent i old cause = s.sampled i
    (if old = .fresh ∧ (s.station i).freshness ≠ .fresh then Qualifiers.reset else s.qual i) c := by
  by_cases same : (s.station i).freshness = old
  · rw [if_neg fun h => h.2 (same.trans h.1), freshnessEvent_same i old cause s same]
    exact ⟨_, (sampled_self i s).symm⟩
  · simp only [State.freshnessEvent, if_neg same]
    by_cases left : old = .fresh
    · rw [if_pos left, if_pos ⟨left, fun fresh => same (fresh.trans left.symm)⟩]
      exact ⟨_, ((reportCleared_only ..).trans (tellConsumer_only ..)).eq_sampled rfl⟩
    · rw [if_neg left, if_neg fun h => left h.1]
      exact ⟨_, ((onCtl_only ..).trans (tellConsumer_only ..)).eq_sampled_self i⟩

end

/-! ### The delivery (R74, R78) -/

section
variable (i : Fin 32) (q : Qualifiers) (c : Ctl) (s : State)

theorem hearChange_outlet {n : Fin 8} (kind : (s.live.stationCfg i).kind = some .outlet)
    (named : s.live.outletOfStation i = some n) (sig : Signal) (old new : Tri) :
    s.hearChange i sig old new q c =
      if new = old then c else outletValue (s.sampledEnv i q) n sig new c := by
  unfold State.hearChange Live.hearValue
  rw [kind, named]
  rfl

theorem hearChange_tip {n : Fin 12} (kind : (s.live.stationCfg i).kind = some .tip)
    (named : s.live.tipOfStation i = some n) (sig : Signal) (old new : Tri) :
    s.hearChange i sig old new q c =
      if new = old then c else tipValue (s.sampledEnv i q) n sig new c := by
  unfold State.hearChange Live.hearValue
  rw [kind, named]
  rfl

/-- The gate open limit moves nothing at an outlet (R77). -/
theorem outletValue_d1 (e : Env) (n : Fin 8) (v : Tri) : outletValue e n .d1 v c = c := rfl

/-- The truck signal moves nothing at a tip point (R77). -/
theorem tipValue_d0 (e : Env) (n : Fin 12) (v : Tri) : tipValue e n .d0 v c = c := rfl

variable (pl : Payload)

/-- R74, R78: an OUTLET record, with the controllers after its value events. -/
theorem deliverRecord_outlet (kind : (s.live.stationCfg i).kind = some .outlet) :
    let k := s.live.stationCfg i
    let q2 : Qualifiers :=
      { q with
        d0 := q.d0.sample k.depth (pl[1].getLsbD 0), d1 := q.d1.sample k.depth (pl[1].getLsbD 1)
        d2 := q.d2.sample k.depth (pl[1].getLsbD 2) }
    let q3 : Qualifiers := { q2 with flow := q.flow.sample k (lowOctet pl[2]).toNat s.clock }
    let c0 := s.hearChange i .d0 q.d0.value q2.d0.value { q with d0 := q2.d0 } c
    let c1 := s.hearChange i .d1 q.d1.value q2.d1.value { q2 with d2 := q.d2 } c0
    let c2 := s.hearChange i .d2 q.d2.value q2.d2.value q2 c1
    let c3 := s.hearChange i .flow q.flow.state.qualified q3.flow.state.qualified q3 c2
    (s.sampled i q c).deliverRecord i pl = s.sampled i q3
      ((s.live.outletOfStation i).elim c3 fun n =>
        withNews (s.sampledEnv i q3) (s.live.outletCfg n).pass
          (outletRecord (s.sampledEnv i q3) n (loadRecord pl)) c3) := by
  intro k q2 q3 c0 c1 c2 c3
  unfold State.deliverRecord
  simp only [sampled_live, kind]
  rw [discreteSample_sampled, flowSample_sampled, outletTakes_eq_onCtl]
  rfl

/-- R74, R78: a TIP record, with the controllers after its value events. -/
theorem deliverRecord_tip (kind : (s.live.stationCfg i).kind = some .tip) :
    let k := s.live.stationCfg i
    let q2 : Qualifiers :=
      { q with
        d0 := q.d0.sample k.depth (pl[0].getLsbD 0), d1 := q.d1.sample k.depth (pl[0].getLsbD 1)
        d2 := q.d2.sample k.depth (pl[0].getLsbD 2) }
    let c0 := s.hearChange i .d0 q.d0.value q2.d0.value { q with d0 := q2.d0 } c
    let c1 := s.hearChange i .d1 q.d1.value q2.d1.value { q2 with d2 := q.d2 } c0
    let c2 := s.hearChange i .d2 q.d2.value q2.d2.value q2 c1
    (s.sampled i q c).deliverRecord i pl = s.sampled i q2
      ((s.live.tipOfStation i).elim c2 fun n =>
        withNews (s.sampledEnv i q2) (s.live.tipCfg n).pass
          (tipRecord (s.sampledEnv i q2) n (lowOctet pl[1]) pl[2].toNat) c2) := by
  intro k q2 c0 c1 c2
  unfold State.deliverRecord
  simp only [sampled_live, kind]
  rw [discreteSample_sampled, tipTakes_eq_onCtl]
  rfl

/-- R74, R78: a LEVEL record, with the reports it makes to the pass. -/
theorem deliverRecord_level (kind : (s.live.stationCfg i).kind = some .level) :
    let k := s.live.stationCfg i
    let y := q.level.sample k (s.live.levelPass i) pl[0].toNat (lowOctet pl[1]).toNat
    let m := q.moisture.sample k (lowOctet pl[2]).toNat
    let q1 : Qualifiers := { q with level := y.1 }
    let q2 : Qualifiers := { q1 with moisture := m }
    let e1 := s.sampledEnv i q1
    let e2 := s.sampledEnv i q2
    let c1 := if y.2 then (s.live.passOfStation i).elim c fun p =>
        withNews e1 p (levelReport e1 p y.1.fill y.1.valid) c
      else c
    (s.sampled i q c).deliverRecord i pl = s.sampled i q2
      (if m.state = q.moisture.state then c1
       else (s.live.passOfStation i).elim c1 fun p => withNews e2 p (sensorReport e2 p m.state) c1) := by
  intro k y m q1 q2 e1 e2 c1
  unfold State.deliverRecord
  simp only [sampled_live, kind]
  rw [levelSample_sampled, moistureSample_sampled]

/-- R74, R77, R78: what an OUTLET record does to the controllers, at the outlet that names the station. -/
theorem deliverRecord_outlet_ctl {n : Fin 8} (kind : (s.live.stationCfg i).kind = some .outlet)
    (named : s.live.outletOfStation i = some n) :
    let k := s.live.stationCfg i
    let env := fun q' => s.sampledEnv i q'
    let q2 : Qualifiers :=
      { q with
        d0 := q.d0.sample k.depth (pl[1].getLsbD 0), d1 := q.d1.sample k.depth (pl[1].getLsbD 1)
        d2 := q.d2.sample k.depth (pl[1].getLsbD 2) }
    let q3 : Qualifiers := { q2 with flow := q.flow.sample k (lowOctet pl[2]).toNat s.clock }
    let c0 := if q2.d0.value = q.d0.value then c
      else outletValue (env { q with d0 := q2.d0 }) n .d0 q2.d0.value c
    let c2 := if q2.d2.value = q.d2.value then c0 else outletValue (env q2) n .d2 q2.d2.value c0
    let c3 := if q3.flow.state.qualified = q.flow.state.qualified then c2
      else outletValue (env q3) n .flow q3.flow.state.qualified c2
    ((s.sampled i q c).deliverRecord i pl).ctl =
      withNews (env q3) (s.live.outletCfg n).pass (outletRecord (env q3) n (loadRecord pl)) c3 := by
  intro k env q2 q3 c0 c2 c3
  rw [deliverRecord_outlet i q c s pl kind]
  simp only [sampled_ctl, named, Option.elim_some, hearChange_outlet _ _ _ _ kind named, outletValue_d1,
    ite_self]
  rfl

/-- R74, R77, R78: what a TIP record does to the controllers, at the tip point that names the station. -/
theorem deliverRecord_tip_ctl {n : Fin 12} (kind : (s.live.stationCfg i).kind = some .tip)
    (named : s.live.tipOfStation i = some n) :
    let k := s.live.stationCfg i
    let env := fun q' => s.sampledEnv i q'
    let q2 : Qualifiers :=
      { q with
        d0 := q.d0.sample k.depth (pl[0].getLsbD 0), d1 := q.d1.sample k.depth (pl[0].getLsbD 1)
        d2 := q.d2.sample k.depth (pl[0].getLsbD 2) }
    let c1 := if q2.d1.value = q.d1.value then c
      else tipValue (env { q2 with d2 := q.d2 }) n .d1 q2.d1.value c
    let c2 := if q2.d2.value = q.d2.value then c1 else tipValue (env q2) n .d2 q2.d2.value c1
    ((s.sampled i q c).deliverRecord i pl).ctl =
      withNews (env q2) (s.live.tipCfg n).pass
        (tipRecord (env q2) n (lowOctet pl[1]) pl[2].toNat) c2 := by
  intro k env q2 c1 c2
  rw [deliverRecord_tip i q c s pl kind]
  simp only [sampled_ctl, named, Option.elim_some, hearChange_tip _ _ _ _ kind named, tipValue_d0,
    ite_self]
  rfl

/-- R74, R87, R88: what a LEVEL record does to the controllers, at the pass that names the station. -/
theorem deliverRecord_level_ctl {p : Fin 4} (kind : (s.live.stationCfg i).kind = some .level)
    (named : s.live.passOfStation i = some p) :
    let k := s.live.stationCfg i
    let y := q.level.sample k (s.live.levelPass i) pl[0].toNat (lowOctet pl[1]).toNat
    let m := q.moisture.sample k (lowOctet pl[2]).toNat
    let e1 := s.sampledEnv i { q with level := y.1 }
    let e2 := s.sampledEnv i { q with level := y.1, moisture := m }
    let c1 := if y.2 then withNews e1 p (levelReport e1 p y.1.fill y.1.valid) c else c
    ((s.sampled i q c).deliverRecord i pl).ctl =
      if m.state = q.moisture.state then c1 else withNews e2 p (sensorReport e2 p m.state) c1 := by
  intro k y m e1 e2 c1
  rw [deliverRecord_level i q c s pl kind]
  simp only [sampled_ctl, named, Option.elim_some]
  rfl

theorem deliverRecord_sampledAt : SampledAt i s ((s.sampled i q c).deliverRecord i pl) := by
  rcases kind : (s.live.stationCfg i).kind with _ | (_ | _ | _)
  · unfold State.deliverRecord
    simp only [sampled_live, kind]
    exact ⟨_, _, rfl⟩
  · exact ⟨_, _, deliverRecord_tip i q c s pl kind⟩
  · exact ⟨_, _, deliverRecord_outlet i q c s pl kind⟩
  · exact ⟨_, _, deliverRecord_level i q c s pl kind⟩

end

/-! ### The answer (R38, R58) -/

/-- R38, R58, R72: the emptied slot, the judged entry, and the answer with this closing word: an accepted
record is released, and a discarded one writes the latch where the status changed. -/
def State.judged (i k : Fin 32) (closing : Word) (z : Station × Bool) (s : State) : State :=
  { s with
    stations := s.stations.set i.val z.1
    stationSlots := s.stationSlots.set k.val
      { staging := Vector.replicate 10 none
        latch := if z.2 then none
          else if z.1.status = (s.station i).status then (s.stationSlot k).latch
          else some z.1.status }
    urgent := if z.2 then s.urgent ++ [entriesAt (s.stationBase k)
        ((s.stationSlot k).payload.toList ++ [closing, z.1.status])]
      else s.urgent }

section
variable (i k : Fin 32) (closing : Word) (z : Station × Bool) (s : State)

theorem answerRecord_eq_judged :
    ((s.emptyStaging k).setStation i z.1).answerRecord i k (s.stationSlot k).payload closing z.2
      (s.station i).status = s.judged i k closing z := by
  have status : ((s.emptyStaging k).setStation i z.1).station i = z.1 := State.station_setStation_same ..
  unfold State.judged State.answerRecord
  rw [status]
  cases z.2
  · by_cases same : z.1.status = (s.station i).status
    · simp only [same, if_true, Bool.false_eq_true, if_false]
      rfl
    · simp only [same, Bool.false_eq_true, if_false, State.putLatch, State.setStationSlot,
        State.setStation, State.emptyStaging, Vector.set_set, State.stationSlot,
        Vector.getElem_set_self, Fin.getElem_fin]
  · simp only [if_true, State.release, State.setStationSlot, State.placeUrgent, State.setStation,
      State.emptyStaging, Vector.set_set, State.stationSlot, Vector.getElem_set_self, Fin.getElem_fin]
    rfl

theorem judged_station_same : (s.judged i k closing z).station i = z.1 :=
  State.station_setStation_same ..

theorem judged_station_other {j : Fin 32} (other : j ≠ i) :
    (s.judged i k closing z).station j = s.station j :=
  State.station_setStation_other s z.1 other.symm

theorem judged_slot_same : (s.judged i k closing z).stationSlot k =
    { staging := Vector.replicate 10 none
      latch := if z.2 then none
        else if z.1.status = (s.station i).status then (s.stationSlot k).latch
        else some z.1.status } :=
  State.stationSlot_setStationSlot_same s k _

theorem judged_slot_other {j : Fin 32} (other : j ≠ k) :
    (s.judged i k closing z).stationSlot j = s.stationSlot j :=
  State.stationSlot_setStationSlot_other s _ other.symm

end

/-- R58: a complete record of its own station: the answer, the freshness event and the delivery. -/
theorem takeClosing_addressed {s : State} {k i : Fin 32} {v : Word}
    (assigned : s.live.stationOfSlot k = some i) (complete : (s.stationSlot k).complete = true)
    (addressed : (highOctet v).toNat = i.val) :
    let x := s.station i
    let y := x.checkOctet (lowOctet v)
    let z := y.1.orderOctet y.2 s.clock
    let a := s.judged i k (joinWord (highOctet v) (y.2.getD (lowOctet v))) z
    let b := a.freshnessEvent i x.freshness (if z.2 then .accept else .discard)
    s.takeClosing k v =
      if z.2 && z.1.freshness == .fresh then b.deliverRecord i (s.stationSlot k).payload else b := by
  intro x y z a b
  refine (takeClosing_complete assigned complete v).trans ((if_pos addressed).trans ?_)
  rw [← show _ = b from congrArg (State.freshnessEvent i x.freshness _) (answerRecord_eq_judged ..)]
  rfl

end Sys2Proof.Machine
end

section
/-! Proofs: the record judged, delivered and released; O20 (R37, R38, R58, R72 to R74, R89). -/

namespace Sys2Proof.Machine

/-! ### An accepted record leaves its station LOCKED (section 3.5) -/

/-- An accept, or else a discard: what every branch of the order machine answers. -/
def LockedOnAccept (z : Station × Bool) : Prop := z.2 = true → z.1.order = .locked

theorem lockedOnAccept_accept (h : Bool) (c : BitVec 3) (now : Clock) (x : Station) :
    LockedOnAccept (x.accept h c now, true) := fun _ => rfl

theorem lockedOnAccept_discard (x : Station) : LockedOnAccept (x, false) := nofun

section
variable (h : Bool) (c : BitVec 3) (now : Clock) (x : Station)

theorem lockedOnAccept_skipValid : LockedOnAccept (x.skipValid h c now) := by
  simp only [Station.skipValid, apply_ite LockedOnAccept, lockedOnAccept_accept, lockedOnAccept_discard,
    ite_self]

theorem lockedOnAccept_orderValid : LockedOnAccept (x.orderValid h c now) := by
  cases order : x.order <;> simp only [Station.orderValid, order]
  case hunt => exact lockedOnAccept_discard _
  case skip => exact lockedOnAccept_skipValid h c now x
  all_goals
    simp only [apply_ite LockedOnAccept, lockedOnAccept_accept, lockedOnAccept_discard, ite_self]

theorem lockedOnAccept_orderOctet (o : Option Octet) : LockedOnAccept (x.orderOctet o now) := by
  cases o with
  | none => exact lockedOnAccept_discard _
  | some v => exact lockedOnAccept_orderValid _ _ now x

end

/-! ### The freshness event of a judged record -/

section
variable {s : State} {k i : Fin 32} {closing : Word} {z : Station × Bool}

/-- R73: an accepted record with its station FRESH: the event, if it was not FRESH before. -/
theorem judged_freshnessEvent (locked : z.1.order = .locked) (fresh : z.1.freshness = .fresh)
    (old : Freshness) :
    let a := s.judged i k closing z
    let reported := if old = .fresh then s.ctl
      else s.ctl.report s.env .freshness i.val old.code 1 2 1
    a.freshnessEvent i old .accept = a.sampled i (s.qual i)
      (if old = .fresh then reported
       else s.live.hearFreshness i old .fresh (a.sampledEnv i (s.qual i)) reported) := by
  intro a reported
  have now : (a.station i).freshness = .fresh := by rw [judged_station_same, fresh]
  by_cases was : old = .fresh
  · rw [if_pos was, show reported = s.ctl from if_pos was,
      freshnessEvent_same i old .accept a (now.trans was.symm)]
    exact (sampled_self i a).symm
  · rw [if_neg was, show reported = _ from if_neg was, freshnessEvent_gained i old .accept a now was,
      judged_station_same, locked]
    rfl

end

section
variable {s : State} {k i : Fin 32} {v : Word} (assigned : s.live.stationOfSlot k = some i)
  (complete : (s.stationSlot k).complete = true) (addressed : (highOctet v).toNat = i.val)
include assigned complete addressed

/-- R73, R89: a record that is not delivered. -/
theorem takeClosing_undelivered :
    let x := s.station i
    let y := x.checkOctet (lowOctet v)
    let z := y.1.orderOctet y.2 s.clock
    let a := s.judged i k (joinWord (highOctet v) (y.2.getD (lowOctet v))) z
    ¬(z.2 = true ∧ z.1.freshness = .fresh) → ∃ c, s.takeClosing k v = a.sampled i
      (if x.freshness = .fresh ∧ z.1.freshness ≠ .fresh then Qualifiers.reset else s.qual i) c := by
  intro x y z a undelivered
  obtain ⟨c, event⟩ := freshnessEvent_sampled i x.freshness (if z.2 then .accept else .discard) a
  rw [judged_station_same] at event
  refine ⟨c, (takeClosing_addressed assigned complete addressed).trans ((if_neg ?_).trans event)⟩
  simpa using undelivered

/-- R73, R74: a record that is delivered. -/
theorem takeClosing_delivered :
    let x := s.station i
    let y := x.checkOctet (lowOctet v)
    let z := y.1.orderOctet y.2 s.clock
    let a := s.judged i k (joinWord (highOctet v) (y.2.getD (lowOctet v))) z
    let reported := if x.freshness = .fresh then s.ctl
      else s.ctl.report s.env .freshness i.val x.freshness.code 1 2 1
    z.2 = true → z.1.freshness = .fresh →
      s.takeClosing k v = (a.sampled i (s.qual i)
        (if x.freshness = .fresh then reported
         else s.live.hearFreshness i x.freshness .fresh (a.sampledEnv i (s.qual i))
           reported)).deliverRecord i (s.stationSlot k).payload := by
  intro x y z a reported accepted fresh
  refine (takeClosing_addressed assigned complete addressed).trans ((if_pos ?_).trans ?_)
  · simpa using And.intro accepted fresh
  · rw [accepted, if_pos rfl]
    exact congrArg _ (judged_freshnessEvent (lockedOnAccept_orderOctet _ _ _ accepted) fresh x.freshness)

theorem takeClosing_sampledAt :
    let y := (s.station i).checkOctet (lowOctet v)
    SampledAt i (s.judged i k (joinWord (highOctet v) (y.2.getD (lowOctet v)))
      (y.1.orderOctet y.2 s.clock)) (s.takeClosing k v) := by
  intro y
  by_cases delivered : (y.1.orderOctet y.2 s.clock).2 = true ∧
      (y.1.orderOctet y.2 s.clock).1.freshness = .fresh
  · rw [takeClosing_delivered assigned complete addressed delivered.1 delivered.2]
    exact deliverRecord_sampledAt ..
  · exact ⟨_, takeClosing_undelivered assigned complete addressed delivered⟩

end

/-! ### The state after the event -/

/-- What the write leaves when the taking moved qualifiers and controllers alone. -/
theorem QualOnly.ready_seek {a w : State} (only : QualOnly a w) : w.ready.seek =
    { a with
      port := none, busReady := true, quals := w.quals, ctl := w.ctl, drainer := w.ready.seek.drainer } := by
  unfold QualOnly at only
  rw [seek_eq, State.ready, only]

section
variable {a w : State} (only : QualOnly a w)
include only

theorem ready_seek_qual (j : Fin 32) : w.ready.seek.qual j = w.qual j := by
  rw [only.ready_seek]
  rfl

/-- The environment of a step of the walk, from that of the state after the event. -/
theorem ready_seek_env (i : Fin 32) (q : Qualifiers) :
    { w.ready.seek.env with quals := a.quals.set i.val q } = a.sampledEnv i q := by
  rw [only.ready_seek]
  rfl

end

/-- The environment of the state after the event. -/
theorem SampledAt.ready_seek_env {i : Fin 32} {a w : State} (h : SampledAt i a w) :
    w.ready.seek.env = a.sampledEnv i (w.qual i) := by
  obtain ⟨q, c, rfl⟩ := h
  rw [(SampledAt.qualOnly ⟨q, c, rfl⟩).ready_seek, qual_sampled]
  rfl

/-- R73: the freshness event of an OUTLET station and of a TIP station at their consumers. -/
theorem hearFreshness_outlet {l : Live} {i : Fin 32} {n : Fin 8} (kind : (l.stationCfg i).kind = some .outlet)
    (named : l.outletOfStation i = some n) (old new : Freshness) (e : Env) (c : Ctl) :
    l.hearFreshness i old new e c = outletFreshness e n new c := by
  unfold Live.hearFreshness
  rw [kind, named]
  rfl

theorem hearFreshness_tip {l : Live} {i : Fin 32} {n : Fin 12} (kind : (l.stationCfg i).kind = some .tip)
    (named : l.tipOfStation i = some n) (old new : Freshness) (e : Env) (c : Ctl) :
    l.hearFreshness i old new e c = tipFreshness e n old new c := by
  unfold Live.hearFreshness
  rw [kind, named]
  rfl

theorem hearFreshness_level {l : Live} {i : Fin 32} (kind : (l.stationCfg i).kind = some .level)
    (old new : Freshness) (e : Env) (c : Ctl) : l.hearFreshness i old new e c = c := by
  unfold Live.hearFreshness
  rw [kind]

/-- Settles O20: what the judgement leaves, what the walk of the delivery makes of the qualifiers and the
controllers, and the four samples case by case. -/
theorem recordIsJudgedAndReleased : Obligations.RecordIsJudgedAndReleased := by
  unfold Obligations.RecordIsJudgedAndReleased
  refine ⟨fun s k i v takes assigned complete addressed => ?judged,
    fun s k i v takes assigned complete addressed => ?delivered, fun depth raw f => rfl,
    fun k level now since f => ?flow, fun k pass distance quality f => ?level,
    fun k reading m => ?moisture⟩
  case judged =>
    intro x y z
    let closing := joinWord (highOctet v) (y.2.getD (lowOctet v))
    have slot := judged_slot_same i k closing z s
    have after := (takeClosing_sampledAt assigned complete addressed).qualOnly.ready_seek
    obtain ⟨-, free, -⟩ := takes.1
    refine ⟨_, exec_closingWordWrite_with_room takes k v, ?_⟩
    rw [after]
    refine ⟨judged_station_same i k closing z s, fun j => judged_station_other i k closing z s,
      congrArg StationSlot.staging slot, fun j => judged_slot_other i k closing z s,
      fun accepted => ⟨?_, if_pos accepted⟩,
      fun discarded => ⟨if_neg (Bool.eq_false_iff.1 discarded), ?_⟩, ?_⟩
    · exact (congrArg StationSlot.latch slot).trans (if_pos accepted)
    · exact (congrArg StationSlot.latch slot).trans (if_neg (Bool.eq_false_iff.1 discarded))
    · rw [← free]
      rfl
  case delivered =>
    intro x y z cfg pl q delivered discrete level moisture
    set a := s.judged i k (joinWord (highOctet v) (y.2.getD (lowOctet v))) z
    have walk : SampledAt i a (s.takeClosing k v) := takeClosing_sampledAt assigned complete addressed
    refine ⟨_, exec_closingWordWrite_with_room takes k v, fun j other => ?others,
      fun undelivered => ?kept, fun ⟨accepted, fresh⟩ => ?handed⟩
    case others =>
      rw [ready_seek_qual walk.qualOnly, walk.qual_other other]
      rfl
    case kept =>
      obtain ⟨c, taken⟩ := takeClosing_undelivered assigned complete addressed undelivered
      rw [ready_seek_qual walk.qualOnly, taken, qual_sampled]
    case handed =>
      intro env reported
      have env_eq : env = fun q' => a.sampledEnv i q' := funext (ready_seek_env walk.qualOnly i)
      have taken := takeClosing_delivered assigned complete addressed accepted fresh
      clear_value env
      subst env_eq
      rw [seek_ctl, ready_seek_qual walk.qualOnly, walk.ready_seek_env, taken]
      refine ⟨?outlet, ?tip, ?fill⟩
      case outlet =>
        intro kind q2 q3
        refine ⟨?_, fun n named => ?_⟩
        · rw [deliverRecord_outlet _ _ _ _ _ (by exact kind)]
          exact qual_sampled ..
        · simp only [hearFreshness_outlet kind named]
          exact deliverRecord_outlet_ctl i q _ a pl kind named
      case tip =>
        intro kind q2
        refine ⟨?_, fun n named => ?_⟩
        · rw [deliverRecord_tip _ _ _ _ _ (by exact kind)]
          exact qual_sampled ..
        · simp only [hearFreshness_tip kind named]
          exact deliverRecord_tip_ctl i q _ a pl kind named
      case fill =>
        intro kind
        have qual (c : Ctl) : ((a.sampled i q c).deliverRecord i pl).qual i =
            { q with level := level.1, moisture := moisture } := by
          rw [deliverRecord_level i q c a pl kind]
          exact qual_sampled ..
        refine ⟨qual _, fun p named => ?_⟩
        rw [qual]
        simp only [hearFreshness_level kind, ite_self]
        exact deliverRecord_level_ctl i q _ a pl kind named
  case flow =>
    intro y at_
    refine ⟨fun rest => ?_, fun rising rise => ?_, fun flowing => ?_, fun dropping => ?_⟩
    · have sampled : y = flowFromRest k level now := flowSample_rest rest
      rw [sampled, flowFromRest]
      exact ⟨fun low => if_pos low,
        fun high now => (if_neg (Nat.not_lt.2 high)).trans (if_pos now),
        fun high later => (if_neg (Nat.not_lt.2 high)).trans (if_neg later)⟩
    · have sampled : y = _ := flowSample_rising rising rise
      rw [sampled]
      exact ⟨fun low => if_pos low,
        fun high short => (if_neg (Nat.not_lt.2 high)).trans (if_pos short),
        fun high long => (if_neg (Nat.not_lt.2 high)).trans (if_neg (Nat.not_lt.2 long))⟩
    · have sampled : y = _ := flowSample_flow flowing
      rw [sampled]
      exact ⟨fun high => if_pos high,
        fun low now => (if_neg (Nat.not_le.2 low)).trans (if_pos now),
        fun low later => (if_neg (Nat.not_le.2 low)).trans (if_neg later)⟩
    · have sampled : y = _ := flowSample_dropping dropping
      rw [sampled]
      exact ⟨fun high => if_pos high, fun low => if_neg (Nat.not_le.2 low)⟩
  case level =>
    intro y smoothed updates
    have poorly (poor : quality < k.qualityFloor) : y = _ := levelSample_poor poor
    have well (good : k.qualityFloor ≤ quality) : y = _ := levelSample_good good
    refine ⟨fun poor few => (poorly poor).trans (if_neg (Nat.not_le.2 few)),
      fun poor many => (poorly poor).trans (if_pos many), fun good known few => ?_, fun good due => ?_⟩
    · exact (well good).trans (if_neg fun due => due.elim known (Nat.not_le.2 few))
    · rw [(well good).trans (if_pos due)]
      refine ⟨rfl, rfl, rfl, rfl, rfl, decide_eq_true_iff, fun none => ?_, fun cfg some => ?_⟩
      · rw [none]; rfl
      · rw [some]; rfl
  case moisture =>
    intro y wet dry
    have sampled : y = _ := moisture_sample k reading m
    rw [moisture_count] at sampled
    rw [sampled]
    exact ⟨rfl, rfl, rfl⟩

end Sys2Proof.Machine
end

section
/-! Proofs: the code of the sequence octet, O21, and the check machine, O22 (R60 to R63). -/

namespace Sys2Proof.Machine

/-! ### Remainder and parity are linear -/

theorem divideStep_xor (v w : BitVec 7) (i : Nat) :
    divideStep (v ^^^ w) i = divideStep v i ^^^ divideStep w i := by
  unfold divideStep
  rw [BitVec.getLsbD_xor]
  generalize (0b1101 : BitVec 7) <<< i = g
  cases v.getLsbD (i + 3) <;> cases w.getLsbD (i + 3)
  case false.false => rfl
  case false.true => exact BitVec.xor_assoc v w g
  case true.false =>
    show (v ^^^ w) ^^^ g = (v ^^^ g) ^^^ w
    ac_rfl
  case true.true =>
    have twice : (v ^^^ g) ^^^ (w ^^^ g) = (v ^^^ w) ^^^ (g ^^^ g) := by ac_rfl
    rw [BitVec.xor_self, BitVec.xor_zero] at twice
    exact twice.symm

theorem remainder_xor (v w : BitVec 7) : remainder (v ^^^ w) = remainder v ^^^ remainder w := by
  simp only [remainder, divideStep_xor, BitVec.extractLsb'_xor]

theorem syndrome_xor (o x : Octet) : syndrome (o ^^^ x) = syndrome o ^^^ syndrome x := by
  simp only [syndrome, BitVec.extractLsb'_xor, remainder_xor]

theorem evenParity_xor (o x : Octet) : evenParity (o ^^^ x) = (evenParity o == evenParity x) := by
  have not_xor (a b : Bool) : (!(a ^^ b)) = ((!a) == (!b)) := by cases a <;> cases b <;> rfl
  simp only [evenParity, BitVec.getLsbD_xor]
  refine (congrArg (! ·) ?_).trans (not_xor _ _)
  have comm : Std.Commutative Bool.xor := ⟨Bool.xor_comm⟩
  ac_rfl

/-! ### One inverted bit

The syndromes of the single bits, 0 for the parity bit, are the eight values of three bits, each once: so a
syndrome names its bit. -/

/-- The octet that is 1 in one bit alone. -/
def bitOctet (i : Nat) : Octet := (1 : Octet) <<< i

theorem evenParity_bitOctet (i : Fin 8) : evenParity (bitOctet i.val) = false := by decide +revert

theorem namedBit_syndrome_bitOctet (i : Fin 8) : namedBit (syndrome (bitOctet i.val)) = i.val := by
  decide +revert

theorem syndrome_bitOctet_namedBit (σ : BitVec 3) : syndrome (bitOctet (namedBit σ)) = σ := by
  decide +revert

theorem namedBit_lt (σ : BitVec 3) : namedBit σ < 8 := by decide +revert

theorem syndrome_invertBit (o : Octet) (i : Nat) :
    syndrome (invertBit o i) = syndrome o ^^^ syndrome (bitOctet i) := syndrome_xor ..

theorem evenParity_invertBit (o : Octet) (i : Fin 8) :
    evenParity (invertBit o i.val) = !evenParity o := by
  refine (evenParity_xor ..).trans ?_
  rw [← bitOctet, evenParity_bitOctet]
  cases evenParity o <;> rfl

/-! ### The classes (R61) -/

section
variable {o : Octet}

theorem classifyOctet_noError (zero : syndrome o = 0) (even : evenParity o = true) :
    classifyOctet o = .noError := (if_pos zero).trans (if_pos even)

/-- R61: the parity bit is the one named by the syndrome 0. -/
theorem classifyOctet_odd (odd : evenParity o = false) :
    classifyOctet o = .single (namedBit (syndrome o)) := by
  unfold classifyOctet
  by_cases zero : syndrome o = 0
  · rw [zero, odd]; rfl
  · rw [if_neg zero, odd]; rfl

theorem classifyOctet_double (other : syndrome o ≠ 0) (even : evenParity o = true) :
    classifyOctet o = .double := (if_neg other).trans (if_pos even)

/-- R61: a single error is odd, and its bit is the one the syndrome names. -/
theorem eq_namedBit_of_single {bit : Nat} (single : classifyOctet o = .single bit) :
    evenParity o = false ∧ bit = namedBit (syndrome o) := by
  cases even : evenParity o with
  | false =>
    rw [classifyOctet_odd even] at single
    exact ⟨rfl, (OctetClass.single.inj single).symm⟩
  | true =>
    by_cases zero : syndrome o = 0
    · exact absurd ((classifyOctet_noError zero even).symm.trans single) nofun
    · exact absurd ((classifyOctet_double zero even).symm.trans single) nofun

/-- R63: the bit that a single error names is the one to invert. -/
theorem classifyOctet_corrected {bit : Nat} (single : classifyOctet o = .single bit) :
    classifyOctet (invertBit o bit) = .noError := by
  obtain ⟨odd, rfl⟩ := eq_namedBit_of_single single
  refine classifyOctet_noError ?_ ?_
  · rw [syndrome_invertBit, syndrome_bitOctet_namedBit]; exact BitVec.xor_self
  · rw [evenParity_invertBit o ⟨_, namedBit_lt _⟩, odd]; rfl

end

/-- R60: the sixteen well-formed octets carry their flag and count, and are code words. -/
theorem wellFormedOctet_spec (h : Bool) (c : BitVec 3) :
    syndrome (wellFormedOctet h c) = 0 ∧ evenParity (wellFormedOctet h c) = true ∧
      octetHealthy (wellFormedOctet h c) = h ∧ octetCount (wellFormedOctet h c) = c := by
  decide +revert

/-- Settles O21: a code word has syndrome 0 and even parity; each inverted bit turns the parity and adds its
own syndrome, and no two bits have the same. -/
theorem sequenceOctetCode : Obligations.SequenceOctetCode := by
  unfold Obligations.SequenceOctetCode
  intro h c
  obtain ⟨zero, even, healthy, count⟩ := wellFormedOctet_spec h c
  set o := wellFormedOctet h c
  have once (i : Fin 8) : syndrome (invertBit o i.val) = syndrome (bitOctet i.val) := by
    rw [syndrome_invertBit, zero]; exact BitVec.zero_xor
  have odd (i : Fin 8) : evenParity (invertBit o i.val) = false := by
    rw [evenParity_invertBit, even]; rfl
  refine ⟨classifyOctet_noError zero even, healthy, count, fun i => ?_, fun i j differ => ?_⟩
  · rw [classifyOctet_odd (odd i), once, namedBit_syndrome_bitOctet]
  · refine classifyOctet_double (fun same => differ (Fin.ext ?_)) (by rw [evenParity_invertBit, odd]; rfl)
    rw [syndrome_invertBit, once] at same
    have equal : syndrome (bitOctet i.val) = syndrome (bitOctet j.val) := BitVec.xor_eq_zero_iff.1 same
    rw [← namedBit_syndrome_bitOctet i, equal, namedBit_syndrome_bitOctet]

/-! ### The check machine (R62, R63) -/

section
variable {x : Station} {o : Octet}

theorem checkOctet_noError (clean : classifyOctet o = .noError) :
    x.checkOctet o = ({ x with check := .correcting }, some o) := by
  unfold Station.checkOctet
  rw [clean]

theorem checkOctet_correcting {bit : Nat} (single : classifyOctet o = .single bit)
    (correcting : x.check = .correcting) : x.checkOctet o =
      ({ x.bump .corrected 1 with check := .detecting }, some (invertBit o bit)) := by
  simp only [Station.checkOctet, single, correcting]

theorem checkOctet_detecting {bit : Nat} (single : classifyOctet o = .single bit)
    (detecting : x.check = .detecting) : x.checkOctet o =
      ({ x.bump .uncorrectable 1 with check := .detecting }, none) := by
  simp only [Station.checkOctet, single, detecting, Station.bump]

theorem checkOctet_double (double : classifyOctet o = .double) :
    x.checkOctet o = ({ x.bump .uncorrectable 1 with check := .detecting }, none) := by
  unfold Station.checkOctet
  rw [double]

end

/-- Settles O22, class by class of the octet and, for a single error, state by state. -/
theorem checkMachineTable : Obligations.CheckMachineTable := by
  unfold Obligations.CheckMachineTable
  exact fun x o => ⟨checkOctet_noError, fun bit single => ⟨fun correcting =>
    ⟨checkOctet_correcting single correcting, classifyOctet_corrected single⟩,
    checkOctet_detecting single⟩, checkOctet_double⟩

end Sys2Proof.Machine
end

section
/-! Proofs: the order machine, O23, freshness, O24, and the clearing of the counters, O50 (R64 to R71, R75,
R76). -/

namespace Sys2Proof.Machine

/-! ### The order machine, state by state (R64 to R68) -/

section
variable {x : Station} (h : Bool) (c : BitVec 3) (now : Clock)

theorem orderValid_hunt (order : x.order = .hunt) : x.orderValid h c now = (x.toTrial c, false) := by
  simp only [Station.orderValid, order]

theorem orderValid_trial (order : x.order = .trial) : x.orderValid h c now =
    if c - x.last = 1 then (x.accept h c now, true) else (x.toTrial c, false) := by
  simp only [Station.orderValid, order]

theorem orderValid_locked (order : x.order = .locked) : x.orderValid h c now =
    if c - x.last = 1 then (x.accept h c now, true)
    else if c - x.last = 0 then (x.bump .duplicates 1, false)
    else ({ x.bump .sequenceErrors 1 with order := .skip, held := some c }, false) := by
  simp only [Station.orderValid, order]

theorem orderValid_skip {held : BitVec 3} (order : x.order = .skip) (holds : x.held = some held) :
    x.orderValid h c now =
      if c - held = 1 then
        (((x.bump .lost ((held - x.last).toNat - 1)).bump .withheld 1).accept h c now, true)
      else if c - x.last = 1 then ((x.bump .misinserted 1).accept h c now, true)
      else (x.toTrial c, false) := by
  simp only [Station.orderValid, order, Station.skipValid, holds, Option.getD_some]

theorem orderValid_doubt (order : x.order = .doubt) : x.orderValid h c now =
    if c - x.last = 1 then ((x.bump .misinserted 1).accept h c now, true)
    else if c - x.last = 2 then ((x.bump .lost 1).accept h c now, true)
    else (x.toTrial c, false) := by
  simp only [Station.orderValid, order]

theorem orderValid_late (order : x.order = .late) : x.orderValid h c now =
    if c - x.last = 0 then (x.bump .duplicates 1, false)
    else ((x.bump .lost ((c - x.last).toNat - 1)).accept h c now, true) := by
  simp only [Station.orderValid, order]

/-- R64, R66, R67: an invalid octet while the station is not LOCKED and not LATE. -/
theorem orderInvalid_toHunt (order : x.order ≠ .locked ∧ x.order ≠ .late) :
    x.orderInvalid = x.toHunt := by
  unfold Station.orderInvalid
  obtain ⟨notLocked, notLate⟩ := order
  cases state : x.order
  case locked => exact absurd state notLocked
  case late => exact absurd state notLate
  all_goals rfl

theorem orderInvalid_locked (order : x.order = .locked) :
    x.orderInvalid = { x.bump .sequenceErrors 1 with order := .doubt } := by
  simp only [Station.orderInvalid, order]

theorem orderInvalid_late (order : x.order = .late) : x.orderInvalid = x := by
  simp only [Station.orderInvalid, order]

end

/-! ### The counters and their rollover flags (R75) -/

theorem getLsbD_flag (k : Nat) (b : Fin 11) :
    ((1 : BitVec 11) <<< k).getLsbD b.val = decide (b.val = k) := by
  refine (BitVec.getLsbD_twoPow k b.val).trans ?_
  rw [← Bool.decide_and]
  exact decide_eq_decide.2 (by omega)

/-- R75: a rollover flag is set where the counter wraps, and stays set. -/
theorem getLsbD_rollover (flags : BitVec 11) (k : Nat) {wraps : Prop} [Decidable wraps] (b : Fin 11) :
    (if wraps then flags ||| ((1 : BitVec 11) <<< k) else flags).getLsbD b.val =
      (flags.getLsbD b.val || (decide (b.val = k) && decide wraps)) := by
  by_cases wrap : wraps
  · rw [if_pos wrap, BitVec.getLsbD_or, getLsbD_flag, decide_eq_true wrap, Bool.and_true]
  · rw [if_neg wrap, decide_eq_false wrap, Bool.and_false, Bool.or_false]

theorem bump_spec (x : Station) (counter : Counter) (n : Nat) :
    let i := counter.index
    let y := x.bump counter n
    let sum := x.events[i].toNat + n
    y = { x with events := y.events, rollover := y.rollover } ∧
    y.events[i].toNat = sum % 256 ∧ (∀ j : Fin 10, j ≠ i → y.events[j] = x.events[j]) ∧
    (∀ b : Fin 11, y.rollover.getLsbD b.val =
      (x.rollover.getLsbD b.val || (decide (b.val = i.val + 1) && decide (256 ≤ sum)))) := by
  intro i y sum
  have events : y.events = x.events.set i.val (BitVec.ofNat 8 sum) i.isLt := rfl
  refine ⟨rfl, ?_, fun j other => ?_, fun b => getLsbD_rollover x.rollover (i.val + 1) b⟩
  · rw [events, Fin.getElem_fin, Vector.getElem_set_self, BitVec.toNat_ofNat]
  · rw [events, Fin.getElem_fin, Vector.getElem_set_ne _ _ fun same => other (Fin.ext same.symm)]
    rfl

theorem accept_spec (x : Station) (h : Bool) (c : BitVec 3) (now : Clock) :
    let y := x.accept h c now
    y.events = x.events ∧
    y.accepted.toNat = (x.accepted.toNat + 1) % 65536 ∧
    (∀ b : Fin 11, y.rollover.getLsbD b.val =
      (x.rollover.getLsbD b.val || (decide (b.val = 0) && decide (x.accepted.toNat = 65535)))) ∧
    y.check = x.check := by
  intro y
  refine ⟨rfl, ?_, fun b => ?_, rfl⟩
  · exact BitVec.toNat_add x.accepted 1
  · have last : x.accepted = 65535 ↔ x.accepted.toNat = 65535 := BitVec.toNat_inj.symm
    simp only [← last]
    exact getLsbD_rollover x.rollover 0 b

/-- Settles O23, state by state of the order machine. -/
theorem orderMachineTables : Obligations.OrderMachineTables := by
  unfold Obligations.OrderMachineTables
  refine ⟨fun x h c now => ?acquisition, fun x h c now => ?gaps, bump_spec, accept_spec, rfl⟩
  case acquisition =>
    intro d accepted
    refine ⟨fun hunt => ⟨orderValid_hunt h c now hunt, ?hunt⟩, fun trial => ?trial,
      fun locked => ?locked,
      rfl, rfl, rfl, rfl, rfl, rfl, rfl, rfl, rfl, rfl, rfl, rfl⟩
    case hunt => rw [orderInvalid_toHunt (by simp [hunt])]; rfl
    case trial =>
      have valid := orderValid_trial h c now trial
      refine ⟨fun next => valid.trans (if_pos next), fun other => valid.trans (if_neg other), ?_⟩
      rw [orderInvalid_toHunt (by simp [trial])]; rfl
    case locked =>
      have valid := orderValid_locked h c now locked
      exact ⟨fun next => valid.trans (if_pos next),
        fun same => valid.trans ((if_neg (ne_of_eq_of_ne same (by decide))).trans (if_pos same)),
        fun notSame notNext => valid.trans ((if_neg notNext).trans (if_neg notSame)),
        orderInvalid_locked locked⟩
  case gaps =>
    intro d
    refine ⟨fun held skip holds => ?skip, fun doubt => ?doubt, fun late => ?late⟩
    case skip =>
      have valid := orderValid_skip h c now skip holds
      exact ⟨fun afterHeld => valid.trans (if_pos afterHeld),
        fun notHeld next => valid.trans ((if_neg notHeld).trans (if_pos next)),
        fun notHeld notNext => valid.trans ((if_neg notHeld).trans (if_neg notNext)),
        orderInvalid_toHunt (by simp [skip])⟩
    case doubt =>
      have valid := orderValid_doubt h c now doubt
      exact ⟨fun next => valid.trans (if_pos next),
        fun second => valid.trans ((if_neg (ne_of_eq_of_ne second (by decide))).trans (if_pos second)),
        fun notNext notSecond => valid.trans ((if_neg notNext).trans (if_neg notSecond)),
        orderInvalid_toHunt (by simp [doubt])⟩
    case late =>
      have valid := orderValid_late h c now late
      exact ⟨fun same => valid.trans (if_pos same), fun other => valid.trans (if_neg other),
        orderInvalid_late late⟩

/-! ### Freshness (R71) -/

/-- Settles O24, order state by order state. -/
theorem freshnessIsDecided : Obligations.FreshnessIsDecided := by
  unfold Obligations.FreshnessIsDecided Station.freshness
  refine fun x => ⟨?_, ?_⟩
  · rintro (locked | skip | doubt)
    · rw [locked]; rfl
    · rw [skip]; rfl
    · rw [doubt]; rfl
  · rintro (hunt | trial | late)
    · rw [hunt]; rfl
    · rw [trial]; rfl
    · rw [late]; rfl

/-! ### CLEAR_COUNTERS (R76, R162) -/

section
variable {s : State} {unit : Octet}

theorem exec_clearCounters {payload : List Octet} (takes : s.takesRequest unit payload) :
    exec (.clearCounters unit payload) s =
      .next (s.withLength unit 5 1 payload
        (State.answerInRun unit 5 (State.answerClearCounters unit payload))) :=
  (quiet_released takes.1).trans (by rw [request_takes takes])

theorem clearCounters_run {which : Octet} (takes : s.takesRequest unit [which])
    (run : s.partState = .run) : exec (.clearCounters unit [which]) s =
      .next (if 31 < which.toNat ∧ which.toNat ≠ 255 then s.inReply [unit, 0x85, 1]
        else (s.clearStations which.toNat).inReply [unit, 0x85, 0]) := by
  rw [exec_clearCounters takes, State.withLength, if_pos (List.length_singleton), State.answerInRun, run]
  rfl

theorem clearStations_inReply_only (which : Nat) (octets : List Octet) :
    (s.clearStations which).inReply octets =
      { s.inReply octets with stations := (s.clearStations which).stations } := rfl

theorem inReply_station (octets : List Octet) (i : Fin 32) :
    (s.inReply octets).station i = s.station i := rfl

/-- R76: 255 names all stations. -/
theorem allStations_iff (which : Octet) : which = 255 ↔ which.toNat = 255 := BitVec.toNat_inj.symm

theorem clearStations_station (which : Octet) (i : Fin 32) :
    (s.clearStations which.toNat).station i =
      if which = 255 ∨ i.val = which.toNat then (s.station i).clearCounters else s.station i := by
  simp only [allStations_iff]
  simp [State.clearStations, State.station]

end

/-- Settles O50: the answer by the stations named, by the length and by the part state. -/
theorem countersAreCleared : Obligations.CountersAreCleared := by
  unfold Obligations.CountersAreCleared
  refine ⟨fun s unit which takes run => ⟨fun named => ?_, fun beyond notAll => ?_⟩,
    fun s unit payload takes => ?_⟩
  · have known : ¬(31 < which.toNat ∧ which.toNat ≠ 255) := fun ⟨beyond, notAll⟩ =>
      named.elim (Nat.not_le.2 beyond) fun every => notAll ((allStations_iff which).1 every)
    rw [clearCounters_run takes run, if_neg known]
    exact ⟨_, rfl, clearStations_inReply_only ..,
      fun i => (inReply_station ..).trans (clearStations_station which i)⟩
  · have unknown : 31 < which.toNat ∧ which.toNat ≠ 255 :=
      ⟨beyond, fun every => notAll ((allStations_iff which).2 every)⟩
    rw [clearCounters_run takes run, if_pos unknown]
    rfl
  · intro answer go
    have ran : go = _ := exec_clearCounters takes
    rw [ran, State.withLength]
    refine ⟨fun other => ?_, fun one => ⟨?_, fun unconfigured => ?_⟩⟩
    · rw [if_neg other]; rfl
    · rw [if_pos one, State.answerInRun]
      rintro (starting | safing)
      · rw [starting]; rfl
      · rw [safing]; rfl
    · rw [if_pos one, State.answerInRun, unconfigured]; rfl

end Sys2Proof.Machine
end

section
/-! Proofs: what the loss of its station's freshness does at an outlet, at a tip point and at a pass (R89,
R116, R138). -/

namespace Sys2Proof.Machine

/-! ### An outlet without a last record (R91, R97, R116) -/

/-- R97: no DRAW passes without a record to draw from. -/
theorem drawCheck_unrecorded {e : Env} {n : Fin 8} {c : Ctl} (unrecorded : (c.outlet n).lastRecord = none)
    (cm : Commit) : ∃ reason, drawCheck e n cm c = .refuse reason := by
  unfold drawCheck
  exact refuse_of_ite fun _ => refuse_of_ite fun _ => refuse_of_ite fun _ =>
    ⟨.feedbackStale, if_pos (.inr unrecorded)⟩

section
variable {e : Env} {n : Fin 8} {c : Ctl}

/-- A waiting start and a deferred DRAW leave the last record. -/
theorem visitOutlet_lastRecord :
    ((visitOutlet e c n).outlet n).lastRecord = (c.outlet n).lastRecord := by
  unfold visitOutlet
  split
  · simp only [cycleStart]
    repeat' split
    · rw [endOrder_outlet]
    · rw [endOrder_outlet]
    · rw [endOrder_outlet]
    · rw [Ctl.outlet_setOutlet_same]
    · simp [beginCycle]
  · unfold rejudgeDraw
    split
    · rfl
    · split
      · rw [executeDraw, startOrder, Ctl.accept, Ctl.updSlot_outlet, Ctl.outlet_setOutlet_same, takeGrant_eq]
        cases (((c.clearHolder (outletSlot n)).pass (e.outletCfg n).pass).grant) <;> rfl
      · rfl
      · unfold Ctl.keepDeferred
        split <;> rfl

theorem visitOutlet_unrecorded (unrecorded : (c.outlet n).lastRecord = none)
    (idle : (c.outlet n).startPending = false) : (visitOutlet e c n).outlet n = c.outlet n ∧
      ((visitOutlet e c n).slot (outletSlot n)).holder = none := by
  cases held : (c.slot (outletSlot n)).holder with
  | none => rw [visitOutlet_idle idle held]; exact ⟨rfl, held⟩
  | some d =>
    obtain ⟨reason, fails⟩ := drawCheck_unrecorded unrecorded d.commit
    have refused := visitOutlet_refused idle held fails
    exact ⟨congrArg Prod.fst refused, congrArg (fun v => v.2.holder) refused⟩

end

section
variable {e : Env} {p : Fin 4} {n : Fin 8} {c : Ctl} (member : n ∈ e.live.outletsOf p)
include member

theorem settleOutlets_lastRecord :
    ((settleOutlets e p c).outlet n).lastRecord = (c.outlet n).lastRecord := by
  obtain ⟨x, y, -, -, before, between, after⟩ := settleOutlets_visits (c := c) member
  rw [(outletView_eq.1 after).1, visitOutlet_lastRecord, (outletView_eq.1 between).1,
    visitOutlet_lastRecord, (outletView_eq.1 before).1]

/-- R44, R97: a settling leaves no DRAW deferred at an outlet without a record. -/
theorem settleOutlets_unrecorded (unrecorded : (c.outlet n).lastRecord = none)
    (idle : (c.outlet n).startPending = false) :
    ((settleOutlets e p c).slot (outletSlot n)).holder = none := by
  obtain ⟨x, y, -, -, before, between, after⟩ := settleOutlets_visits (c := c) member
  have outlet : x.outlet n = c.outlet n := (outletView_eq.1 before).1
  have first := visitOutlet_unrecorded (e := e) (n := n) (c := x) (by rw [outlet]; exact unrecorded)
    (by rw [outlet]; exact idle)
  have same : y.outlet n = c.outlet n := (outletView_eq.1 between).1.trans (first.1.trans outlet)
  have second := visitOutlet_unrecorded (e := e) (n := n) (c := y) (by rw [same]; exact unrecorded)
    (by rw [same]; exact idle)
  exact (congrArg CommandSlot.holder (outletView_eq.1 after).2).trans second.2

end

/-! ### An outlet whose station leaves FRESH (R116) -/

section
variable (e : Env) (n : Fin 8) (c : Ctl)

theorem feedbackLost_atOutlet : AtOutlet n c (feedbackLost e n c) :=
  (AtOutlet.refl.setOutlet _).stopOutlet _

theorem feedbackLost_view : outletView n (feedbackLost e n c) =
    stoppedView e.clock .feedbackLost
      ({ c.outlet n with lastRecord := none }, c.slot (outletSlot n)) := by
  unfold feedbackLost
  rw [stopOutlet_view, outletView, Ctl.outlet_setOutlet_same]
  rfl

theorem feedbackLost_outlet : (feedbackLost e n c).outlet n =
    stoppedOutlet e.clock .feedbackLost { c.outlet n with lastRecord := none } :=
  congrArg Prod.fst (feedbackLost_view e n c)

theorem feedbackLost_holder : ((feedbackLost e n c).slot (outletSlot n)).holder =
    (c.slot (outletSlot n)).holder :=
  (congrArg (fun v => v.2.holder) (feedbackLost_view e n c)).trans (stoppedView_holder ..)

theorem feedbackLost_journal : (feedbackLost e n c).journal = c.journal := stopOutlet_journal ..

variable {c}

theorem feedbackLost_lastRecord : ((feedbackLost e n c).outlet n).lastRecord = none := by
  rw [feedbackLost_outlet, stoppedOutlet]
  split <;> rfl

/-- R114: a stop leaves no cycle start waiting. -/
theorem feedbackLost_startPending (idle : (c.outlet n).startPending = false) :
    ((feedbackLost e n c).outlet n).startPending = false := by
  rw [feedbackLost_outlet, stoppedOutlet]
  split
  · rfl
  · exact idle

theorem feedbackLost_stopping (active : (c.outlet n).state.active = true) :
    let o := (feedbackLost e n c).outlet n
    o.state = .stopping ∧ o.stopReason = some .feedbackLost ∧ o.startPending = false := by
  intro o
  have stopped : o = _ := (feedbackLost_outlet e n c).trans (if_pos active)
  rw [stopped]
  exact ⟨rfl, rfl, rfl⟩

theorem feedbackLost_waits {m : Fin 8} (idle : c.waits m = false) :
    (feedbackLost e n c).waits m = false := by
  by_cases same : m = n
  · subst same
    obtain ⟨holder, pending⟩ := waits_eq_false.1 idle
    exact waits_eq_false.2 ⟨(feedbackLost_holder e m c).trans holder,
      feedbackLost_startPending e m pending⟩
  · exact (waits_congr ((feedbackLost_atOutlet e n c).view same)).trans idle

end

/-- R91, R100, R116: an outlet whose station is no longer FRESH, and the outlets that waited on it. -/
theorem outletFreshness_lost {e : Env} {n : Fin 8} {c : Ctl} (present : (e.outletCfg n).present = true)
    {new : Freshness} (lost : new ≠ .fresh) :
    let o := c.outlet n
    let y := outletFreshness e n new c
    (y.outlet n).lastRecord = none ∧
    (o.startPending = false → (y.slot (outletSlot n)).holder = none) ∧
    (o.state.active = true →
      (y.outlet n).state = .stopping ∧ (y.outlet n).stopReason = some .feedbackLost) ∧
    ((∀ m ∈ e.live.outletsOf (e.outletCfg n).pass, c.waits m = false) → y.journal = c.journal) := by
  intro o y
  have member : n ∈ e.live.outletsOf (e.outletCfg n).pass := mem_outletsOf.2 ⟨present, rfl⟩
  have settled : y = settleOutlets e (e.outletCfg n).pass (feedbackLost e n c) :=
    congrArg (settleOutlets e _) (if_neg lost)
  rw [settled]
  refine ⟨?_, fun idle => ?_, fun active => ?_, fun unwaited => ?_⟩
  · rw [settleOutlets_lastRecord member, feedbackLost_lastRecord]
  · exact settleOutlets_unrecorded member (feedbackLost_lastRecord e n)
      (feedbackLost_startPending e n idle)
  · obtain ⟨state, reason, idle⟩ := feedbackLost_stopping e n active
    have kept := settleOutlets_busy (e := e) (p := (e.outletCfg n).pass) (n := n)
      (ne_of_eq_of_ne state nofun) idle
    rw [kept.1]
    exact ⟨state, reason⟩
  · rw [settleOutlets_none fun m hm => feedbackLost_waits e n (unwaited m hm), feedbackLost_journal]

/-! ### A tip point whose station leaves FRESH, or becomes FRESH (R133, R138) -/

section
variable {e : Env} {n : Fin 12} {c : Ctl}

/-- R127: no PERMIT passes at a station that is not FRESH. -/
theorem permitCheck_stale (stale : e.tipFresh n = false) :
    ∃ reason, permitCheck e n c = .refuse reason := by
  unfold permitCheck
  exact refuse_of_ite fun _ => refuse_of_ite fun _ => refuse_of_ite fun _ => refuse_of_ite fun _ =>
    ⟨.feedbackStale, if_pos stale⟩

theorem rejudgePermit_stale (stale : e.tipFresh n = false) :
    (rejudgePermit e n c).tip n = c.tip n ∧ ((rejudgePermit e n c).slot (tipSlot n)).holder = none := by
  cases held : (c.slot (tipSlot n)).holder with
  | none => rw [rejudgePermit_none held]; exact ⟨rfl, held⟩
  | some d =>
    obtain ⟨reason, fails⟩ := permitCheck_stale (c := c) stale
    have refused := rejudgePermit_refused held fails
    exact ⟨congrArg Prod.fst refused, congrArg (fun v => v.2.holder) refused⟩

/-- R44, R127: a settling leaves such a tip point, and leaves no PERMIT deferred there. -/
theorem settleTips_stale {p : Fin 4} (member : n ∈ e.live.tipsOf p) (stale : e.tipFresh n = false) :
    (settleTips e p c).tip n = c.tip n ∧ ((settleTips e p c).slot (tipSlot n)).holder = none := by
  obtain ⟨x, -, before, after⟩ := settleTips_view (I := fun _ => True) member
    (fun _ _ _ _ => trivial) c trivial
  obtain ⟨tip, slot⟩ := tipView_eq.1 after
  have refused := rejudgePermit_stale (c := x) stale
  rw [tip, slot]
  exact ⟨refused.1.trans (tipView_eq.1 before).1, refused.2⟩

theorem tipLost_view (e : Env) (n : Fin 12) (c : Ctl) : tipView n (tipLost e n c) =
    parkedView e n (withdrawnView ({ c.tip n with known := false }, c.slot (tipSlot n))) := by
  unfold tipLost
  rw [parkTip_view, withdrawTip_view, tipView, Ctl.tip_setTip_same]
  rfl

/-- R138: the tip point after the loss, by its state. -/
theorem tipLost_tip (unknown : (e.tipQual n).d2.value ≠ .yes) :
    let x := c.tip n
    let y := (tipLost e n c).tip n
    (x.state = .opened → y = { x with known := false, state := .closed, remaining := 0 }) ∧
    (x.state = .breaking → y = { x with known := false, state := .parking, park := .running e.clock }) ∧
    (x.state ≠ .opened → x.state ≠ .breaking → y = { x with known := false }) := by
  intro x y
  have view : y = _ := congrArg Prod.fst (tipLost_view e n c)
  rw [view]
  unfold parkedView withdrawnView enterParking
  refine ⟨fun opened => ?_, fun breaking => ?_, fun notOpened notBreaking => ?_⟩
  · simp [x, opened]
  · simp [x, breaking, unknown]
  · simp [x, notOpened, notBreaking]

theorem tipLost_journal (e : Env) (n : Fin 12) (c : Ctl) : (tipLost e n c).journal = c.journal := by
  unfold tipLost parkTip withdrawTip
  repeat' split
  all_goals rfl

/-- R128, R138: a tip point whose station leaves FRESH, its qualifiers given up. -/
theorem tipFreshness_lost (present : (e.tipCfg n).present = true) (stale : e.tipFresh n = false)
    (unknown : (e.tipQual n).d2.value ≠ .yes) {new : Freshness} (lost : new ≠ .fresh) :
    let x := c.tip n
    let y := tipFreshness e n .fresh new c
    y.journal = c.journal ∧ (y.slot (tipSlot n)).holder = none ∧
    (x.state = .opened → y.tip n = { x with known := false, state := .closed, remaining := 0 }) ∧
    (x.state = .breaking →
      y.tip n = { x with known := false, state := .parking, park := .running e.clock }) ∧
    (x.state ≠ .opened → x.state ≠ .breaking → y.tip n = { x with known := false }) := by
  intro x y
  have settled : y = settleTips e (e.tipCfg n).pass (tipLost e n c) :=
    congrArg (settleTips e _) ((if_neg lost).trans (if_pos rfl))
  have member : n ∈ e.live.tipsOf (e.tipCfg n).pass := mem_tipsOf.2 ⟨present, rfl⟩
  obtain ⟨tip, emptied⟩ := settleTips_stale (c := tipLost e n c) member stale
  rw [settled, tip, (settleTips_kept ..).2, tipLost_journal]
  exact ⟨rfl, emptied, tipLost_tip unknown⟩

/-- R133: the park timer that waited for a FRESH station starts. -/
theorem tipFreshness_gained (old : Freshness)
    (free : ∀ u ∈ e.live.tipsOf (e.tipCfg n).pass, (c.slot (tipSlot u)).holder = none) :
    tipFreshness e n old .fresh c =
      if (c.tip n).park = .waiting then c.setTip n { c.tip n with park := .running e.clock } else c := by
  have restored : tipRestored e n c =
      if (c.tip n).park = .waiting then c.setTip n { c.tip n with park := .running e.clock } else c := by
    simp only [tipRestored]
    split
    · next waiting => rw [if_pos waiting]
    · next stopped => rw [if_neg (by simp [stopped])]
    · next since running => rw [if_neg (by simp [running])]
  have settled : tipFreshness e n old .fresh c =
      settleTips e (e.tipCfg n).pass (tipRestored e n c) := congrArg (settleTips e _) (if_pos rfl)
  rw [settled, settleTips_none, restored]
  intro u hu
  rw [restored]
  split <;> exact free u hu

end

/-! ### A pass whose LEVEL station gives up its qualifiers (R89) -/

/-- R15: a moisture report sets the sensor field; its tests leave the other fields named. -/
theorem sensorReport_realigned (e : Env) (p : Fin 4) (w : Wetness) (c : Ctl) :
    Realigned { c.pass p with sensorWet := w } ((sensorReport e p w c).1.pass p) := by
  simp only [sensorReport]
  split
  · next same => rw [← same]; exact .refl _
  · rw [wetTests_pass, Ctl.pass_setPass_same]
    exact realigned_tested ..

/-- R87 to R89: the reports that a clearing makes at the pass which names the station; `q` is what its
qualifiers held. -/
def clearedPass (e : Env) (p : Fin 4) (q : Qualifiers) (c : Ctl) : Ctl :=
  let c1 := if q.level.distance.isSome then withNews e p (levelReport e p 0 false) c else c
  if q.moisture.state = .unknown then c1 else withNews e p (sensorReport e p .unknown) c1

section
variable (e : Env) (p : Fin 4) (c : Ctl)

theorem levelReport_lost :
    let r := (withNews e p (levelReport e p 0 false) c).pass p
    r.levelFill = 0 ∧ r.levelValid = false := by
  intro r
  have kept := realigned_passSide (withNews_passSide e p (levelReport e p 0 false) c) p
  obtain ⟨-, -, fill, valid, -⟩ := levelReport_spec e p 0 false c
  exact ⟨kept.levelFill.trans fill, kept.levelValid.trans valid⟩

theorem sensorReport_lost :
    Realigned { c.pass p with sensorWet := .unknown }
      ((withNews e p (sensorReport e p .unknown) c).pass p) :=
  (sensorReport_realigned ..).trans (realigned_passSide (withNews_passSide ..) p)

/-- R89: an invalid level and an unknown wetness. -/
theorem clearedPass_pass (q : Qualifiers) :
    let r := (clearedPass e p q c).pass p
    (q.level.distance.isSome = true → r.levelFill = 0 ∧ r.levelValid = false) ∧
    (q.moisture.state ≠ .unknown → r.sensorWet = .unknown) := by
  intro r
  refine ⟨fun known => ?_, fun known => ?_⟩
  · have levelled := levelReport_lost e p c
    simp only [r, clearedPass, if_pos known]
    split
    · exact levelled
    · have kept := sensorReport_lost e p (withNews e p (levelReport e p 0 false) c)
      exact ⟨kept.levelFill.trans levelled.1, kept.levelValid.trans levelled.2⟩
  · simp only [r, clearedPass, if_neg known]
    exact (sensorReport_lost ..).sensorWet

end

end Sys2Proof.Machine
end

section
/-! Proofs: the late timer and the dropout timer of a station; O43 (R70, R72, R73, R82, R89, R116, R133,
R138). -/

namespace Sys2Proof.Machine

/-! ### The consumer that names a station (R53) -/

section
variable {l : Live} {i : Fin 32}

theorem outletOfStation_named {n : Fin 8} (named : l.outletOfStation i = some n) :
    (l.outletCfg n).present = true ∧ (l.outletCfg n).station = i.val := by
  simpa using List.find?_some named

theorem tipOfStation_named {n : Fin 12} (named : l.tipOfStation i = some n) :
    (l.tipCfg n).present = true ∧ (l.tipCfg n).station = i.val := by
  simpa using List.find?_some named

/-- R155: a station that is not of kind LEVEL is no pass's LEVEL station. -/
theorem Live.LevelsNamed.passOfStation_none (levels : l.LevelsNamed)
    (kind : (l.stationCfg i).kind ≠ some .level) : l.passOfStation i = none :=
  Option.eq_none_iff_forall_not_mem.2 fun p named => kind (levels i p named)

end

/-! ### The qualifiers are given up (R89) -/

section
variable (i : Fin 32) (q : Qualifiers) (c : Ctl) (s : State)

theorem reportLevel_sampled : (s.sampled i q c).reportLevel i = s.sampled i q
    ((s.live.passOfStation i).elim c fun p =>
      let e := s.sampledEnv i q
      withNews e p (levelReport e p q.level.fill q.level.valid) c) := by
  rw [reportLevel_eq_onCtl, qual_sampled]
  rfl

theorem reportMoisture_sampled : (s.sampled i q c).reportMoisture i = s.sampled i q
    ((s.live.passOfStation i).elim c fun p =>
      let e := s.sampledEnv i q
      withNews e p (sensorReport e p q.moisture.state) c) := by
  rw [reportMoisture_eq_onCtl, qual_sampled]
  rfl

end

theorem clearQualifiers_sampled (i : Fin 32) (s : State) :
    s.clearQualifiers i = s.sampled i Qualifiers.reset ((s.live.passOfStation i).elim s.ctl fun p =>
      clearedPass (s.sampledEnv i Qualifiers.reset) p (s.qual i) s.ctl) := by
  have given : s.setQual i Qualifiers.reset = s.sampled i Qualifiers.reset s.ctl := rfl
  simp only [State.clearQualifiers, State.reportCleared, given, reportLevel_sampled]
  cases named : s.live.passOfStation i with
  | none => simp only [Option.elim_none, ite_self, reportMoisture_sampled, named]
  | some p =>
    simp only [Option.elim_some, clearedPass]
    by_cases level : (s.qual i).level.distance.isSome = true
    · simp only [if_pos level, reportMoisture_sampled, named]
      exact (apply_ite (s.sampled i Qualifiers.reset) ..).symm
    · simp only [if_neg level, reportMoisture_sampled, named]
      exact (apply_ite (s.sampled i Qualifiers.reset) ..).symm

/-- R73, R89: a station leaves FRESH: the record, the qualifiers, then the consumer. -/
theorem freshnessEvent_lost (i : Fin 32) (cause : FreshnessCause) (s : State)
    (lost : (s.station i).freshness ≠ .fresh) :
    let x := s.station i
    let e := s.sampledEnv i Qualifiers.reset
    let reported := s.ctl.report s.env .freshness i.val 1 x.freshness.code x.order.code cause.code
    s.freshnessEvent i .fresh cause = s.sampled i Qualifiers.reset
      (s.live.hearFreshness i .fresh x.freshness e
        ((s.live.passOfStation i).elim reported fun p => clearedPass e p (s.qual i) reported)) := by
  intro x e reported
  simp only [State.freshnessEvent, if_neg lost, if_true, clearQualifiers_sampled, tellConsumer_eq_onCtl,
    onCtl_sampled, sampled_live]
  rfl

/-! ### The late timer (R69, R70) -/

/-- R70, R72: the station LATE, with its status in the latch of its slot; its freshness event is still to
come. -/
def State.fallenLate (i : Fin 32) (s : State) : State :=
  (s.setStation i (s.station i).fallLate).putLatch (s.live.slotOf i) (statusWord .stale .late)

theorem exec_lateTimerExpiry {s : State} {i : Fin 32} {since : Clock} (released : s.resetAsserted = false)
    (running : (s.station i).late = some since)
    (passed : (s.live.stationCfg i).lateLimit ≤ (s.clock - since).toNat) :
    exec (.lateTimerExpiry i) s =
      .next ((s.fallenLate i).freshnessEvent i (s.station i).freshness .late).seek := by
  have due : s.lateDue i = true := by
    simp only [State.lateDue, running]
    exact decide_eq_true passed
  have expires : execLateTimerExpiry i s = .next (s.lateExpires i).seek :=
    (event_released released).trans (by rw [if_pos due])
  exact expires

section
variable (i : Fin 32) (s : State)

theorem fallenLate_station : (s.fallenLate i).station i = (s.station i).fallLate :=
  State.station_setStation_same s i _

theorem fallenLate_station_other {j : Fin 32} (other : j ≠ i) :
    (s.fallenLate i).station j = s.station j := State.station_setStation_other s _ other.symm

theorem fallenLate_latch : ((s.fallenLate i).stationSlot (s.live.slotOf i)).latch =
    some (statusWord .stale .late) :=
  congrArg StationSlot.latch (State.stationSlot_setStationSlot_same ..)

theorem fallLate_freshness (x : Station) : x.fallLate.freshness = .stale := rfl

/-- What the consumers read of the state in which the station is LATE and its qualifiers are given up. -/
def State.lateEnv (i : Fin 32) (s : State) : Env := (s.fallenLate i).sampledEnv i Qualifiers.reset

theorem lateEnv_freshAt : (s.lateEnv i).freshAt i.val = false := by
  have stations : (s.lateEnv i).stations = s.stations.set i.val (s.station i).fallLate := rfl
  simp only [Env.freshAt, i.isLt, dif_pos, stations, Vector.getElem_set_self, fallLate_freshness]
  rfl

theorem lateEnv_qualAt : (s.lateEnv i).qualAt i.val = Qualifiers.reset := by
  have quals : (s.lateEnv i).quals = s.quals.set i.val Qualifiers.reset := rfl
  simp only [Env.qualAt, i.isLt, dif_pos, quals, Vector.getElem_set_self]

/-- R70, R73: the record of the freshness event from FRESH to STALE. -/
def State.lateReported (i : Fin 32) (s : State) : Ctl := s.ctl.report s.env .freshness i.val 1 0 5 3

/-- R70, R73, R89: the controllers after a FRESH station has fallen LATE. -/
def State.lateCtl (i : Fin 32) (s : State) : Ctl :=
  s.live.hearFreshness i .fresh .stale (s.lateEnv i)
    ((s.live.passOfStation i).elim (s.lateReported i) fun p =>
      clearedPass (s.lateEnv i) p (s.qual i) (s.lateReported i))

theorem fallenLate_event_lost :
    (s.fallenLate i).freshnessEvent i .fresh .late =
      (s.fallenLate i).sampled i Qualifiers.reset (s.lateCtl i) := by
  have stale : ((s.fallenLate i).station i).freshness = .stale := by
    rw [fallenLate_station, fallLate_freshness]
  have order : ((s.fallenLate i).station i).order = .late := by rw [fallenLate_station]; rfl
  rw [freshnessEvent_lost i .late (s.fallenLate i) (ne_of_eq_of_ne stale nofun), stale, order]
  rfl

/-! ### The consumers of a station that was FRESH -/

variable {i s}

theorem lateCtl_outlet {n : Fin 8} (levels : s.live.LevelsNamed)
    (kind : (s.live.stationCfg i).kind = some .outlet) (named : s.live.outletOfStation i = some n) :
    s.lateCtl i = outletFreshness (s.lateEnv i) n .stale (s.lateReported i) := by
  have unread := levels.passOfStation_none (i := i) (ne_of_eq_of_ne kind nofun)
  rw [State.lateCtl, unread, hearFreshness_outlet kind named, Option.elim_none]

theorem lateCtl_tip {n : Fin 12} (levels : s.live.LevelsNamed)
    (kind : (s.live.stationCfg i).kind = some .tip) (named : s.live.tipOfStation i = some n) :
    s.lateCtl i = tipFreshness (s.lateEnv i) n .fresh .stale (s.lateReported i) := by
  have unread := levels.passOfStation_none (i := i) (ne_of_eq_of_ne kind nofun)
  rw [State.lateCtl, unread, hearFreshness_tip kind named, Option.elim_none]

theorem lateCtl_level {p : Fin 4} (kind : (s.live.stationCfg i).kind = some .level)
    (named : s.live.passOfStation i = some p) :
    s.lateCtl i = clearedPass (s.lateEnv i) p (s.qual i) (s.lateReported i) := by
  rw [State.lateCtl, hearFreshness_level kind, named, Option.elim_some]

theorem lateReported_outlet (n : Fin 8) : (s.lateReported i).outlet n = s.ctl.outlet n :=
  Ctl.report_outlet ..

theorem lateReported_tip (n : Fin 12) : (s.lateReported i).tip n = s.ctl.tip n := Ctl.report_tip ..

theorem lateReported_waits (n : Fin 8) : (s.lateReported i).waits n = s.ctl.waits n := by
  unfold Ctl.waits State.lateReported
  rw [Ctl.report_slot, Ctl.report_outlet]

end

/-! ### The dropout timer (R82) -/

theorem exec_dropoutExpiry {s : State} {i : Fin 32} {since : Clock} (released : s.resetAsserted = false)
    (running : (s.qual i).flow.dropout = some since)
    (passed : (s.live.stationCfg i).dropout ≤ (s.clock - since).toNat) :
    exec (.dropoutExpiry i) s = .next (s.dropoutExpires i).seek := by
  have due : s.dropoutDue i = true := by
    simp only [State.dropoutDue, running]
    exact decide_eq_true passed
  have expires : execDropoutExpiry i s = .next (s.dropoutExpires i).seek :=
    (event_released released).trans (by rw [if_pos due])
  exact expires

theorem dropoutExpires_sampled (i : Fin 32) (s : State) : ∃ c, s.dropoutExpires i =
    s.sampled i { s.qual i with flow := { state := .noFlow, rise := none, dropout := none } } c :=
  ⟨_, (valueEvent_only ..).eq_sampled rfl⟩

/-! ### What a seek leaves of stations and qualifiers -/

theorem seek_station (s : State) (i : Fin 32) : s.seek.station i = s.station i := by
  unfold State.station; rw [seek_stations]

theorem seek_qual (s : State) (i : Fin 32) : s.seek.qual i = s.qual i := by
  unfold State.qual; rw [seek_quals]

theorem seek_stationSlot (s : State) (k : Fin 32) : s.seek.stationSlot k = s.stationSlot k := by
  unfold State.stationSlot; rw [seek_stationSlots]

/-- Settles O43: the expiries run on the part, their consequences at the consumer of the station, and the park
timer that waited for it. -/
theorem stationTimersExpire : Obligations.StationTimersExpire := by
  unfold Obligations.StationTimersExpire
  refine ⟨fun s i since released => ⟨fun running passed => ?late, fun running passed => ?dropout⟩,
    fun s i since released levels running passed => ?lost,
    fun e n c old free => tipFreshness_gained old free⟩
  case late =>
    obtain ⟨c, event⟩ := freshnessEvent_sampled i (s.station i).freshness .late (s.fallenLate i)
    refine ⟨_, exec_lateTimerExpiry released running passed, ?_⟩
    simp only [seek_station, seek_stationSlot, seek_mem, event]
    exact ⟨fallenLate_station i s, congrArg Station.freshness (fallenLate_station i s),
      fallenLate_latch i s, fun j other => fallenLate_station_other i s other, rfl⟩
  case dropout =>
    obtain ⟨c, expired⟩ := dropoutExpires_sampled i s
    refine ⟨_, exec_dropoutExpiry released running passed, ?_⟩
    rw [seek_qual, seek_stations, expired, qual_sampled]
    exact ⟨rfl, fun j other => (seek_qual ..).trans (qual_sampled_other i _ c s other), rfl⟩
  case lost =>
    intro kind journal
    obtain ⟨c, event⟩ := freshnessEvent_sampled i (s.station i).freshness .late (s.fallenLate i)
    refine ⟨_, exec_lateTimerExpiry released running passed, fun j other => ?_, fun notFresh => ?_,
      fun fresh => ?_⟩
    · rw [seek_qual, event]
      exact qual_sampled_other i _ c (s.fallenLate i) other
    · rw [seek_quals, event, if_neg fun h => notFresh h.1]
      have kept : s.quals.set i.val (s.qual i) = s.quals := congrArg State.quals (sampled_self i s)
      exact kept
    · rw [fresh, fallenLate_event_lost, seek_qual, seek_ctl, qual_sampled, sampled_ctl]
      refine ⟨rfl, fun outlet n named => ?outlet, fun tip n named => ?tip, fun level p named => ?level⟩
      case outlet =>
        intro o
        obtain ⟨present, -⟩ := outletOfStation_named named
        obtain ⟨record, holder, stops, journaled⟩ := outletFreshness_lost (e := s.lateEnv i) (n := n)
          (c := s.lateReported i) present (new := .stale) nofun
        rw [lateReported_outlet] at holder stops
        rw [lateCtl_outlet levels outlet named]
        exact ⟨record, holder, stops,
          fun unwaited => journaled fun m hm => (lateReported_waits m).trans (unwaited m hm)⟩
      case tip =>
        intro x
        obtain ⟨present, station⟩ := tipOfStation_named named
        have stale : (s.lateEnv i).tipFresh n = false :=
          (congrArg (s.lateEnv i).freshAt station).trans (lateEnv_freshAt i s)
        have given : (s.lateEnv i).tipQual n = Qualifiers.reset :=
          (congrArg (s.lateEnv i).qualAt station).trans (lateEnv_qualAt i s)
        have lost := tipFreshness_lost (e := s.lateEnv i) (n := n) (c := s.lateReported i) present stale
          (by rw [given]; exact nofun) (new := .stale) nofun
        rw [lateReported_tip] at lost
        rw [lateCtl_tip levels tip named]
        exact lost
      case level =>
        rw [lateCtl_level level named]
        exact clearedPass_pass ..

end Sys2Proof.Machine
end

section
/-! Proofs: the orders on outlet slots, as their commits are answered (R41, R42, R96, R100). -/

namespace Sys2Proof.Machine

/-! ### An accepted commit -/

/-- R42: a command slot with an accepted or clamped commit, its six words still to go out. -/
def acceptedSlot (sp : SetPoints) (code tag : Octet) (v : Verdict) (detail : Octet) : CommandSlot where
  staged := Staged.empty
  copy := sp
  wb :=
    { a := some sp.a, b := some sp.b, c := some sp.c, demand := some (joinWord tag code)
      verdict := some (joinWord tag v.code), detail := some (joinWord 0 detail) }
  lastTag := tag
  holder := none

/-- R41, R46: the slot holds neither staged words nor a deferred commit, and its copy is the one before the
commit. -/
structure FreshSlot (s : State) (k : Fin 24) (d : Ctl) : Prop where
  staged : (d.slot k).staged = Staged.empty
  holder : (d.slot k).holder = none
  copy : (d.slot k).copy = (s.ctl.slot k).copy

section
variable {s : State} {k : Fin 24} {d : Ctl}

theorem freshSlot_freshCtl : FreshSlot s k (s.freshCtl k) := by
  constructor <;> rw [freshCtl_slot]

theorem FreshSlot.of_slot (h : d.slot k = (s.freshCtl k).slot k) : FreshSlot s k d := by
  constructor <;> rw [h, freshCtl_slot]

theorem accept_slot (staged : (d.slot k).staged = Staged.empty) (holder : (d.slot k).holder = none)
    (sp : SetPoints) (code tag : Octet) (v : Verdict) (detail : Octet) :
    (d.accept k sp code tag v detail).slot k = acceptedSlot sp code tag v detail := by
  simp [Ctl.accept, CommandSlot.putVerdict, CommandSlot.putDemand, CommandSlot.putSetPoints, acceptedSlot,
    staged, holder]

/-- R96: an order accepted with the set-points of the slot's copy. -/
theorem FreshSlot.acceptCopy_slot (fresh : FreshSlot s k d) (code tag : Octet) (v : Verdict)
    (detail : Octet) :
    (d.acceptCopy k code tag v detail).slot k = acceptedSlot (s.ctl.slot k).copy code tag v detail := by
  rw [Ctl.acceptCopy, accept_slot fresh.staged fresh.holder, fresh.copy]

/-- R41, R42: a commit whose judgement leaves the words of an accepted one in its slot. -/
theorem commitWrite_acceptedSlot {code tag demand detail : Octet} {sp : SetPoints} {v : Verdict}
    (takes : s.takesCommits)
    (judged : judgeCommit s.env k (s.commitOf k code tag) (s.freshCtl k) = d)
    (slot : d.slot k = acceptedSlot sp demand tag v detail) :
    ∃ t, commitWrite k code tag s = .next t ∧ s.acceptedWith t k sp demand tag v detail ∧
      t.ctl = d.setSlot k (t.ctl.slot k) := by
  obtain ⟨t, ran, answered, after⟩ := commitWrite_taken takes judged (by rw [slot]; rfl)
  have sent : t.ctl.slot k = { d.slot k with wb := WriteBack.empty } := by
    rw [after, Ctl.slot_setSlot_same]
  refine ⟨t, ran, ⟨?_, sent.trans (by rw [slot]; rfl)⟩, by rw [sent]; exact after⟩
  rw [slot] at answered
  exact answered

end

/-! ### A commit on an outlet slot -/

section
variable {s : State} {n : Fin 8} {code tag : Octet} {y : Ctl}

/-- R41: what the judgement of a commit on an outlet slot leaves. -/
def State.outletJudged (s : State) (n : Fin 8) (code tag : Octet) : Ctl :=
  judgeOutlet s.env n (s.commitOf (outletSlot n) code tag) (s.freshCtl (outletSlot n))

/-- R100: what the other outlets of the pass read of an outlet and of its pass is as before. -/
def State.Unread (s : State) (n : Fin 8) (d : Ctl) : Prop :=
  (s.ctl.outlet n).state.drawing = (d.outlet n).state.drawing ∧
    (s.ctl.pass (s.live.outletCfg n).pass).grant = (d.pass (s.live.outletCfg n).pass).grant

theorem judgeCommit_unread (judged : s.outletJudged n code tag = y) (unread : s.Unread n y) :
    judgeCommit s.env (outletSlot n) (s.commitOf (outletSlot n) code tag) (s.freshCtl (outletSlot n)) =
      y := by
  rw [judgeCommit_outletSlot, commitOutlet]
  subst judged
  exact if_pos unread

/-- R96: a refused commit on an outlet slot. -/
theorem outletCommit_refused {r : Reason} (takes : s.takesCommits)
    (judged : s.outletJudged n code tag = (s.freshCtl (outletSlot n)).refuse (outletSlot n) tag r) :
    ∃ t, commitWrite (outletSlot n) code tag s = .next t ∧ s.refusedWith t (outletSlot n) tag r :=
  commitWrite_refused takes (judgeCommit_unread judged ⟨rfl, rfl⟩)

/-- R96: an order other than FORCE_CLOSE on an outlet that is not configured. -/
theorem outletCommit_notConfigured (takes : s.takesCommits) (listed : code.toNat < 4)
    (absent : (s.live.outletCfg n).present = false) :
    ∃ t, commitWrite (outletSlot n) code tag s = .next t ∧
      s.refusedWith t (outletSlot n) tag .notConfigured := by
  refine outletCommit_refused takes ?_
  have known : ¬5 ≤ code.toNat := by omega
  have notForce : ¬code = 4 := fun same => by simp [same] at listed
  unfold State.outletJudged judgeOutlet
  rw [commitOf_code, commitOf_tag, if_neg known, if_neg notForce]
  exact if_pos absent

/-- R41, R100: an accepted commit that the other outlets of the pass cannot read. -/
theorem outletCommit_unread {demand detail : Octet} {sp : SetPoints} {v : Verdict}
    (takes : s.takesCommits) (judged : s.outletJudged n code tag = y)
    (slot : y.slot (outletSlot n) = acceptedSlot sp demand tag v detail) (unread : s.Unread n y) :
    ∃ t, commitWrite (outletSlot n) code tag s = .next t ∧
      s.acceptedWith t (outletSlot n) sp demand tag v detail ∧
      t.ctl = y.setSlot (outletSlot n) (t.ctl.slot (outletSlot n)) :=
  commitWrite_acceptedSlot takes (judgeCommit_unread judged unread) slot

/-- R41, R100: an accepted commit. The other outlets that waited on it are taken, which leaves the outlet
itself where no cycle start waits there. -/
theorem outletCommit_accepted {demand detail : Octet} {sp : SetPoints} {v : Verdict}
    (takes : s.takesCommits) (judged : s.outletJudged n code tag = y)
    (slot : y.slot (outletSlot n) = acceptedSlot sp demand tag v detail)
    (safe : s.Unread n y ∨ (y.outlet n).startPending = false) :
    ∃ t, commitWrite (outletSlot n) code tag s = .next t ∧
      s.acceptedWith t (outletSlot n) sp demand tag v detail ∧ t.ctl.outlet n = y.outlet n ∧
      PassesKept y t.ctl := by
  by_cases unread : s.Unread n y
  · obtain ⟨t, ran, accepted, after⟩ := outletCommit_unread takes judged slot unread
    exact ⟨t, ran, accepted, by rw [after]; rfl, by rw [after]; exact .refl y⟩
  · set p := (s.live.outletCfg n).pass
    have settles : judgeCommit s.env (outletSlot n) (s.commitOf (outletSlot n) code tag)
        (s.freshCtl (outletSlot n)) = settleOutlets s.env p y := by
      rw [judgeCommit_outletSlot, commitOutlet]
      subst judged
      exact if_neg unread
    have idle : y.waits n = false :=
      waits_eq_false.2 ⟨by rw [slot]; rfl, safe.resolve_left unread⟩
    obtain ⟨outlet, same⟩ := outletView_eq.1 (settleOutlets_view_idle (e := s.env) (p := p) idle)
    obtain ⟨t, ran, accepted, after⟩ := commitWrite_acceptedSlot takes settles (same.trans slot)
    refine ⟨t, ran, accepted, by rw [after]; exact outlet, ?_⟩
    rw [after]
    exact (passesKept_closed s.env.live y).settleOutlets (e := s.env) (p := p) (.refl y)

end

end Sys2Proof.Machine
end

section
/-! Proofs: O27, O29, O30 and O31, the orders on outlet slots (R96 to R99, R108 to R114). -/

namespace Sys2Proof.Machine

/-! ### The orders of a configured outlet -/

section
variable {e : Env} {n : Fin 8} {c : Ctl}

theorem acceptOutlet_outlet (tag : Octet) : (acceptOutlet n tag c).outlet n = c.outlet n := by
  simp [acceptOutlet, Ctl.acceptCopy, Ctl.accept]

theorem demand_of_not_drawing {x : OutletState} (h : x.drawing = false) : x.demand = 0 := by
  simp [OutletState.demand, h]

theorem endOrder_slot (r : EndReason) (k : Fin 24) : (endOrder e n r c).slot k = c.slot k := by
  simp [endOrder]

/-- R114: a stop puts a demand of its own into the slot at most. -/
theorem FreshSlot.stopOutlet {s : State} (r : EndReason) (h : FreshSlot s (outletSlot n) c) :
    FreshSlot s (outletSlot n) (stopOutlet e n r c) := by
  have view := congrArg Prod.snd (stopOutlet_view e n r c)
  have kept : ((Machine.stopOutlet e n r c).slot (outletSlot n)).staged = (c.slot (outletSlot n)).staged ∧
      ((Machine.stopOutlet e n r c).slot (outletSlot n)).holder = (c.slot (outletSlot n)).holder ∧
      ((Machine.stopOutlet e n r c).slot (outletSlot n)).copy = (c.slot (outletSlot n)).copy := by
    rw [show (Machine.stopOutlet e n r c).slot (outletSlot n) = _ from view, stoppedView]
    split <;> exact ⟨rfl, rfl, rfl⟩
  obtain ⟨staged, holder, copy⟩ := kept
  exact ⟨staged.trans h.staged, holder.trans h.holder, copy.trans h.copy⟩

end

section
variable {s : State} {n : Fin 8} {tag : Octet}

/-- R96: on a configured outlet each order is judged by its own rule. -/
theorem outletJudged_present (present : (s.live.outletCfg n).present = true) :
    s.outletJudged n 0 tag = judgeClose s.env n tag (s.freshCtl (outletSlot n)) ∧
    s.outletJudged n 1 tag =
      judgeDraw s.env n (s.commitOf (outletSlot n) 1 tag) (s.freshCtl (outletSlot n)) ∧
    s.outletJudged n 2 tag =
      judgeAdjust s.env n (s.commitOf (outletSlot n) 2 tag) (s.freshCtl (outletSlot n)) ∧
    s.outletJudged n 3 tag = judgeStopAfter s.env n tag (s.freshCtl (outletSlot n)) := by
  have configured : (s.env.outletCfg n).present = true := present
  refine ⟨?_, ?_, ?_, ?_⟩ <;> simp [State.outletJudged, judgeOutlet, configured]

/-- R96, R113: FORCE_CLOSE is judged on every outlet. -/
theorem outletJudged_forceClose :
    s.outletJudged n 4 tag = judgeForceClose s.env n tag (s.freshCtl (outletSlot n)) := by
  simp [State.outletJudged, judgeOutlet]

/-- R96: an order accepted with the set-points of the copy after what it did in `d`. -/
theorem outletCommit_acceptOutlet {code : Octet} {d : Ctl} (takes : s.takesCommits)
    (judged : s.outletJudged n code tag = acceptOutlet n tag d) (fresh : FreshSlot s (outletSlot n) d)
    (safe : s.Unread n d ∨ (d.outlet n).startPending = false) :
    ∃ t, commitWrite (outletSlot n) code tag s = .next t ∧
      s.acceptedWith t (outletSlot n) (s.ctl.slot (outletSlot n)).copy (d.outlet n).state.demand tag
        .accepted 0 ∧
      t.ctl.outlet n = d.outlet n ∧
      (s.Unread n d → t.ctl.passes = d.passes ∧ t.ctl.journal = d.journal) := by
  have outlet : (acceptOutlet n tag d).outlet n = d.outlet n := acceptOutlet_outlet tag
  have slot := fresh.acceptCopy_slot (d.outlet n).state.demand tag .accepted 0
  by_cases unread : s.Unread n d
  · obtain ⟨t, ran, accepted, after⟩ := outletCommit_unread takes judged slot unread
    exact ⟨t, ran, accepted, by rw [after]; exact outlet, fun _ => by rw [after]; exact ⟨rfl, rfl⟩⟩
  · obtain ⟨t, ran, accepted, same, -⟩ := outletCommit_accepted takes judged slot
      (.inr (by rw [outlet]; exact safe.resolve_left unread))
    exact ⟨t, ran, accepted, same.trans outlet, fun h => absurd h unread⟩

end

/-! ### DRAW (R97 to R99) -/

section
variable {e : Env} {n : Fin 8} {cm : Commit} {c : Ctl}

/-- R98: a consumption request clears the grant of its pass and does nothing else. -/
theorem takeGrant_pass (p : Fin 4) : (takeGrant p c).1.pass p = { c.pass p with grant := false } := by
  rw [takeGrant_eq]
  split
  · simp
  · next without => rw [← Bool.eq_false_iff.2 without]

/-- R97: a DRAW that passes its checks. -/
theorem drawCheck_pass {load : LoadRecord}
    (running : (c.pass (e.outletCfg n).pass).state = .running) (fresh : e.outletFresh n = true)
    (recorded : (c.outlet n).lastRecord = some load) (known : (c.pass (e.outletCfg n).pass).cls ≠ .unknown)
    (cushion : (e.passCfg (e.outletCfg n).pass).cushionMark ≤ (c.pass (e.outletCfg n).pass).low ∨
      (c.pass (e.outletCfg n).pass).grant = true)
    (idle : (c.outlet n).state = .idle)
    (free : (c.pass (e.outletCfg n).pass).wetActive = false ∨ c.otherDrawing e n = false)
    (inRange : drawInRange cm.sp = true) (receiver : (e.outletQual n).d2.value = .yes)
    (closed : (e.outletQual n).d0.value = .yes) : drawCheck e n cm c = .pass := by
  have above : ¬((c.pass (e.outletCfg n).pass).belowCushion (e.passCfg (e.outletCfg n).pass) = true ∧
      (c.pass (e.outletCfg n).pass).grant = false) := by
    rintro ⟨below, without⟩
    have low := (belowCushion_iff.1 below).2
    rcases cushion with high | granted
    · omega
    · simp [without] at granted
  have alone : ¬((c.pass (e.outletCfg n).pass).wetActive = true ∧ c.otherDrawing e n = true) := by
    rintro ⟨wet, other⟩
    rcases free with dry | none
    · simp [wet] at dry
    · simp [other] at none
  simp [drawCheck, running, idle, fresh, recorded, known, above, alone, inRange, receiver, closed]

theorem judgeDraw_pass (passes : drawCheck e n cm c = .pass) :
    judgeDraw e n cm c = executeDraw e n cm c := by
  simp only [judgeDraw, passes]

/-- R99: the outlet after the start of an order. -/
theorem executeDraw_outlet {load : LoadRecord} (recorded : (c.outlet n).lastRecord = some load) :
    let o := c.outlet n
    let k := e.passCfg (e.outletCfg n).pass
    let r := c.pass (e.outletCfg n).pass
    (executeDraw e n cm c).outlet n =
      { o with
        state := .opening, tag := some cm.tag, orderedTarget := cm.sp.a.toNat
        orderedOpening := cm.sp.c.toNat
        workingTarget := lowered r.wetActive k.restrictedTarget cm.sp.a.toNat
        workingOpening := lowered r.wetActive k.restrictedOpening cm.sp.c.toNat
        remaining := cm.sp.b.toNat, completed := 0, latchTarget := none, latchCycles := none
        latchOpening := none, stopAfter := false, departureSeen := false, startPending := false
        grantHeld := r.grant, snapshot := load.weight, highMark := load.weight, deliveredCycle := 0
        deliveredOrder := 0, startIdentity := load.identity, stopReason := none
        timer := some (.openT, e.clock) } := by
  have granted : (takeGrant (e.outletCfg n).pass c).2 = (c.pass (e.outletCfg n).pass).grant := by
    rw [takeGrant_eq]
  simp [executeDraw, startOrder, Ctl.accept, takeGrant_outlet, takeGrant_pass, granted, recorded]

/-- R99: the words of the commit that starts an order, with the set-points as lowered. -/
theorem executeDraw_slot (staged : (c.slot (outletSlot n)).staged = Staged.empty)
    (holder : (c.slot (outletSlot n)).holder = none) :
    let k := e.passCfg (e.outletCfg n).pass
    let wet := (c.pass (e.outletCfg n).pass).wetActive
    let target := lowered wet k.restrictedTarget cm.sp.a.toNat
    let opening := lowered wet k.restrictedOpening cm.sp.c.toNat
    let clamp := clampCode (target != cm.sp.a.toNat) (opening != cm.sp.c.toNat)
    (executeDraw e n cm c).slot (outletSlot n) =
      acceptedSlot { a := toWord target, b := cm.sp.b, c := toWord opening } 1 cm.tag
        (if clamp = 0 then .accepted else .clamped) clamp := by
  simp only [executeDraw, startOrder, takeGrant_pass]
  exact accept_slot (by rw [Ctl.setOutlet_slot, takeGrant_slot]; exact staged)
    (by rw [Ctl.setOutlet_slot, takeGrant_slot]; exact holder) ..

/-- R98: the start of an order leaves its pass without the grant. -/
theorem executeDraw_grant : ((executeDraw e n cm c).pass (e.outletCfg n).pass).grant = false := by
  have same : (executeDraw e n cm c).pass (e.outletCfg n).pass =
      (takeGrant (e.outletCfg n).pass c).1.pass (e.outletCfg n).pass := rfl
  rw [same, takeGrant_pass]

end

/-- Settles O27: the judgement starts the order, and the other outlets that the commit lets go leave it. -/
theorem drawStartsOrder : Obligations.DrawStartsOrder := by
  unfold Obligations.DrawStartsOrder
  intro s n tag load k p cfg o r q sp takes present running fresh recorded known cushion idle free
    targetLow targetHigh cyclesLow cyclesHigh openingLow openingHigh receiver closed target opening clamp
  set cm := s.commitOf k 1 tag with hcm
  set f := s.freshCtl k
  have inRange : drawInRange cm.sp = true := by
    simp only [drawInRange, targetInRange, cyclesInRange, openingInRange, Bool.and_eq_true,
      decide_eq_true_eq]
    exact ⟨⟨⟨targetLow, targetHigh⟩, cyclesLow, cyclesHigh⟩, openingLow, openingHigh⟩
  have passes : drawCheck s.env n cm f = .pass :=
    drawCheck_pass (c := f) running fresh recorded known cushion idle free inRange receiver closed
  obtain ⟨-, judged, -⟩ := outletJudged_present (tag := tag) present
  replace judged : s.outletJudged n 1 tag = executeDraw s.env n cm f :=
    judged.trans (judgeDraw_pass passes)
  have outlet := executeDraw_outlet (e := s.env) (cm := cm) (c := f) recorded
  have slot := executeDraw_slot (e := s.env) (n := n) (cm := cm) (c := f) freshSlot_freshCtl.staged
    freshSlot_freshCtl.holder
  obtain ⟨t, ran, accepted, same, kept⟩ := outletCommit_accepted takes judged
    (by rw [slot, hcm, commitOf_tag]) (.inr (by rw [outlet]))
  refine ⟨t, ran, ?_, ?_, accepted⟩
  · rw [same, outlet, hcm, commitOf_tag, ← recorded]
    rfl
  · have without : ((executeDraw s.env n cm f).pass p).grant = false := executeDraw_grant
    exact Bool.eq_false_iff.2 fun granted => absurd ((kept p).2 granted) (by simp [without])

/-! ### ADJUST (R109) -/

section
variable {e : Env} {n : Fin 8} {cm : Commit} {c : Ctl}

theorem named_zero : named 0 = none := rfl

theorem named_of_ne {w : Word} (h : w ≠ 0) : named w = some w.toNat := if_neg h

theorem adjustInRange_iff {sp : SetPoints} : adjustInRange sp = true ↔
    (sp.a = 0 ∨ (10 ≤ sp.a.toNat ∧ sp.a.toNat ≤ 5000)) ∧
    (sp.b = 0 ∨ (1 ≤ sp.b.toNat ∧ sp.b.toNat ≤ 250)) ∧
    (sp.c = 0 ∨ (20 ≤ sp.c.toNat ∧ sp.c.toNat ≤ 100)) := by
  have inRange (w : Word) (range : Nat → Bool) :
      (named w).all range = true ↔ w = 0 ∨ range w.toNat = true := by
    by_cases zero : w = 0
    · rw [zero, named_zero]; simp
    · rw [named_of_ne zero, Option.all_some, or_iff_right zero]
  simp only [adjustInRange, Bool.and_eq_true, inRange, targetInRange, cyclesInRange, openingInRange,
    decide_eq_true_eq, and_assoc]

theorem latch_named (active : Bool) (limit : Nat) (w : Word) (before : Option Nat) :
    latch active limit (named w) before = if w = 0 then before else some (lowered active limit w.toNat) := by
  split
  · next zero => rw [zero, named_zero]; rfl
  · next given => rw [named_of_ne given]; rfl

theorem isLowered_named (active : Bool) (limit : Nat) (w : Word) :
    isLowered active limit (named w) = (w != 0 && lowered active limit w.toNat != w.toNat) := by
  by_cases zero : w = 0
  · rw [zero, named_zero]; rfl
  · rw [named_of_ne zero, bne_iff_ne.2 zero, Bool.true_and]; rfl

/-- R109: the outlet with the values that an ADJUST names in its latch. -/
def adjustedOutlet (k : PassCfg) (wet : Bool) (sp : SetPoints) (o : Outlet) : Outlet :=
  { o with
    latchTarget :=
      if sp.a = 0 then o.latchTarget else some (lowered wet k.restrictedTarget sp.a.toNat)
    latchCycles := if sp.b = 0 then o.latchCycles else some sp.b.toNat
    latchOpening :=
      if sp.c = 0 then o.latchOpening else some (lowered wet k.restrictedOpening sp.c.toNat) }

theorem judgeAdjust_wrongState (inactive : (c.outlet n).state.active = false) :
    judgeAdjust e n cm c = c.refuse (outletSlot n) cm.tag .wrongState := if_pos inactive

theorem judgeAdjust_range (active : (c.outlet n).state.active = true)
    (outside : adjustInRange cm.sp = false) :
    judgeAdjust e n cm c = c.refuse (outletSlot n) cm.tag .range :=
  (if_neg (by simp [active])).trans (if_pos outside)

/-- R109: an ADJUST on a running order with its values in range. -/
theorem judgeAdjust_latches (active : (c.outlet n).state.active = true)
    (inRange : adjustInRange cm.sp = true) :
    let k := e.passCfg (e.outletCfg n).pass
    let wet := (c.pass (e.outletCfg n).pass).wetActive
    let sp := cm.sp
    let clamp := clampCode (sp.a != 0 && lowered wet k.restrictedTarget sp.a.toNat != sp.a.toNat)
      (sp.c != 0 && lowered wet k.restrictedOpening sp.c.toNat != sp.c.toNat)
    judgeAdjust e n cm c = (c.setOutlet n (adjustedOutlet k wet sp (c.outlet n))).acceptCopy
      (outletSlot n) (c.outlet n).state.demand cm.tag (if clamp = 0 then .accepted else .clamped) clamp := by
  intro k wet sp clamp
  rw [judgeAdjust, if_neg (by simp [active]), if_neg (by simp [inRange])]
  simp only [latch_named, isLowered_named]
  rfl

end

/-- R94: the demand in force, by the state of the outlet. -/
theorem demand_eq (x : OutletState) : x.demand = if x = .opening ∨ x = .flowing then 1 else 0 := by
  cases x <;> rfl

/-- Settles O29: by whether the order runs and whether its values are in range. -/
theorem adjustLatchesValues : Obligations.AdjustLatchesValues := by
  unfold Obligations.AdjustLatchesValues
  refine ⟨?present, fun s n tag takes absent => outletCommit_notConfigured takes (by decide) absent⟩
  intro s n tag k p cfg o wet sp inRange a c clamp takes present
  obtain ⟨-, -, judged, -⟩ := outletJudged_present (tag := tag) present
  refine ⟨fun active within => ?_, fun inactive => ?_, fun active outside => ?_⟩
  · replace judged := judged.trans (judgeAdjust_latches active (adjustInRange_iff.2 within))
    rw [commitOf_tag] at judged
    have fresh : FreshSlot s k ((s.freshCtl k).setOutlet n (adjustedOutlet cfg wet sp o)) :=
      .of_slot rfl
    have outlet : (s.outletJudged n 2 tag).outlet n = adjustedOutlet cfg wet sp o := by
      rw [judged]; exact Ctl.outlet_setOutlet_same ..
    obtain ⟨t, ran, accepted, after⟩ := outletCommit_unread takes rfl
      (by rw [judged]; exact fresh.acceptCopy_slot ..) ⟨by rw [outlet]; rfl, by rw [judged]; rfl⟩
    refine ⟨t, ran, ?_, by rw [← demand_eq]; exact accepted⟩
    rw [after]
    exact outlet
  · exact outletCommit_refused takes
      ((judged.trans (judgeAdjust_wrongState inactive)).trans (by rw [commitOf_tag]))
  · have fails : adjustInRange sp = false := Bool.eq_false_iff.2 (mt adjustInRange_iff.1 outside)
    exact outletCommit_refused takes
      ((judged.trans (judgeAdjust_range active fails)).trans (by rw [commitOf_tag]))

/-! ### STOP_AFTER (R110) -/

section
variable {e : Env} {n : Fin 8} {c : Ctl}

theorem judgeStopAfter_flags (tag : Octet)
    (h : (c.outlet n).state = .opening ∨ (c.outlet n).state = .flowing ∨ (c.outlet n).state = .closing) :
    judgeStopAfter e n tag c =
      acceptOutlet n tag (c.setOutlet n { c.outlet n with stopAfter := true }) := by
  rcases h with h | h | h <;> simp only [judgeStopAfter, h]

theorem judgeStopAfter_ends (tag : Octet) (h : (c.outlet n).state = .indexing) :
    judgeStopAfter e n tag c = acceptOutlet n tag (endOrder e n .stopAfter c) := by
  simp only [judgeStopAfter, h]

theorem judgeStopAfter_wrongState (tag : Octet)
    (h : (c.outlet n).state = .idle ∨ (c.outlet n).state = .stopping ∨ (c.outlet n).state = .fault) :
    judgeStopAfter e n tag c = c.refuse (outletSlot n) tag .wrongState := by
  rcases h with h | h | h <;> simp only [judgeStopAfter, h]

end

/-- Settles O30: the flag, the end of the order and the refusal, by the state of the outlet. -/
theorem stopAfterEndsOrder : Obligations.StopAfterEndsOrder := by
  unfold Obligations.StopAfterEndsOrder
  refine ⟨?present, fun s n tag takes absent => outletCommit_notConfigured takes (by decide) absent⟩
  intro s n tag k o takes present
  obtain ⟨-, -, -, judged⟩ := outletJudged_present (tag := tag) present
  set f := s.freshCtl k
  refine ⟨fun runs => ?flags, fun indexing => ?ends, fun other => ?refused⟩
  case flags =>
    set d := f.setOutlet n { o with stopAfter := true }
    have outlet : d.outlet n = { o with stopAfter := true } := Ctl.outlet_setOutlet_same ..
    have unread : s.Unread n d := ⟨by rw [outlet], rfl⟩
    obtain ⟨t, ran, accepted, same, kept⟩ := outletCommit_acceptOutlet takes
      (judged.trans (judgeStopAfter_flags tag runs)) (.of_slot rfl) (.inl unread)
    have demand : (d.outlet n).state.demand = if o.state = .closing then 0 else 1 := by
      rw [outlet]
      rcases runs with h | h | h <;> rw [h] <;> rfl
    rw [← demand]
    exact ⟨t, ran, same.trans outlet, (kept unread).1, accepted⟩
  case ends =>
    set d := endOrder s.env n .stopAfter f
    have outlet : d.outlet n = _ := endOrder_outlet (e := s.env) (n := n) (c := f) .stopAfter
    have unread : s.Unread n d :=
      ⟨by rw [outlet, show (s.ctl.outlet n).state = .indexing from indexing]; rfl,
        congrArg Pass.grant (Ctl.pass_congr (endOrder_passes s.env n .stopAfter f) _).symm⟩
    obtain ⟨t, ran, accepted, same, kept⟩ := outletCommit_acceptOutlet takes
      (judged.trans (judgeStopAfter_ends tag indexing)) (.of_slot (endOrder_slot ..)) (.inl unread)
    have demand : (d.outlet n).state.demand = 0 := by rw [outlet]; rfl
    rw [demand] at accepted
    exact ⟨t, ran, same.trans outlet, (kept unread).2.trans (report_journal_congr rfl), accepted⟩
  case refused =>
    exact outletCommit_refused takes (judged.trans (judgeStopAfter_wrongState tag other))

/-! ### CLOSE and FORCE_CLOSE (R111, R113, R114) -/

/-- R114: what a CLOSE or a FORCE_CLOSE leaves of an outlet whose order it stops. -/
theorem stoppedOutlet_eq {o : Outlet} (now : Clock) (reason : EndReason) (active : o.state.active = true) :
    stoppedOutlet now reason o =
      { o with
        state := .stopping, stopReason := some reason, startPending := false
        timer := if o.state = .closing then o.timer else some (.close, now) } := if_pos active

/-- An outlet order whose commit is accepted, by what it does before the answer: the demand in force is
CLOSED after it, and no cycle start waits where the outlet left OPENING or FLOWING. -/
structure Closes (s : State) (n : Fin 8) (d : Ctl) : Prop where
  fresh : FreshSlot s (outletSlot n) d
  closed : (d.outlet n).state.drawing = false
  safe : s.Unread n d ∨ (d.outlet n).startPending = false

section
variable {s : State} {n : Fin 8} {tag code : Octet} {d : Ctl}

theorem Closes.answered (h : Closes s n d) (takes : s.takesCommits)
    (judged : s.outletJudged n code tag = acceptOutlet n tag d) :
    ∃ t, commitWrite (outletSlot n) code tag s = .next t ∧
      s.acceptedWith t (outletSlot n) (s.ctl.slot (outletSlot n)).copy 0 tag .accepted 0 ∧
      t.ctl.outlet n = d.outlet n := by
  obtain ⟨t, ran, accepted, same, -⟩ := outletCommit_acceptOutlet takes judged h.fresh h.safe
  rw [demand_of_not_drawing h.closed] at accepted
  exact ⟨t, ran, accepted, same⟩

/-- An order that leaves an outlet outside OPENING and FLOWING there. -/
theorem closes_setOutlet {o : Outlet} (before : (s.ctl.outlet n).state.drawing = false)
    (after : o.state.drawing = false) :
    Closes s n ((s.freshCtl (outletSlot n)).setOutlet n o) := by
  have outlet : ((s.freshCtl (outletSlot n)).setOutlet n o).outlet n = o := Ctl.outlet_setOutlet_same ..
  exact ⟨.of_slot rfl, by rw [outlet]; exact after, .inl ⟨by rw [outlet, before, after], rfl⟩⟩

theorem closes_nothing (before : (s.ctl.outlet n).state.drawing = false) :
    Closes s n (s.freshCtl (outletSlot n)) :=
  ⟨freshSlot_freshCtl, before, .inl ⟨rfl, rfl⟩⟩

theorem closes_endOrder (reason : EndReason) :
    Closes s n (endOrder s.env n reason (s.freshCtl (outletSlot n))) := by
  constructor
  · exact .of_slot (endOrder_slot ..)
  · rw [endOrder_outlet]; rfl
  · rw [endOrder_outlet]; exact .inr rfl

theorem closes_stopOutlet (reason : EndReason) (active : (s.ctl.outlet n).state.active = true) :
    Closes s n (stopOutlet s.env n reason (s.freshCtl (outletSlot n))) := by
  have outlet := (stopOutlet_outlet_same s.env n reason (s.freshCtl (outletSlot n))).trans
    (stoppedOutlet_eq _ _ active)
  constructor
  · exact freshSlot_freshCtl.stopOutlet reason
  · rw [outlet]; rfl
  · rw [outlet]; exact .inr rfl

/-- R111: the outlet that an accepted CLOSE leaves. -/
structure CloseTable (now : Clock) (o o' : Outlet) : Prop where
  stays : o.state = .idle ∨ o.state = .stopping → o' = o
  stops : o.state = .opening ∨ o.state = .flowing → o' =
    { o with
      state := .stopping, stopReason := some .hostClose, startPending := false
      timer := some (.close, now) }
  flags : o.state = .closing → o' = { o with stopAfter := true }
  ends : o.state = .indexing → o'.state = .idle ∧ o'.stopReason = some .hostClose ∧ o'.tag = none ∧
    o'.timer = none
  clears : o.state = .fault → o' = { o with state := .idle }

/-- R113: the outlet that a FORCE_CLOSE leaves. -/
structure ForceCloseTable (now : Clock) (gateClosed : Tri) (o o' : Outlet) : Prop where
  stays : o.state = .idle ∨ o.state = .stopping → o' = o
  stops : o.state.active = true → o' =
    { o with
      state := .stopping, stopReason := some .forced, startPending := false
      timer := if o.state = .closing then o.timer else some (.close, now) }
  clears : o.state = .fault → o' = { o with state := if gateClosed = .yes then .idle else .fault }

end

section
variable {e : Env} {n : Fin 8} {c : Ctl} (tag : Octet)

theorem setOutlet_self (n : Fin 8) (c : Ctl) : c.setOutlet n (c.outlet n) = c := by
  simp [Ctl.setOutlet, Ctl.outlet]

theorem judgeClose_stays (h : (c.outlet n).state = .idle ∨ (c.outlet n).state = .stopping) :
    judgeClose e n tag c = acceptOutlet n tag c := by
  rcases h with h | h <;> simp only [judgeClose, h]

theorem judgeClose_stops (h : (c.outlet n).state = .opening ∨ (c.outlet n).state = .flowing) :
    judgeClose e n tag c = acceptOutlet n tag (stopOutlet e n .hostClose c) := by
  rcases h with h | h <;> simp only [judgeClose, h]

theorem judgeClose_flags (h : (c.outlet n).state = .closing) : judgeClose e n tag c =
    acceptOutlet n tag (c.setOutlet n { c.outlet n with stopAfter := true }) := by
  simp only [judgeClose, h]

theorem judgeClose_ends (h : (c.outlet n).state = .indexing) :
    judgeClose e n tag c = acceptOutlet n tag (endOrder e n .hostClose c) := by
  simp only [judgeClose, h]

theorem judgeClose_fault (h : (c.outlet n).state = .fault) : judgeClose e n tag c =
    if (e.outletQual n).d0.value = .yes then
      acceptOutlet n tag (c.setOutlet n { c.outlet n with state := .idle })
    else c.refuse (outletSlot n) tag .gateNotClosed := by
  simp only [judgeClose, h]

theorem judgeForceClose_stays (h : (c.outlet n).state = .idle ∨ (c.outlet n).state = .stopping) :
    judgeForceClose e n tag c = acceptOutlet n tag c := by
  rcases h with h | h <;> simp only [judgeForceClose, h]

theorem judgeForceClose_stops (active : (c.outlet n).state.active = true) :
    judgeForceClose e n tag c = acceptOutlet n tag (stopOutlet e n .forced c) := by
  cases state : (c.outlet n).state with
  | opening | flowing | closing | indexing => simp only [judgeForceClose, state]
  | idle | stopping | fault => simp [state, OutletState.active] at active

/-- R113: in FAULT the outlet stays there while the gate is not closed; either way the commit is accepted. -/
theorem judgeForceClose_fault (h : (c.outlet n).state = .fault) : judgeForceClose e n tag c =
    acceptOutlet n tag (c.setOutlet n
      { c.outlet n with state := if (e.outletQual n).d0.value = .yes then .idle else .fault }) := by
  simp only [judgeForceClose, h]
  split
  · rfl
  · rw [← h]
    exact congrArg (acceptOutlet n tag) (setOutlet_self n c).symm

end

section
variable {s : State} {n : Fin 8}

/-- R111: a CLOSE by the state of the outlet, where it is not refused. -/
theorem judgeClose_closes (tag : Octet)
    (sound : (s.ctl.outlet n).state = .fault → (s.env.outletQual n).d0.value = .yes) :
    ∃ d, Closes s n d ∧ CloseTable s.clock (s.ctl.outlet n) (d.outlet n) ∧
      judgeClose s.env n tag (s.freshCtl (outletSlot n)) = acceptOutlet n tag d := by
  have groups : ((s.ctl.outlet n).state = .idle ∨ (s.ctl.outlet n).state = .stopping) ∨
      ((s.ctl.outlet n).state = .opening ∨ (s.ctl.outlet n).state = .flowing) ∨
      (s.ctl.outlet n).state = .closing ∨ (s.ctl.outlet n).state = .indexing ∨
      (s.ctl.outlet n).state = .fault := by
    cases (s.ctl.outlet n).state <;> simp
  rcases groups with stays | stops | flags | ends | fault
  · refine ⟨_, closes_nothing (by rcases stays with h | h <;> rw [h] <;> rfl), ?_,
      judgeClose_stays tag stays⟩
    refine ⟨fun _ => rfl, ?_, ?_, ?_, ?_⟩ <;> rcases stays with h | h <;> simp [h]
  · have drawing : (s.ctl.outlet n).state.drawing = true := by
      rcases stops with h | h <;> rw [h] <;> rfl
    have notClosing : (s.ctl.outlet n).state ≠ .closing := by
      rcases stops with h | h <;> rw [h] <;> nofun
    refine ⟨_, closes_stopOutlet .hostClose (active_of_drawing drawing), ?_, judgeClose_stops tag stops⟩
    have outlet := stoppedOutlet_eq s.clock .hostClose (active_of_drawing drawing)
    rw [if_neg notClosing] at outlet
    rw [stopOutlet_outlet_same]
    refine ⟨?_, fun _ => outlet, ?_, ?_, ?_⟩ <;> rcases stops with h | h <;> simp [h]
  · refine ⟨_, closes_setOutlet (by rw [flags]; rfl) ?_, ?_, judgeClose_flags tag flags⟩
    · show (s.ctl.outlet n).state.drawing = false
      rw [flags]; rfl
    · rw [Ctl.outlet_setOutlet_same]
      refine ⟨?_, ?_, fun _ => rfl, ?_, ?_⟩ <;> simp [flags]
  · refine ⟨_, closes_endOrder .hostClose, ?_, judgeClose_ends tag ends⟩
    rw [endOrder_outlet]
    refine ⟨?_, ?_, ?_, fun _ => ⟨rfl, rfl, rfl, rfl⟩, ?_⟩ <;> simp [ends]
  · refine ⟨(s.freshCtl (outletSlot n)).setOutlet n { s.ctl.outlet n with state := .idle },
      closes_setOutlet (by rw [fault]; rfl) rfl, ?_,
      (judgeClose_fault (c := s.freshCtl (outletSlot n)) tag fault).trans (if_pos (sound fault))⟩
    rw [Ctl.outlet_setOutlet_same]
    refine ⟨?_, ?_, ?_, ?_, fun _ => rfl⟩ <;> simp [fault]

/-- R113: a FORCE_CLOSE by the state of the outlet. -/
theorem judgeForceClose_closes (tag : Octet) : ∃ d, Closes s n d ∧
    ForceCloseTable s.clock (s.env.outletQual n).d0.value (s.ctl.outlet n) (d.outlet n) ∧
    judgeForceClose s.env n tag (s.freshCtl (outletSlot n)) = acceptOutlet n tag d := by
  have groups : ((s.ctl.outlet n).state = .idle ∨ (s.ctl.outlet n).state = .stopping) ∨
      (s.ctl.outlet n).state.active = true ∨ (s.ctl.outlet n).state = .fault := by
    cases (s.ctl.outlet n).state <;> simp [OutletState.active]
  rcases groups with stays | active | fault
  · refine ⟨_, closes_nothing (by rcases stays with h | h <;> rw [h] <;> rfl), ?_,
      judgeForceClose_stays tag stays⟩
    refine ⟨fun _ => rfl, ?_, ?_⟩ <;> rcases stays with h | h <;> simp [h, OutletState.active]
  · refine ⟨_, closes_stopOutlet .forced active, ?_, judgeForceClose_stops tag active⟩
    rw [stopOutlet_outlet_same]
    refine ⟨?_, fun _ => stoppedOutlet_eq _ _ active, fun h => ?_⟩
    · rintro (h | h) <;> simp [h, OutletState.active] at active
    · simp [h, OutletState.active] at active
  · refine ⟨_, closes_setOutlet (by rw [fault]; rfl) ?_, ?_, judgeForceClose_fault tag fault⟩
    · dsimp only; split <;> rfl
    · rw [Ctl.outlet_setOutlet_same]
      refine ⟨?_, ?_, fun _ => rfl⟩ <;> simp [fault, OutletState.active]

end

/-- Settles O31: both tables, and the refusals of CLOSE. -/
theorem closeAndForceClose : Obligations.CloseAndForceClose := by
  unfold Obligations.CloseAndForceClose
  refine ⟨?close, ?forceClose,
    fun s n tag takes absent => outletCommit_notConfigured takes (by decide) absent⟩
  case close =>
    intro s n tag k o takes present
    obtain ⟨judged, -⟩ := outletJudged_present (tag := tag) present
    refine ⟨fun fault gate => ?_, fun sound => ?_⟩
    · refine outletCommit_refused takes (judged.trans ?_)
      exact (judgeClose_fault (c := s.freshCtl k) tag fault).trans (if_neg gate)
    · obtain ⟨d, closes, table, accepts⟩ := judgeClose_closes tag sound
      obtain ⟨t, ran, accepted, same⟩ := closes.answered takes (judged.trans accepts)
      rw [← same] at table
      exact ⟨t, ran, accepted, table.stays, table.stops, table.flags, table.ends, table.clears⟩
  case forceClose =>
    intro s n tag k o takes
    obtain ⟨d, closes, table, accepts⟩ := judgeForceClose_closes (s := s) (n := n) tag
    obtain ⟨t, ran, accepted, same⟩ := closes.answered takes (outletJudged_forceClose.trans accepts)
    rw [← same] at table
    exact ⟨t, ran, accepted, table.stays, table.stops, table.clears⟩

end Sys2Proof.Machine
end
section
/-! Proofs: O45, the INDEX, CLOSE and park timers, the boom at rest, and the crediting of tips (R108, R117,
R119, R134 to R136, R139, R140). -/

namespace Sys2Proof.Machine

/-! ### The INDEX and CLOSE timers (R108, R117, R119) -/

section
variable {s : State} {n : Fin 8} {since : Clock}

/-- Log 5, log 26: outside the reset an event of the controllers is their operation, then a seek. -/
theorem event_onCtl_eq (f : Env → Ctl → Ctl) (released : s.resetAsserted = false) :
    event (State.onCtl f) s = .next ({ s with ctl := f s.env s.ctl } : State).seek := by
  simp [event, quiet, released, State.onCtl]

theorem exec_indexTimeout (released : s.resetAsserted = false)
    (running : (s.ctl.outlet n).timer = some (.index, since))
    (passed : (s.live.outletCfg n).indexTimeout * 1000 ≤ (s.clock - since).toNat) :
    exec (.indexTimeout n) s =
      .next ({ s with ctl := endOrder s.env n .indexTimeout s.ctl } : State).seek := by
  have due : indexTimeoutEvent n s.env s.ctl = endOrder s.env n .indexTimeout s.ctl :=
    if_pos (timerDue_of_running running passed)
  rw [← due]
  exact event_onCtl_eq (indexTimeoutEvent n) released

theorem exec_closeTimeout (released : s.resetAsserted = false)
    (running : (s.ctl.outlet n).timer = some (.close, since))
    (passed : (s.live.outletCfg n).closeTimeout ≤ (s.clock - since).toNat) :
    exec (.closeTimeout n) s = .next ({ s with ctl := faultOutlet s.env n s.ctl } : State).seek := by
  have due : closeTimeoutEvent n s.env s.ctl = faultOutlet s.env n s.ctl :=
    if_pos (timerDue_of_running running passed)
  rw [← due]
  exact event_onCtl_eq (closeTimeoutEvent n) released

end

/-! ### The park timer (R135) -/

theorem settleTips_outlets (e : Env) (p : Fin 4) (c : Ctl) : (settleTips e p c).outlets = c.outlets :=
  foldl_keeps (Q := fun b : Ctl => b.outlets = c.outlets)
    (fun _ _ hb => AtTip.refl.rejudgePermit.outlets.trans hb) _ _ rfl

/-- R127: a settling of any pass leaves a tip point in FAULT. -/
theorem settleTips_fault_kept {e : Env} {p : Fin 4} {n : Fin 12} {c : Ctl}
    (fault : (c.tip n).state = .fault) : (settleTips e p c).tip n = c.tip n := by
  by_cases hn : n ∈ e.live.tipsOf p
  · exact settleTips_fault hn fault
  · exact (tipView_eq.1 (foldl_elsewhere (view := tipView) (step := fun x u => rejudgePermit e u x)
      (fun _ _ _ hne => AtTip.refl.rejudgePermit.view hne) hn c)).1

theorem parkExpires_eq {e : Env} {n : Fin 12} {since : Clock} {c : Ctl}
    (running : (c.tip n).park = .running since) : parkExpires e n c =
      (c.setTip n { c.tip n with state := .fault, park := .stopped }).report e .tipPointFault n.val
        (since.toNat % 65536) (since.toNat / 65536) (e.tipQual n).d2.value.code 0 := by
  simp only [parkExpires, running]

theorem exec_parkTimeout {s : State} {n : Fin 12} {since : Clock} (released : s.resetAsserted = false)
    (running : (s.ctl.tip n).park = .running since)
    (passed : (s.live.tipCfg n).parkTimeout * 1000 ≤ (s.clock - since).toNat) :
    ∃ t, exec (.parkTimeout n) s = .next t ∧
      t.ctl = settleTips s.env (s.live.tipCfg n).pass (parkExpires s.env n s.ctl) := by
  obtain ⟨t, ran, after⟩ := event_onCtl (parkTimeoutEvent n) released
  have due : parkDue s.env n s.ctl = true := parkDue_iff.2 ⟨since, running, passed⟩
  exact ⟨t, ran, after.trans (if_pos due)⟩

/-! ### The boom (R134, R136) -/

section
variable {e : Env} {n : Fin 12} {c : Ctl}

/-- R136: the tip point that its boom has left. -/
def leftTip (now : Clock) (x : Tip) : Tip :=
  { x with state := .parking, remaining := 0, park := .running now }

theorem boomRests_ends (h : (c.tip n).state = .parking ∨ (c.tip n).state = .fault) :
    boomRests n c = c.setTip n { c.tip n with state := .closed, park := .stopped } := by
  rcases h with h | h <;> simp only [boomRests, h]

theorem boomRests_stays
    (h : (c.tip n).state = .opened ∨ (c.tip n).state = .closed ∨ (c.tip n).state = .breaking) :
    boomRests n c = c := by
  rcases h with h | h | h <;> simp only [boomRests, h]

theorem boomLeaves_opened (h : (c.tip n).state = .opened) : boomLeaves e n c =
    ((c.setTip n (leftTip e.clock (c.tip n))).ownDemand (tipSlot n) 0).report e .boomUnparked n.val
      (c.tip n).state.code 0 0 0 := by
  simp only [boomLeaves, h, leftTip]

theorem boomLeaves_closed (h : (c.tip n).state = .closed) : boomLeaves e n c =
    (c.setTip n (leftTip e.clock (c.tip n))).report e .boomUnparked n.val (c.tip n).state.code 0 0 0 := by
  simp only [boomLeaves, h, leftTip]

theorem boomLeaves_stays
    (h : (c.tip n).state = .breaking ∨ (c.tip n).state = .parking ∨ (c.tip n).state = .fault) :
    boomLeaves e n c = c := by
  rcases h with h | h | h <;> simp only [boomLeaves, h]

/-- R136: what a boom that leaves its rest does at an OPEN or CLOSED tip point. -/
theorem boomLeaves_moves (h : (c.tip n).state = .opened ∨ (c.tip n).state = .closed) :
    (boomLeaves e n c).tip n = leftTip e.clock (c.tip n) ∧
    (boomLeaves e n c).journal =
      (c.report e .boomUnparked n.val (c.tip n).state.code 0 0 0).journal ∧
    ((c.tip n).state = .opened → ((boomLeaves e n c).slot (tipSlot n)).wb.demand =
      some (joinWord (c.slot (tipSlot n)).lastTag 0)) ∧
    ((c.tip n).state = .closed → (boomLeaves e n c).slots = c.slots) := by
  rcases h with opened | closed
  · rw [boomLeaves_opened opened]
    refine ⟨?_, report_journal_congr rfl, fun _ => ?_, fun closed => by simp [opened] at closed⟩
    · rw [Ctl.report_tip, Ctl.ownDemand, Ctl.updSlot, Ctl.setSlot_tip, Ctl.tip_setTip_same]
    · rw [Ctl.report_slot, Ctl.ownDemand, Ctl.slot_updSlot_same]; rfl
  · rw [boomLeaves_closed closed]
    refine ⟨?_, report_journal_congr rfl, fun opened => by simp [closed] at opened, fun _ => ?_⟩
    · rw [Ctl.report_tip, Ctl.tip_setTip_same]
    · rw [Ctl.report_slots]; rfl

theorem ownDemand_holder (k j : Fin 24) (code : Octet) :
    ((c.ownDemand k code).slot j).holder = (c.slot j).holder := by
  rw [Ctl.ownDemand, Ctl.updSlot, Ctl.slot_setSlot]
  split
  · next same => rw [← same]; rfl
  · rfl

/-- R128: a boom event where no PERMIT waits is the move of the tip point alone. -/
theorem tipValue_boom (alone : ∀ u ∈ e.live.tipsOf (e.tipCfg n).pass, (c.slot (tipSlot u)).holder = none) :
    tipValue e n .d2 .yes c = boomRests n c ∧ tipValue e n .d2 .no c = boomLeaves e n c := by
  have rests (j : Fin 24) : (boomRests n c).slot j = c.slot j := by
    simp only [boomRests]
    split <;> rfl
  have leaves (j : Fin 24) : ((boomLeaves e n c).slot j).holder = (c.slot j).holder := by
    simp only [boomLeaves]
    split
    · rw [Ctl.report_slot, ownDemand_holder]; rfl
    · rw [Ctl.report_slot]; rfl
    all_goals rfl
  exact ⟨settleTips_none fun u hu => (congrArg CommandSlot.holder (rests _)).trans (alone u hu),
    settleTips_none fun u hu => (leaves _).trans (alone u hu)⟩

end

/-! ### The crediting of tips (R139, R140) -/

section
variable {e : Env} {n : Fin 12} {c : Ctl}

/-- R139: the tip point with the counter of an accepted record. -/
def recordedTip (counter : Octet) (x : Tip) : Tip := { x with lastCounter := counter, known := true }

theorem tipRecord_quiet {counter : Octet} {mass : Nat}
    (h : (c.tip n).known = false ∨ (counter - (c.tip n).lastCounter).toNat = 0) :
    (tipRecord e n counter mass c).1 = c.setTip n (recordedTip counter (c.tip n)) := by
  simp only [tipRecord, if_pos h, recordedTip]

theorem tipRecord_resync {counter : Octet} {mass : Nat} (known : (c.tip n).known = true)
    (jumps : (e.tipCfg n).maxJump < (counter - (c.tip n).lastCounter).toNat) :
    (tipRecord e n counter mass c).1 =
      (c.setTip n (recordedTip counter (c.tip n))).report e .counterResync n.val
        (c.tip n).lastCounter.toNat counter.toNat 0 0 := by
  have counts : ¬((c.tip n).known = false ∨ (counter - (c.tip n).lastCounter).toNat = 0) := by
    simp only [known, Bool.true_eq_false, false_or]; omega
  simp only [tipRecord, if_neg counts, if_pos jumps, recordedTip]

/-- R139: the tips between two records are credited at the nominal mass, `extra` in all. -/
def substituted (e : Env) (n : Fin 12) (tips extra : Nat) (c : Ctl) : Ctl :=
  if tips = 1 then c
  else
    (c.setTip n
      { c.tip n with substitutes := (c.tip n).substitutes + BitVec.ofNat 16 (tips - 1) }).report e
      .tipSubstituted n.val (tips - 1) (min 65535 extra) 0 0

theorem tipRecord_credits {counter : Octet} {mass : Nat} (known : (c.tip n).known = true)
    (counts : (counter - (c.tip n).lastCounter).toNat ≠ 0)
    (within : (counter - (c.tip n).lastCounter).toNat ≤ (e.tipCfg n).maxJump) :
    let tips := (counter - (c.tip n).lastCounter).toNat
    let extra := (tips - 1) * (e.passCfg (e.tipCfg n).pass).nominalTip
    let total := min 65535 (mass + extra)
    (tipRecord e n counter mass c).1 =
      (credit e (e.tipCfg n).pass total (permitAccounting e n tips total
        (substituted e n tips extra (c.setTip n (recordedTip counter (c.tip n)))))).1 := by
  intro tips extra total
  have counted : ¬((c.tip n).known = false ∨ (counter - (c.tip n).lastCounter).toNat = 0) := by
    simp only [known, Bool.true_eq_false, false_or]; exact counts
  simp only [tipRecord, if_neg counted, if_neg (Nat.not_lt.2 within)]
  rfl

/-! The tip point, the journal and the frame of each part of a crediting. -/

theorem AtTip.report {d : Ctl} {kd : RecordKind} {j a b f g : Nat} (h : AtTip n c d) :
    AtTip n c (d.report e kd j a b f g) :=
  h.trans ⟨by simp, by simp, fun _ _ => by simp, fun _ _ => by simp⟩

theorem AtTip.substituted {d : Ctl} (tips extra : Nat) (h : AtTip n c d) :
    AtTip n c (substituted e n tips extra d) :=
  .ite h (h.setTip _).report

theorem AtTip.permitAccounting {d : Ctl} (tips mass : Nat) (h : AtTip n c d) :
    AtTip n c (permitAccounting e n tips mass d) := by
  simp only [Machine.permitAccounting]
  exact .ite (.ite h (.ite (h.setTip _) ((h.setTip _).updSlot _).report)) h.report

theorem substituted_tip (tips extra : Nat) : (substituted e n tips extra c).tip n =
    { c.tip n with substitutes := (c.tip n).substitutes + BitVec.ofNat 16 (tips - 1) } := by
  unfold substituted
  split
  · next one => simp [one]
  · rw [Ctl.report_tip, Ctl.tip_setTip_same]

theorem substituted_slot (tips extra : Nat) (k : Fin 24) :
    (substituted e n tips extra c).slot k = c.slot k := by
  unfold substituted
  split
  · rfl
  · rw [Ctl.report_slot]; rfl

theorem substituted_journal (tips extra : Nat) : (substituted e n tips extra c).journal =
    (if tips = 1 then c
      else c.report e .tipSubstituted n.val (tips - 1) (min 65535 extra) 0 0).journal := by
  unfold substituted
  split
  · rfl
  · exact report_journal_congr rfl

theorem permitAccounting_kept (tips mass : Nat)
    (h : (c.tip n).state ≠ .opened ∨ (c.tip n).remaining = 0) :
    (permitAccounting e n tips mass c).tip n = c.tip n := by
  simp only [permitAccounting]
  split
  · next opened => rw [if_pos (h.resolve_left (not_not.2 opened))]
  · rw [Ctl.report_tip]

theorem permitAccounting_counts {tips : Nat} (mass : Nat) (opened : (c.tip n).state = .opened)
    (left : tips < (c.tip n).remaining) : permitAccounting e n tips mass c =
      c.setTip n { c.tip n with remaining := (c.tip n).remaining - tips } := by
  have remains : ¬(c.tip n).remaining = 0 := by omega
  simp only [permitAccounting, if_pos opened, if_neg remains, if_pos left]

theorem permitAccounting_used {tips : Nat} (mass : Nat) (opened : (c.tip n).state = .opened)
    (remains : (c.tip n).remaining ≠ 0) (used : (c.tip n).remaining ≤ tips) :
    permitAccounting e n tips mass c =
      ((c.setTip n { c.tip n with state := .closed, remaining := 0 }).ownDemand (tipSlot n) 0).report e
        .permitUsed n.val (c.tip n).permitCount (tips - (c.tip n).remaining) 0 0 := by
  simp only [permitAccounting, if_pos opened, if_neg remains, if_neg (Nat.not_lt.2 used)]

/-- R140: the tip that uses the permission up closes the tip point. -/
theorem permitAccounting_closes {tips : Nat} (mass : Nat) (opened : (c.tip n).state = .opened)
    (remains : (c.tip n).remaining ≠ 0) (used : (c.tip n).remaining ≤ tips) :
    (permitAccounting e n tips mass c).tip n = { c.tip n with state := .closed, remaining := 0 } ∧
    ((permitAccounting e n tips mass c).slot (tipSlot n)).wb.demand =
      some (joinWord (c.slot (tipSlot n)).lastTag 0) := by
  rw [permitAccounting_used mass opened remains used]
  constructor
  · rw [Ctl.report_tip, Ctl.ownDemand, Ctl.updSlot, Ctl.setSlot_tip, Ctl.tip_setTip_same]
  · rw [Ctl.report_slot, Ctl.ownDemand, Ctl.slot_updSlot_same]
    rfl

theorem permitAccounting_journal (tips mass : Nat) : (permitAccounting e n tips mass c).journal =
    (if (c.tip n).state ≠ .opened then
        c.report e .tipWithoutPermit n.val (c.tip n).state.code tips mass 0
      else if (c.tip n).remaining ≠ 0 ∧ (c.tip n).remaining ≤ tips then
        c.report e .permitUsed n.val (c.tip n).permitCount (tips - (c.tip n).remaining) 0 0
      else c).journal := by
  by_cases opened : (c.tip n).state = .opened
  · rw [if_neg (not_not.2 opened)]
    split
    · next used => rw [permitAccounting_used mass opened used.1 used.2]; exact report_journal_congr rfl
    · next unused =>
      by_cases none : (c.tip n).remaining = 0
      · simp only [permitAccounting, if_pos opened, if_pos none]
      · rw [permitAccounting_counts mass opened (by omega)]; rfl
  · rw [if_pos opened]
    simp only [permitAccounting, if_neg opened]

/-- R5: what a credit makes of the pass, and adds to the journal, rests on the pass and the journal alone. -/
theorem credit_congr (p : Fin 4) (m : Nat) {d x : Ctl} (pass : d.pass p = x.pass p)
    (journal : d.journal = x.journal) :
    (credit e p m d).1.pass p = (credit e p m x).1.pass p ∧
      (credit e p m d).1.journal = (credit e p m x).1.journal := by
  have record : (credit e p m d).1.pass p = (credit e p m x).1.pass p := by
    rw [credit_pass, credit_pass, pass]
  refine ⟨record, ?_⟩
  rw [credit_journal, credit_journal, record, pass]
  exact ite_else_report_journal_congr (ite_report_journal_congr journal)

theorem credit_slot (p : Fin 4) (m : Nat) (k : Fin 24) : (credit e p m c).1.slot k = c.slot k := by
  simp only [credit]
  rw [stocked_slot]
  split <;> simp


/-- R139, R140: a record whose tips are credited. -/
theorem tipRecord_credited {counter : Octet} {mass : Nat} (known : (c.tip n).known = true)
    (counts : (counter - (c.tip n).lastCounter).toNat ≠ 0)
    (within : (counter - (c.tip n).lastCounter).toNat ≤ (e.tipCfg n).maxJump) :
    let x := c.tip n
    let p := (e.tipCfg n).pass
    let k := e.passCfg p
    let tips := (counter - x.lastCounter).toNat
    let total := min 65535 (mass + (tips - 1) * k.nominalTip)
    let y := (tipRecord e n counter mass c).1
    let credited : Tip :=
      { recordedTip counter x with substitutes := x.substitutes + BitVec.ofNat 16 (tips - 1) }
    let j1 := if tips = 1 then c
      else c.report e .tipSubstituted n.val (tips - 1) (min 65535 ((tips - 1) * k.nominalTip)) 0 0
    let j2 := if x.state ≠ .opened then
        j1.report e .tipWithoutPermit n.val x.state.code tips total 0
      else if x.remaining ≠ 0 ∧ x.remaining ≤ tips then
        j1.report e .permitUsed n.val x.permitCount (tips - x.remaining) 0 0
      else j1
    y.journal = (credit e p total { c with journal := j2.journal }).1.journal ∧
    y.pass p = (credit e p total c).1.pass p ∧
    (y.pass p).inventory = min k.capacity ((c.pass p).inventory + total) ∧
    (∀ j, j ≠ n → y.tip j = c.tip j) ∧ y.outlets = c.outlets ∧
    (x.state ≠ .opened ∨ x.remaining = 0 → y.tip n = credited) ∧
    (x.state = .opened → tips < x.remaining →
      y.tip n = { credited with remaining := x.remaining - tips }) ∧
    (x.state = .opened → x.remaining ≠ 0 → x.remaining ≤ tips →
      y.tip n = { credited with state := .closed, remaining := 0 } ∧
      (y.slot (tipSlot n)).wb.demand = some (joinWord (c.slot (tipSlot n)).lastTag 0)) := by
  intro x p k tips total y credited j1 j2
  set d := substituted e n tips ((tips - 1) * k.nominalTip) (c.setTip n (recordedTip counter x)) with hd
  set a := permitAccounting e n tips total d with ha
  have after : y = (credit e p total a).1 := tipRecord_credits known counts within
  have tip : d.tip n = credited := by
    rw [hd, substituted_tip, Ctl.tip_setTip_same]; rfl
  have slot : d.slot (tipSlot n) = c.slot (tipSlot n) := substituted_slot ..
  have framed : AtTip n c a := ((AtTip.refl.setTip _).substituted ..).permitAccounting ..
  have substitutes : d.journal = j1.journal := by
    rw [hd, substituted_journal]
    exact ite_else_report_journal_congr rfl
  have journal : a.journal = j2.journal := by
    rw [ha, permitAccounting_journal, tip]
    show (if x.state ≠ .opened then d.report e .tipWithoutPermit n.val x.state.code tips total 0
      else if x.remaining ≠ 0 ∧ x.remaining ≤ tips then
        d.report e .permitUsed n.val x.permitCount (tips - x.remaining) 0 0
      else d).journal = j2.journal
    simp only [j2]
    split
    · exact report_journal_congr substitutes
    · exact ite_report_journal_congr substitutes
  have pass : a.pass p = c.pass p := Ctl.pass_congr framed.passes p
  have tips' (j : Fin 12) : y.tip j = a.tip j := by
    rw [after]; exact Ctl.tip_congr (credit_atPass ..).tips j
  have demand : y.slot (tipSlot n) = a.slot (tipSlot n) := by rw [after]; exact credit_slot ..
  obtain ⟨record, records⟩ := credit_congr (e := e) p total (d := a) (x := { c with journal := j2.journal })
    pass journal
  have credits : y.pass p = (credit e p total c).1.pass p := by
    rw [after, record, credit_pass, credit_pass]; rfl
  refine ⟨by rw [after]; exact records, credits, ?_, fun j other => (tips' j).trans (framed.tips j other),
    ?_, fun kept => ?_, fun opened left => ?_, fun opened remains used => ?_⟩
  · rw [credits]; exact (credit_spec e p total c).2.1
  · rw [after]; exact (credit_atPass ..).outlets.trans framed.outlets
  · rw [tips', ha, permitAccounting_kept _ _ (by rw [tip]; exact kept), tip]
  · rw [tips', ha, permitAccounting_counts _ (by rw [tip]; exact opened) (by rw [tip]; exact left),
      Ctl.tip_setTip_same, tip]
    rfl
  · obtain ⟨closes, withdrawn⟩ := permitAccounting_closes (e := e) (c := d) (tips := tips) total
      (by rw [tip]; exact opened) (by rw [tip]; exact remains) (by rw [tip]; exact used)
    exact ⟨(tips' n).trans (closes.trans (by rw [tip])), by rw [demand, ha, withdrawn, slot]⟩

end

/-- Settles O45: each expiry is its operation, the boom moves its tip point alone where no PERMIT waits, and a
record is the counting of its tips, then their credit. -/
theorem indexCloseAndParkTimersExpire : Obligations.IndexCloseAndParkTimersExpire := by
  unfold Obligations.IndexCloseAndParkTimersExpire
  refine ⟨?timers, ?park, ?boom, ?tips⟩
  case timers =>
    intro s n since released o cfg ran ended
    exact ⟨fun running passed => exec_indexTimeout released running passed,
      fun running passed => exec_closeTimeout released running passed⟩
  case park =>
    intro s n since released running passed
    obtain ⟨t, ran, after⟩ := exec_parkTimeout released running passed
    obtain ⟨passes, journal⟩ := settleTips_kept s.env (s.live.tipCfg n).pass (parkExpires s.env n s.ctl)
    have outlets := settleTips_outlets s.env (s.live.tipCfg n).pass (parkExpires s.env n s.ctl)
    rw [← after] at passes journal outlets
    have expired := parkExpires_eq (e := s.env) running
    have tip : (parkExpires s.env n s.ctl).tip n =
        { s.ctl.tip n with state := .fault, park := .stopped } := by
      rw [expired, Ctl.report_tip, Ctl.tip_setTip_same]
    rw [expired] at passes journal outlets
    refine ⟨t, ran, ?_, journal.trans (report_journal_congr rfl), ?_, ?_⟩
    · rw [after, settleTips_fault_kept (by rw [tip]), tip]
    · rw [passes, Ctl.report_passes]; rfl
    · rw [outlets, Ctl.report_outlets]; rfl
  case boom =>
    intro e n c alone x rests leaves moved
    obtain ⟨resting, leaving⟩ := tipValue_boom alone
    refine ⟨fun parked => resting.trans (boomRests_ends parked), fun given => ?given,
      fun breaking => resting.trans (boomRests_stays (.inr (.inr breaking))),
      fun still => leaving.trans (boomLeaves_stays still)⟩
    case given =>
      obtain ⟨tip, journal, demand, slots⟩ := boomLeaves_moves (e := e) given
      rw [← leaving] at tip journal demand slots
      exact ⟨resting.trans (boomRests_stays (given.imp id .inl)), tip, journal, demand, slots⟩
  case tips =>
    intro e n counter mass c x p k tips taken total y
    refine ⟨fun quiet => tipRecord_quiet quiet, fun known jumps => ?_, fun known counts within => ?_⟩
    · have resync : y = _ := tipRecord_resync (mass := mass) known jumps
      rw [resync]
      refine ⟨?_, ?_, report_journal_congr rfl⟩
      · rw [Ctl.report_tip, Ctl.tip_setTip_same]; rfl
      · rw [Ctl.report_passes]; rfl
    · intro credited j1 j2
      exact tipRecord_credited known counts within

end Sys2Proof.Machine
end
section
/-! Proofs: the commits on tip-point slots (R125 to R131, R134). -/

namespace Sys2Proof.Machine

/-! ### Tables of checks with their outcomes -/

theorem firstFailing_append (xs ys : List (Bool × Reason)) :
    firstFailing (xs ++ ys) = (firstFailing xs).or (firstFailing ys) := by
  simp [firstFailing, List.find?_append, Option.map_or]

/-- The outcome of a table: that of its first failing check, or the one of passing them all. -/
def tableOutcome (checks : List (Bool × Reason)) (passed : Ctl) (failed : Reason → Ctl) : Ctl :=
  (firstFailing checks).elim passed failed

section
variable {checks : List (Bool × Reason)} {passed : Ctl} {failed : Reason → Ctl}

theorem tableOutcome_nil : tableOutcome [] passed failed = passed := rfl

theorem tableOutcome_cons (b : Bool) (r : Reason) : tableOutcome ((b, r) :: checks) passed failed =
    if b = true then failed r else tableOutcome checks passed failed := by
  unfold tableOutcome
  rw [firstFailing_cons]
  cases b <;> rfl

theorem tableOutcome_fails {r : Reason} (h : firstFailing checks = some r) :
    tableOutcome checks passed failed = failed r := by rw [tableOutcome, h]; rfl

theorem tableOutcome_passes (h : firstFailing checks = none) :
    tableOutcome checks passed failed = passed := by rw [tableOutcome, h]; rfl

end

/-! ### A commit on a tip-point slot -/

theorem ownerOf_tipSlot (n : Fin 12) : ownerOf (tipSlot n) = .tip n := by
  revert n; decide

theorem judgeCommit_tipSlot (e : Env) (n : Fin 12) (cm : Commit) (c : Ctl) :
    judgeCommit e (tipSlot n) cm c = commitTip e n cm c := by
  unfold judgeCommit
  rw [ownerOf_tipSlot]

/-- R44, R128: a settling of any pass leaves a tip point where no PERMIT is deferred. -/
theorem settleTips_view_idle {e : Env} {p : Fin 4} {n : Fin 12} {c : Ctl}
    (idle : (c.slot (tipSlot n)).holder = none) :
    tipView n (settleTips e p c) = tipView n c := by
  by_cases hn : n ∈ e.live.tipsOf p
  · obtain ⟨b, -, same, settled⟩ :=
      settleTips_view (I := fun _ => True) hn (fun _ _ _ _ => trivial) c trivial
    have still : (b.slot (tipSlot n)).holder = none := by rw [(tipView_eq.1 same).2, idle]
    rw [settled, rejudgePermit_none still, same]
  · exact foldl_elsewhere (view := tipView) (step := fun x u => rejudgePermit e u x)
      (fun _ _ _ hne => AtTip.refl.rejudgePermit.view hne) hn c

section
variable {s : State} {n : Fin 12} {code tag : Octet} {y : Ctl}

/-- R41: what the judgement of a commit on a tip-point slot leaves. -/
def State.tipJudged (s : State) (n : Fin 12) (code tag : Octet) : Ctl :=
  judgeTip s.env n (s.commitOf (tipSlot n) code tag) (s.freshCtl (tipSlot n))

/-- R125: a commit that leaves the state of its tip point is no input event at the others. -/
theorem judgeCommit_tipState (judged : s.tipJudged n code tag = y)
    (same : (y.tip n).state = (s.ctl.tip n).state) :
    judgeCommit s.env (tipSlot n) (s.commitOf (tipSlot n) code tag) (s.freshCtl (tipSlot n)) = y := by
  rw [judgeCommit_tipSlot, commitTip]
  subst judged
  exact if_pos same.symm

/-- R126: a refused commit on a tip-point slot. -/
theorem tipCommit_refused {r : Reason} (takes : s.takesCommits)
    (judged : s.tipJudged n code tag = (s.freshCtl (tipSlot n)).refuse (tipSlot n) tag r) :
    ∃ t, commitWrite (tipSlot n) code tag s = .next t ∧ s.refusedWith t (tipSlot n) tag r :=
  commitWrite_refused takes (judgeCommit_tipState judged rfl)

/-- R125, R126: an accepted commit. The PERMITs of the pass that it lets go leave its own tip point. -/
theorem tipCommit_accepted {demand detail : Octet} {sp : SetPoints} {v : Verdict}
    (takes : s.takesCommits) (judged : s.tipJudged n code tag = y)
    (slot : y.slot (tipSlot n) = acceptedSlot sp demand tag v detail) :
    ∃ t, commitWrite (tipSlot n) code tag s = .next t ∧
      s.acceptedWith t (tipSlot n) sp demand tag v detail ∧ t.ctl.tip n = y.tip n := by
  by_cases same : (y.tip n).state = (s.ctl.tip n).state
  · obtain ⟨t, ran, accepted, after⟩ :=
      commitWrite_acceptedSlot takes (judgeCommit_tipState judged same) slot
    exact ⟨t, ran, accepted, by rw [after]; rfl⟩
  · have settles : judgeCommit s.env (tipSlot n) (s.commitOf (tipSlot n) code tag)
        (s.freshCtl (tipSlot n)) = settleTips s.env (s.live.tipCfg n).pass y := by
      rw [judgeCommit_tipSlot, commitTip]
      subst judged
      exact if_neg (Ne.symm same)
    obtain ⟨tip, kept⟩ := tipView_eq.1 (settleTips_view_idle (e := s.env)
      (p := (s.live.tipCfg n).pass) (n := n) (c := y) (by rw [slot]; rfl))
    obtain ⟨t, ran, accepted, after⟩ := commitWrite_acceptedSlot takes settles (kept.trans slot)
    exact ⟨t, ran, accepted, by rw [after]; exact tip⟩

/-- R126: an order accepted with the set-points of the copy, which leaves the tip point `x`. -/
theorem tipCommit_acceptTip {x : Tip} (takes : s.takesCommits)
    (judged : s.tipJudged n code tag = acceptTip n tag ((s.freshCtl (tipSlot n)).setTip n x)) :
    ∃ t, commitWrite (tipSlot n) code tag s = .next t ∧ t.ctl.tip n = x ∧
      s.acceptedWith t (tipSlot n) (s.ctl.slot (tipSlot n)).copy x.state.demand tag .accepted 0 := by
  have tip : ((s.freshCtl (tipSlot n)).setTip n x).tip n = x := Ctl.tip_setTip_same ..
  have fresh : FreshSlot s (tipSlot n) ((s.freshCtl (tipSlot n)).setTip n x) := .of_slot rfl
  rw [acceptTip, tip] at judged
  obtain ⟨t, ran, accepted, after⟩ := tipCommit_accepted takes judged (fresh.acceptCopy_slot ..)
  exact ⟨t, ran, after.trans tip, accepted⟩

end

/-! ### The orders of a tip point (R126) -/

theorem setTip_self (n : Fin 12) (c : Ctl) : c.setTip n (c.tip n) = c := by
  simp [Ctl.setTip, Ctl.tip]

theorem tipSetPointsOk_eq_false {cm : Commit} : tipSetPointsOk cm = false ↔
    cm.sp.b ≠ 0 ∨ cm.sp.c ≠ 0 ∨ (cm.code = 1 ∧ 50 < cm.sp.a.toNat) := by
  simp only [tipSetPointsOk, Bool.and_eq_false_iff, beq_eq_false_iff_ne, Bool.not_eq_false',
    Bool.and_eq_true, beq_iff_eq, decide_eq_true_eq, or_assoc]

section
variable {s : State} {n : Fin 12} {code tag : Octet}

/-- R126: an order other than WITHDRAW on a tip point that is not configured. -/
theorem tipJudged_notConfigured (listed : code.toNat < 4) (asks : code ≠ 0)
    (absent : (s.live.tipCfg n).present = false) :
    s.tipJudged n code tag = (s.freshCtl (tipSlot n)).refuse (tipSlot n) tag .notConfigured := by
  have known : ¬4 ≤ code.toNat := by omega
  rw [State.tipJudged, judgeTip, commitOf_code, commitOf_tag, if_neg known]
  exact if_pos ⟨asks, absent⟩

/-- R126: the order that a tip commit is, past the checks that all of them share. -/
def State.tipOrder (s : State) (n : Fin 12) (code tag : Octet) : Ctl :=
  if code = 0 then judgeWithdraw n tag (s.freshCtl (tipSlot n))
  else if code = 1 then
    judgePermit s.env n (s.commitOf (tipSlot n) code tag) (s.freshCtl (tipSlot n))
  else if code = 2 then judgeBoomWork s.env n tag (s.freshCtl (tipSlot n))
  else judgeBoomPark s.env n tag (s.freshCtl (tipSlot n))

/-- R126: a listed order on a tip point that is configured where the order asks for that. -/
theorem tipJudged_present (listed : code.toNat < 4)
    (present : code = 0 ∨ (s.live.tipCfg n).present = true) :
    s.tipJudged n code tag =
      if tipSetPointsOk (s.commitOf (tipSlot n) code tag) = false then
        (s.freshCtl (tipSlot n)).refuse (tipSlot n) tag .range
      else s.tipOrder n code tag := by
  have known : ¬4 ≤ code.toNat := by omega
  have configured : ¬(code ≠ 0 ∧ (s.env.tipCfg n).present = false) := by
    rintro ⟨asks, absent⟩
    exact Bool.eq_false_iff.1 absent (present.resolve_left asks)
  rw [State.tipJudged, judgeTip, commitOf_code, commitOf_tag, if_neg known, if_neg configured]
  rfl

theorem tipJudged_range (listed : code.toNat < 4)
    (present : code = 0 ∨ (s.live.tipCfg n).present = true)
    (outside : tipSetPointsOk (s.commitOf (tipSlot n) code tag) = false) :
    s.tipJudged n code tag = (s.freshCtl (tipSlot n)).refuse (tipSlot n) tag .range :=
  (tipJudged_present listed present).trans (if_pos outside)

theorem tipJudged_passes (listed : code.toNat < 4)
    (present : code = 0 ∨ (s.live.tipCfg n).present = true)
    (inRange : tipSetPointsOk (s.commitOf (tipSlot n) code tag) = true) :
    s.tipJudged n code tag = s.tipOrder n code tag :=
  (tipJudged_present listed present).trans (if_neg (by simp [inRange]))

/-- R126: the set-points of an order other than PERMIT. -/
theorem tipSetPointsOk_commitOf (notPermit : code ≠ 1) :
    tipSetPointsOk (s.commitOf (tipSlot n) code tag) = true ↔
      (s.commitOf (tipSlot n) code tag).sp.b = 0 ∧ (s.commitOf (tipSlot n) code tag).sp.c = 0 := by
  rw [← not_iff_not, Bool.not_eq_true, tipSetPointsOk_eq_false, commitOf_code]
  simp only [notPermit, false_and, or_false]
  tauto

end

/-! ### WITHDRAW (R129) -/

/-- R129: the tip point that a WITHDRAW leaves. -/
def withdrawnTip (x : Tip) : Tip :=
  if x.state = .opened then { x with state := .closed, remaining := 0 } else x

theorem judgeWithdraw_eq (n : Fin 12) (tag : Octet) (c : Ctl) :
    judgeWithdraw n tag c = acceptTip n tag (c.setTip n (withdrawnTip (c.tip n))) := by
  unfold judgeWithdraw withdrawnTip
  split
  · rfl
  · rw [setTip_self]

theorem withdrawnTip_demand (x : Tip) :
    (withdrawnTip x).state.demand = if x.state = .breaking then 2 else 0 := by
  unfold withdrawnTip
  cases state : x.state <;> simp [state, TipState.demand]

/-- Settles O33: by whether the set-points are 0. -/
theorem withdrawClosesTip : Obligations.WithdrawClosesTip := by
  unfold Obligations.WithdrawClosesTip
  intro s n tag k x sp takes
  refine ⟨fun b c => ?_, fun outside => ?_⟩
  · have judged : s.tipJudged n 0 tag = judgeWithdraw n tag (s.freshCtl k) :=
      tipJudged_passes (by decide) (.inl rfl) ((tipSetPointsOk_commitOf (by decide)).2 ⟨b, c⟩)
    rw [judgeWithdraw_eq] at judged
    have accepted := tipCommit_acceptTip takes judged
    rw [withdrawnTip_demand] at accepted
    exact accepted
  · exact tipCommit_refused takes (tipJudged_range (by decide) (.inl rfl)
      (tipSetPointsOk_eq_false.2 (outside.imp id .inl)))

/-! ### BOOM_WORK and BOOM_PARK (R130, R131, R134) -/

/-- R130, steps 4 and 5. -/
def boomWorkBefore (e : Env) (n : Fin 12) (c : Ctl) : List (Bool × Reason) :=
  [((c.pass (e.tipCfg n).pass).state == .lockout, .lockout), ((c.tip n).state == .opened, .tipOpen)]

/-- R130, steps 7 to 9, which a BREAKING tip point does not come to. -/
def boomWorkAfter (e : Env) (n : Fin 12) (c : Ctl) : List (Bool × Reason) :=
  [(!e.tipFresh n, .feedbackStale), (c.relatedIn e n .opened, .fallPath),
    ((e.tipQual n).d0.value != .no, .truckPresent)]

/-- R130: all the checks that a BOOM_WORK comes to. -/
def boomWorkChecks (e : Env) (n : Fin 12) (c : Ctl) : List (Bool × Reason) :=
  boomWorkBefore e n c ++ if (c.tip n).state = .breaking then [] else boomWorkAfter e n c

/-- R130: the tip point that an accepted BOOM_WORK leaves. -/
def freedTip (x : Tip) : Tip :=
  if x.state = .breaking then x else { x with state := .breaking, park := .stopped }

/-- R131: the tip point that a BOOM_PARK leaves. -/
def parkedTip (e : Env) (n : Fin 12) (x : Tip) : Tip :=
  if x.state = .breaking then enterParking e n x else x

theorem judgeBoomWork_eq (e : Env) (n : Fin 12) (tag : Octet) (c : Ctl) :
    judgeBoomWork e n tag c = tableOutcome (boomWorkChecks e n c)
      (acceptTip n tag (c.setTip n (freedTip (c.tip n)))) (c.refuse (tipSlot n) tag) := by
  unfold judgeBoomWork boomWorkChecks boomWorkBefore boomWorkAfter freedTip
  dsimp only
  rw [List.cons_append, List.cons_append, List.nil_append, tableOutcome_cons, tableOutcome_cons]
  refine ite_congr (by simp) (fun _ => rfl) fun _ => ite_congr (by simp) (fun _ => rfl) fun _ => ?_
  by_cases breaking : (c.tip n).state = .breaking
  · simp only [if_pos breaking, tableOutcome_nil, setTip_self]
  · simp only [if_neg breaking, tableOutcome_cons, tableOutcome_nil]
    refine ite_congr (by simp) (fun _ => rfl) fun _ => ite_congr rfl (fun _ => rfl) fun _ =>
      ite_congr (by simp) (fun _ => rfl) fun _ => rfl

theorem judgeBoomPark_eq (e : Env) (n : Fin 12) (tag : Octet) (c : Ctl) :
    judgeBoomPark e n tag c = acceptTip n tag (c.setTip n (parkedTip e n (c.tip n))) := by
  unfold judgeBoomPark parkedTip
  split
  · rfl
  · rw [setTip_self]

theorem freedTip_demand (x : Tip) : (freedTip x).state.demand = 2 := by
  unfold freedTip
  split
  · next breaking => rw [breaking]; rfl
  · rfl

theorem enterParking_demand (e : Env) (n : Fin 12) (x : Tip) : (enterParking e n x).state.demand = 0 := by
  unfold enterParking
  split <;> rfl

theorem parkedTip_demand (e : Env) (n : Fin 12) (x : Tip) :
    (parkedTip e n x).state.demand = if x.state = .opened then 1 else 0 := by
  unfold parkedTip
  split
  · next breaking => rw [enterParking_demand, breaking]; rfl
  · next other => cases state : x.state <;> simp_all [TipState.demand]

/-- R126: an order other than WITHDRAW and PERMIT, where a check before its own rule fails. -/
theorem boomCommit_refused {s : State} {n : Fin 12} {code tag : Octet} (takes : s.takesCommits)
    (listed : code.toNat < 4) (asks : code ≠ 0) :
    ((s.live.tipCfg n).present = false → ∃ t, commitWrite (tipSlot n) code tag s = .next t ∧
      s.refusedWith t (tipSlot n) tag .notConfigured) ∧
    ((s.live.tipCfg n).present = true →
      (s.commitOf (tipSlot n) code tag).sp.b ≠ 0 ∨ (s.commitOf (tipSlot n) code tag).sp.c ≠ 0 →
      ∃ t, commitWrite (tipSlot n) code tag s = .next t ∧ s.refusedWith t (tipSlot n) tag .range) :=
  ⟨fun absent => tipCommit_refused takes (tipJudged_notConfigured listed asks absent),
    fun present outside => tipCommit_refused takes (tipJudged_range listed (.inr present)
      (tipSetPointsOk_eq_false.2 (outside.imp id .inl)))⟩

/-- R130: a BOOM_WORK past the checks of R126. -/
theorem boomWork_answered {s : State} {n : Fin 12} {tag : Octet} (takes : s.takesCommits)
    (present : (s.live.tipCfg n).present = true)
    (inRange : tipSetPointsOk (s.commitOf (tipSlot n) 2 tag) = true) :
    (∀ r, firstFailing (boomWorkChecks s.env n s.ctl) = some r →
      ∃ t, exec (.boomWork n tag) s = .next t ∧ s.refusedWith t (tipSlot n) tag r) ∧
    (firstFailing (boomWorkChecks s.env n s.ctl) = none →
      ∃ t, exec (.boomWork n tag) s = .next t ∧ t.ctl.tip n = freedTip (s.ctl.tip n) ∧
        s.acceptedWith t (tipSlot n) (s.ctl.slot (tipSlot n)).copy 2 tag .accepted 0) := by
  have judged : s.tipJudged n 2 tag = judgeBoomWork s.env n tag (s.freshCtl (tipSlot n)) :=
    tipJudged_passes (by decide) (.inr present) inRange
  rw [judgeBoomWork_eq] at judged
  refine ⟨fun r fails => tipCommit_refused takes (judged.trans (tableOutcome_fails fails)),
    fun passes => ?_⟩
  have accepted := tipCommit_acceptTip takes (judged.trans (tableOutcome_passes passes))
  rw [freedTip_demand] at accepted
  exact accepted

/-- R131: a BOOM_PARK past the checks of R126. -/
theorem boomPark_answered {s : State} {n : Fin 12} {tag : Octet} (takes : s.takesCommits)
    (present : (s.live.tipCfg n).present = true)
    (inRange : tipSetPointsOk (s.commitOf (tipSlot n) 3 tag) = true) :
    ∃ t, exec (.boomPark n tag) s = .next t ∧ t.ctl.tip n = parkedTip s.env n (s.ctl.tip n) ∧
      s.acceptedWith t (tipSlot n) (s.ctl.slot (tipSlot n)).copy
        (if (s.ctl.tip n).state = .opened then 1 else 0) tag .accepted 0 := by
  have judged : s.tipJudged n 3 tag = judgeBoomPark s.env n tag (s.freshCtl (tipSlot n)) :=
    tipJudged_passes (by decide) (.inr present) inRange
  rw [judgeBoomPark_eq] at judged
  have accepted := tipCommit_acceptTip takes judged
  rw [parkedTip_demand] at accepted
  exact accepted

/-- Settles O34: the two tables, and the refusals that both orders share. -/
theorem boomOrders : Obligations.BoomOrders := by
  unfold Obligations.BoomOrders
  refine ⟨?configured, ?refused⟩
  case configured =>
    intro s n tag k r x q before after takes present
    have checks : firstFailing (boomWorkChecks s.env n s.ctl) =
        (firstFailing before).or (firstFailing (if x.state = .breaking then [] else after)) :=
      firstFailing_append ..
    refine ⟨fun b c => ?work, fun b c => ?park⟩
    case work =>
      obtain ⟨refused, accepted⟩ := boomWork_answered takes present
        ((tipSetPointsOk_commitOf (by decide)).2 ⟨b, c⟩)
      refine ⟨fun reason fails => refused reason (checks.trans ?_),
        fun passes goes => accepted (checks.trans ?_)⟩
      · rcases fails with first | ⟨passes, shut, second⟩
        · rw [first]; rfl
        · rw [passes, if_neg shut, second]; rfl
      · rw [passes, Option.none_or]
        split
        · rfl
        · next shut => exact goes.resolve_left shut
    case park =>
      exact boomPark_answered takes present ((tipSetPointsOk_commitOf (by decide)).2 ⟨b, c⟩)
  case refused =>
    intro s n tag takes refused
    obtain ⟨workAbsent, workRange⟩ :=
      boomCommit_refused (n := n) (code := 2) (tag := tag) takes (by decide) (by decide)
    obtain ⟨parkAbsent, parkRange⟩ :=
      boomCommit_refused (n := n) (code := 3) (tag := tag) takes (by decide) (by decide)
    exact ⟨fun absent => ⟨workAbsent absent, parkAbsent absent⟩,
      fun present => ⟨workRange present, parkRange present⟩⟩

/-! ### PERMIT (R127, R128) -/

section
variable {e : Env} {n : Fin 12} {cm : Commit} {c : Ctl}

/-- R127, steps 13 and 14, where the tip point is not OPEN (step 12). -/
def permitWaits (e : Env) (n : Fin 12) (c : Ctl) : List (Bool × Reason) :=
  if (c.tip n).state = .opened then [] else permitTransient e n c

theorem judgePermit_eq : judgePermit e n cm c = tableOutcome (permitPermanent e n c)
    (tableOutcome (permitWaits e n c) (executePermit n cm c)
      (fun r => c.defer e (tipSlot n) cm r e.live.globalCfg.tipLimit))
    (c.refuse (tipSlot n) cm.tag) := by
  have checks : permitCheck e n c = tableJudgement (permitPermanent e n c) (permitWaits e n c) :=
    permitCheck_eq_table e n c
  rw [judgePermit, checks]
  cases permanent : firstFailing (permitPermanent e n c) with
  | some r => rw [tableJudgement_refuse permanent, tableOutcome_fails permanent]
  | none =>
    rw [tableOutcome_passes permanent]
    cases waits : firstFailing (permitWaits e n c) with
    | some r => rw [tableJudgement_defers permanent waits, tableOutcome_fails waits]
    | none => rw [tableJudgement_pass permanent waits, tableOutcome_passes waits]

theorem executePermit_tip : (executePermit n cm c).tip n =
    { c.tip n with
      state := .opened, remaining := cm.sp.a.toNat, permitCount := cm.sp.a.toNat } := by
  simp [executePermit, Ctl.accept]

theorem executePermit_slot (staged : (c.slot (tipSlot n)).staged = Staged.empty)
    (holder : (c.slot (tipSlot n)).holder = none) :
    (executePermit n cm c).slot (tipSlot n) =
      acceptedSlot { a := cm.sp.a, b := 0, c := 0 } 1 cm.tag .accepted 0 :=
  accept_slot (d := c.setTip n _) staged holder ..

end

section
variable {s : State} {n : Fin 12} {tag : Octet}

/-- R126, R127: the permanent checks of a PERMIT, first those of R126 (steps 2 and 3). -/
def State.permitTable (s : State) (n : Fin 12) (tag : Octet) : List (Bool × Reason) :=
  let sp := (s.commitOf (tipSlot n) 1 tag).sp
  (!(s.live.tipCfg n).present, .notConfigured) ::
    (sp.b != 0 || sp.c != 0 || decide (50 < sp.a.toNat), .range) :: permitPermanent s.env n s.ctl

theorem permitRange_iff : tipSetPointsOk (s.commitOf (tipSlot n) 1 tag) = false ↔
    ((s.commitOf (tipSlot n) 1 tag).sp.b != 0 || (s.commitOf (tipSlot n) 1 tag).sp.c != 0 ||
      decide (50 < (s.commitOf (tipSlot n) 1 tag).sp.a.toNat)) = true := by
  rw [tipSetPointsOk_eq_false, commitOf_code]
  simp [or_assoc]

/-- R126 to R128: a PERMIT by its two tables. -/
theorem tipJudged_permit :
    let cm := s.commitOf (tipSlot n) 1 tag
    let c := s.freshCtl (tipSlot n)
    s.tipJudged n 1 tag = tableOutcome (s.permitTable n tag)
      (tableOutcome (permitWaits s.env n s.ctl) (executePermit n cm c)
        (fun r => c.defer s.env (tipSlot n) cm r s.live.globalCfg.tipLimit))
      (c.refuse (tipSlot n) tag) := by
  intro cm c
  rw [State.permitTable, tableOutcome_cons, tableOutcome_cons]
  cases present : (s.live.tipCfg n).present with
  | false => exact tipJudged_notConfigured (by decide) (by decide) present
  | true =>
    rw [if_neg (by simp)]
    split
    · next outside => exact tipJudged_range (by decide) (.inr present) (permitRange_iff.2 outside)
    · next inside =>
      have inRange := Bool.eq_true_of_not_eq_false (mt permitRange_iff.1 inside)
      have judged : s.tipJudged n 1 tag = judgePermit s.env n cm c :=
        tipJudged_passes (by decide) (.inr present) inRange
      rw [judged, judgePermit_eq, commitOf_tag]
      rfl

end

/-- Settles O32: the outcome of the first failing check, or the execution. -/
theorem permitChecksInOrder : Obligations.PermitChecksInOrder := by
  unfold Obligations.PermitChecksInOrder
  intro s n tag k r x q cm limit permanent transient takes
  have judged := tipJudged_permit (s := s) (n := n) (tag := tag)
  refine ⟨fun reason fails => ?refused, fun reason passes shut waits => ?transient,
    fun passes goes => ?executed⟩
  case refused => exact tipCommit_refused takes (judged.trans (tableOutcome_fails fails))
  case transient =>
    have waits' : firstFailing (permitWaits s.env n s.ctl) = some reason :=
      (congrArg firstFailing (if_neg shut)).trans waits
    replace judged := (judged.trans (tableOutcome_passes passes)).trans (tableOutcome_fails waits')
    by_cases none : limit = 0
    · rw [Ctl.defer, if_pos none, commitOf_tag] at judged
      obtain ⟨t, ran, refused⟩ := tipCommit_refused takes judged
      exact ⟨t, ran, fun _ => refused, fun some => absurd none some⟩
    · obtain ⟨t, ran, deferred⟩ := commitWrite_deferred takes none
        (judgeCommit_tipState judged (by rw [Ctl.defer, if_neg none]; rfl))
      exact ⟨t, ran, fun zero => absurd zero none, fun _ => deferred⟩
  case executed =>
    have goes' : firstFailing (permitWaits s.env n s.ctl) = none := by
      unfold permitWaits
      split
      · rfl
      · next shut => exact goes.resolve_left shut
    replace judged := (judged.trans (tableOutcome_passes passes)).trans (tableOutcome_passes goes')
    obtain ⟨t, ran, accepted, tip⟩ := tipCommit_accepted takes judged
      ((executePermit_slot freshSlot_freshCtl.staged freshSlot_freshCtl.holder).trans
        (by rw [commitOf_tag]))
    exact ⟨t, ran, tip.trans executePermit_tip, accepted⟩

end Sys2Proof.Machine
end

section
/-! Proofs: O7, the two stages of SAFING and the entry into RUN (R149, R157). -/

namespace Sys2Proof.Machine

/-! ### The safe write-back records -/

theorem CommandSlot.safe_eq (x : CommandSlot) : x.safe =
    { x with
      wb := { x.wb with demand := some 0, verdict := some 0, detail := some 0 }, lastTag := 0 } := rfl

theorem safeSlots_slot (l : Live) (c : Ctl) (j : Fin 24) : (c.safeSlots l).slot j =
    if l.slotConfigured j then (c.slot j).safe else c.slot j := by
  have elsewhere (a x : Fin 24) (b : Ctl) (other : a ≠ x) :
      (b.updSlot x CommandSlot.safe).slot a = b.slot a := Ctl.slot_updSlot_other b _ other.symm
  unfold Ctl.safeSlots
  split
  · next configured =>
    obtain ⟨b, -, same, result⟩ := foldl_once (view := fun a (b : Ctl) => b.slot a) (I := fun _ => True)
      elsewhere ((List.nodup_finRange 24).filter fun k => l.slotConfigured k)
      (List.mem_filter.2 ⟨List.mem_finRange j, configured⟩) (fun _ _ _ _ => trivial) c trivial
    rw [result, Ctl.slot_updSlot_same, same]
  · next not =>
    exact foldl_elsewhere (view := fun a (b : Ctl) => b.slot a) elsewhere
      (fun listed => not (List.mem_filter.1 listed).2) c

/-! ### The safe status latches -/

theorem putLatch_stationSlot (s : State) (k j : Fin 32) (w : Word) :
    (s.putLatch k w).stationSlot j =
      if k = j then { s.stationSlot j with latch := some w } else s.stationSlot j := by
  split
  · next same => subst same; exact State.stationSlot_setStationSlot_same ..
  · next other => exact State.stationSlot_setStationSlot_other _ _ other

/-- R71: STALE with HUNT is the word 0. -/
theorem safeLatches_latch {s : State} {i : Fin 32} (present : (s.live.stationCfg i).present = true) :
    (s.safeLatches.stationSlot (s.live.slotOf i)).latch = some 0 := by
  refine foldl_establishes (Q := fun i (b : State) => (b.stationSlot (s.live.slotOf i)).latch = some 0)
    (fun a b => ?here) (fun a a' b latched => ?kept) _ i
    (List.mem_filter.2 ⟨List.mem_finRange i, present⟩) s
  case here => rw [putLatch_stationSlot, if_pos rfl]; rfl
  case kept =>
    rw [putLatch_stationSlot]
    split
    · rfl
    · exact latched

theorem safeLatches_staging (s : State) (j : Fin 32) :
    (s.safeLatches.stationSlot j).staging = (s.stationSlot j).staging := by
  refine foldl_keeps (Q := fun b : State => (b.stationSlot j).staging = (s.stationSlot j).staging)
    (fun b i same => ?_) _ s rfl
  rw [putLatch_stationSlot]
  split <;> exact same

theorem safeLatches_elsewhere {s : State} {j : Fin 32}
    (unnamed : ∀ i, (s.live.stationCfg i).present = true → s.live.slotOf i ≠ j) :
    s.safeLatches.stationSlot j = s.stationSlot j := by
  refine foldl_keeps_mem (Q := fun b : State => b.stationSlot j = s.stationSlot j) _
    (fun i listed b same => ?_) s rfl
  rw [putLatch_stationSlot, if_neg (unnamed i (List.mem_filter.1 listed).2)]
  exact same

/-! ### The first stage -/

section
variable {s : State}

/-- R157: one set-point word in its slot's copy. -/
def State.copied (k : Fin 24) (w : Fin 3) (s : State) : State :=
  { s with
    ctl := s.ctl.updSlot k fun x =>
      { x with
        copy := x.copy.put w (Memory.readWord s.mem (BitVec.ofNat 22 (s.commandBase k + w.val))) } }

theorem readSetPoint_eq (k : Fin 24) (w : Fin 3) (rest : List (Fin 24 × Fin 3)) :
    s.readSetPoint k w rest = (s.copied k w).beginSafing rest := rfl

theorem copied_slot_other {k j : Fin 24} (w : Fin 3) (other : j ≠ k) :
    (s.copied k w).ctl.slot j = s.ctl.slot j := Ctl.slot_updSlot_other s.ctl _ other.symm

theorem copied_copy (k : Fin 24) (w : Fin 3) : ((s.copied k w).ctl.slot k).copy =
    (s.ctl.slot k).copy.put w
      (Memory.readWord s.mem (BitVec.ofNat 22 (s.commandBase k + w.val))) :=
  congrArg CommandSlot.copy (Ctl.slot_updSlot_same ..)

theorem beginSafing_partState (reads : List (Fin 24 × Fin 3)) (s : State) :
    (s.beginSafing reads).partState = s.partState := by
  rw [beginSafing_only]

theorem beginSafing_nil_slot (s : State) (j : Fin 24) : (s.beginSafing []).ctl.slot j =
    if s.live.slotConfigured j then (s.ctl.slot j).safe else s.ctl.slot j := by
  show s.safeWrites.ctl.slot j = _
  rw [safeWrites_only]
  exact safeSlots_slot ..

theorem beginSafing_copy (reads : List (Fin 24 × Fin 3)) (s : State) (j : Fin 24) :
    ((s.beginSafing reads).ctl.slot j).copy = (s.ctl.slot j).copy := by
  cases reads with
  | nil =>
    rw [beginSafing_nil_slot]
    split <;> rfl
  | cons => rfl

/-- R157: the safe write-back record of each configured slot. -/
theorem beginSafing_nil_configured {j : Fin 24} (configured : s.live.slotConfigured j = true) :
    let x := (s.beginSafing []).ctl.slot j
    x.wb.demand = some 0 ∧ x.wb.verdict = some 0 ∧ x.wb.detail = some 0 ∧ x.lastTag = 0 := by
  intro x
  have safe : x = (s.ctl.slot j).safe := (beginSafing_nil_slot s j).trans (if_pos configured)
  rw [safe, CommandSlot.safe_eq]
  exact ⟨rfl, rfl, rfl, rfl⟩

/-- R157: the station slots of the second stage are those that the safe latches leave. -/
theorem beginSafing_nil_stationSlot (s : State) (j : Fin 32) : (s.beginSafing []).stationSlot j =
    ({ s with ctl := s.ctl.safeSlots s.live, safing := .writes } : State).safeLatches.stationSlot j := rfl

/-! ### The end of the second stage -/

theorem safingDone_iff : s.safingDone = true ↔
    s.partState = .safing ∧ s.safing = .writes ∧ s.urgent = [] ∧ s.bulk = [] ∧ s.nextSource = none := by
  simp [State.safingDone, State.unmarked, and_assoc]

/-- R157: the entry into RUN marks nothing. -/
theorem enterRun_nextSource (s : State) : s.enterRun.nextSource = s.nextSource := by
  have words (i : Fin 56) : s.enterRun.sourceWords i = s.sourceWords i :=
    sourceWords_congr (fun k _ => congrArg CommandSlot.wb (Ctl.report_slot ..)) fun _ _ => rfl
  unfold State.nextSource
  simp only [words]
  rfl

theorem exec_safingEnd (released : s.resetAsserted = false) (done : s.safingDone = true) :
    exec .safingEnd s = .next s.enterRun := by
  obtain ⟨-, -, -, -, unmarked⟩ := safingDone_iff.1 done
  have stays : s.enterRun.seek = s.enterRun := by
    unfold State.seek
    rw [enterRun_nextSource, unmarked]
  refine (event_released released).trans (congrArg _ ?_)
  rw [if_pos done, stays]

end

/-- Settles O7: the read with what it begins, and the entry into RUN. -/
theorem safingRunsItsStages : Obligations.SafingRunsItsStages := by
  unfold Obligations.SafingRunsItsStages
  refine ⟨fun s k w rest released reads idle => ?reads,
    fun s released part safing urgent bulk unmarked => ?run⟩
  case reads =>
    refine ⟨_, exec_safingSetpointRead released reads idle, ?_⟩
    rw [seek_eq, readSetPoint_eq]
    refine ⟨beginSafing_mem .., beginSafing_partState .., (beginSafing_copy ..).trans (copied_copy ..),
      ?again, ?last, ?latches, ?kept⟩
    case again => rintro k' w' rest' rfl; rfl
    case last =>
      rintro rfl
      refine ⟨beginSafing_nil_safing _, beginSafing_nil_bulk _, fun j =>
        ⟨fun configured => beginSafing_nil_configured (s := s.copied k w) configured,
          fun other not => ?_⟩⟩
      exact (beginSafing_nil_slot ..).trans
        ((if_neg (Bool.eq_false_iff.1 not)).trans (copied_slot_other w other))
    case latches =>
      rintro rfl
      exact ⟨fun i present => safeLatches_latch present,
        fun j => ⟨safeLatches_staging _ j, fun unnamed => safeLatches_elsewhere unnamed⟩⟩
    case kept =>
      rintro k' w' rest' rfl
      exact ⟨rfl, fun j other => copied_slot_other w other⟩
  case run => exact exec_safingEnd released (safingDone_iff.2 ⟨part, safing, urgent, bulk, unmarked⟩)

end Sys2Proof.Machine
end

section
/-! Proofs: O17, the records of the Journal Writer and the zero words of a new control region (R141, R142,
R144, R145, R148). -/

namespace Sys2Proof.Machine

section
variable {s : State}

/-- R145, R148: what a record needs (log 46). -/
theorem State.recordsGo_iff : s.recordsGo = true ↔ s.partState = .run ∧ s.ctl.journal.zeroDue = [] ∧
    s.unread + 2 ≤ s.regions.records ∧ s.bulk.length + 9 ≤ 16 := by
  have room := s.le_bulkFree_iff (n := 9) (by omega)
  simp [State.recordsGo, State.ringFree, State.recordRoom, room, and_assoc]

/-- R145: the head of the pending list goes out where no record is lost. -/
theorem exec_journalRecordWrite {x : JournalRecord} {rest : List JournalRecord}
    (released : s.resetAsserted = false) (go : s.recordsGo = true) (noneLost : s.ctl.journal.lost = 0)
    (head : s.ctl.journal.list = x :: rest) :
    exec .journalRecordWrite s = .next (s.writeRecord x).dropHead := by
  have written : s.writeHead = (s.writeRecord x).dropHead := by
    simp only [State.writeHead, head, noneLost, go, and_self, if_true]
  exact (quiet_released released).trans (congrArg _ written)

/-- R145: a GAP goes out in place of the head while records are lost. -/
theorem exec_gapRecordWrite (released : s.resetAsserted = false) (go : s.recordsGo = true)
    (lost : 0 < s.ctl.journal.lost) :
    exec .gapRecordWrite s = .next (s.writeRecord s.gapRecord).clearLost := by
  have written : s.writeGap = (s.writeRecord s.gapRecord).clearLost := if_pos ⟨lost, go⟩
  exact (quiet_released released).trans (congrArg _ written)

/-- R148: the zero words of the oldest region waiting. -/
theorem exec_journalControlZeroPlace {base : Nat} {rest : List Nat} (released : s.resetAsserted = false)
    (due : s.ctl.journal.zeroDue = base :: rest) (room : 2 ≤ s.bulkFree) :
    exec .journalControlZeroPlace s = .next
      (State.placeBulk
        { s with ctl := { s.ctl with journal := { s.ctl.journal with zeroDue := rest } } }
        (entriesAt base [0, 0])) := by
  refine (quiet_released released).trans (congrArg _ ?_)
  simp only [State.placeZeros, due]
  exact if_pos room

/-- R145, steps 1 to 4: the head record out of the list. -/
theorem writeRecord_dropHead {x : JournalRecord} {rest : List JournalRecord}
    (head : s.ctl.journal.list = x :: rest) :
    let j := s.ctl.journal
    let next := (j.w + 1) % s.regions.records
    (s.writeRecord x).dropHead =
      { s with
        bulk := s.bulk ++ (entriesAt (s.regions.ring + 8 * j.w) (x.words j.serial)
          ++ entriesAt s.regions.control [toWord next])
        ctl := { s.ctl with
          journal := { j with serial := j.serial + 1, w := next, list := rest } } } := by
  intro j next
  have tail : s.ctl.journal.list.tail = rest := congrArg List.tail head
  rw [← tail]
  rfl

end

/-- Settles O17: a record where its conditions hold, and the zero words where two entries are free. -/
theorem journalWritesRecords : Obligations.JournalWritesRecords := by
  unfold Obligations.JournalWritesRecords
  refine ⟨fun s released run => ?records, fun s base rest released due room => ?zeros⟩
  case records =>
    intro j n next free room noZeros
    have go : s.recordsGo = true :=
      State.recordsGo_iff.2 ⟨run, noZeros, free, Nat.add_le_add_right room 9⟩
    refine ⟨fun x rest noneLost head => ?_, exec_gapRecordWrite released go⟩
    rw [exec_journalRecordWrite released go noneLost head, writeRecord_dropHead head]
    rfl
  case zeros =>
    have two : 2 ≤ s.bulkFree := (s.le_bulkFree_iff (by omega)).2 (Nat.add_le_add_right room 2)
    exact exec_journalControlZeroPlace released due two

end Sys2Proof.Machine
end

section
/-! Proofs: O18, the groups of a publication, its period timer and the words of the mirror (R149 to R151,
section 9.6). -/

namespace Sys2Proof.Machine

/-! ### The order of the groups (R150) -/

/-- A kind of records is published in the order of its indices. -/
theorem next_in_kind {n : Nat} (group : Fin n → MirrorGroup) (last : MirrorGroup) {p q : Fin n}
    (next : q.val = p.val + 1) :
    (if h : p.val + 1 < n then some (group ⟨p.val + 1, h⟩) else some last) = some (group q) := by
  rw [dif_pos (next ▸ q.isLt)]
  exact congrArg (some ∘ group) (Fin.ext next.symm)

theorem next_isSome {g : MirrorGroup} (other : g ≠ .closing) : ∃ m, g.next = some m := by
  cases g
  case closing => exact absurd rfl other
  case opening => exact ⟨_, rfl⟩
  case header => exact ⟨_, rfl⟩
  all_goals
    simp only [MirrorGroup.next]
    split <;> exact ⟨_, rfl⟩

theorem isGeneration_false {g : MirrorGroup} (notOpening : g ≠ .opening) (notClosing : g ≠ .closing) :
    g.isGeneration = false := by
  cases g
  case opening => exact absurd rfl notOpening
  case closing => exact absurd rfl notClosing
  all_goals rfl

/-! ### A group placed (R150) -/

section
variable {s : State} {g : MirrorGroup}

theorem exec_mirrorGroupPlace (released : s.resetAsserted = false) (run : s.partState = .run)
    (cursor : s.mirror.cursor = some g) (idle : s.journalWaits = false)
    (room : (s.groupWords g).2.length ≤ s.bulkFree) :
    exec .mirrorGroupPlace s = .next (s.placeGroup g) := by
  have placed : s.publish = s.placeGroup g := by
    simp only [State.publish, cursor]
    exact if_pos ⟨run, room, idle⟩
  exact (quiet_released released).trans (congrArg _ placed)

theorem advanceCursor_of_next {m : MirrorGroup} (next : g.next = some m) :
    s.advanceCursor g = { s with mirror := { s.mirror with cursor := some m } } := by
  rw [State.advanceCursor, next]

/-- R150: a group between the opening and the closing word leaves the generation. -/
theorem placeGroup_between (notOpening : g ≠ .opening) (notClosing : g ≠ .closing) :
    s.placeGroup g = { s with
      bulk := s.bulk ++ entriesAt (s.mirror.base + (s.groupWords g).1) (s.groupWords g).2
      mirror := { s.mirror with cursor := g.next } } := by
  obtain ⟨m, next⟩ := next_isSome notClosing
  simp only [State.placeGroup, isGeneration_false notOpening notClosing]
  rw [advanceCursor_of_next next, next]
  rfl

/-- R149, R150: the closing word ends the publication, or begins the one that is due. -/
theorem placeGroup_closing : s.placeGroup .closing = { s with
    bulk := s.bulk ++ entriesAt s.mirror.base [s.mirror.generation + 1]
    mirror :=
      if s.mirror.due then
        { s.mirror with
          generation := s.mirror.generation + 1, cursor := some .opening, due := false
          base := s.regions.mirror }
      else { s.mirror with generation := s.mirror.generation + 1, cursor := none } } := by
  have advance (x : State) : x.advanceCursor .closing =
      if x.mirror.due then x.beginPublication
      else { x with mirror := { x.mirror with cursor := none } } := rfl
  simp only [State.placeGroup]
  rw [advance]
  cases due : s.mirror.due
  · exact if_neg (by simp [State.placeBulk])
  · exact if_pos (by simp [State.placeBulk])

/-! ### The period timer (R149) -/

theorem exec_mirrorPeriodExpiry {since : Clock} (released : s.resetAsserted = false)
    (timer : s.mirror.timer = some since)
    (expired : s.live.globalCfg.mirrorPeriod ≤ (s.clock - since).toNat) :
    exec .mirrorPeriodExpiry s = .next s.periodExpires := by
  have due : s.periodDue = true := by
    simp only [State.periodDue, timer]
    exact decide_eq_true expired
  exact (quiet_released released).trans (congrArg _ (if_pos due))

theorem periodExpires_idle {since : Clock} (timer : s.mirror.timer = some since)
    (cursor : s.mirror.cursor = none) : s.periodExpires = { s with
      mirror := { s.mirror with
        timer := some (since + BitVec.ofNat 32 s.live.globalCfg.mirrorPeriod)
        cursor := some .opening, due := false, base := s.regions.mirror } } := by
  simp only [State.periodExpires, timer]
  exact if_pos cursor

theorem periodExpires_publishing {since : Clock} (timer : s.mirror.timer = some since)
    (cursor : s.mirror.cursor = some g) : s.periodExpires = { s with
      mirror := { s.mirror with
        timer := some (since + BitVec.ofNat 32 s.live.globalCfg.mirrorPeriod), due := true } } := by
  simp only [State.periodExpires, timer]
  exact if_neg (by simp [cursor])

end

/-! ### The words of the records (section 9.6) -/

theorem mul_flagBit (weight : Nat) (b : Bool) : weight * flagBit b = if b then weight else 0 := by
  cases b
  · exact Nat.mul_zero weight
  · exact Nat.mul_one weight

/-- Log 36: the values of R92 with every signal UNKNOWN. -/
theorem outletWords_reset : outletWords Outlet.reset Qualifiers.reset .unknown = List.replicate 8 0 := rfl

/-- R122: PARKING, the park timer waiting for freshness. -/
theorem tipWords_reset : tipWords Tip.reset Qualifiers.reset = [3, 0, 64, 0] := rfl

section
variable (s : State)

theorem groupWords_outlet_present {n : Fin 8} (present : (s.live.outletCfg n).present = true) :
    s.groupWords (.outlet n) = (40 + 8 * n.val, outletWords (s.ctl.outlet n) (s.env.outletQual n)
      (s.env.outletQual n).flow.state.qualified) :=
  congrArg (Prod.mk _) (if_pos present)

theorem groupWords_outlet_absent {n : Fin 8} (absent : (s.live.outletCfg n).present = false) :
    s.groupWords (.outlet n) = (40 + 8 * n.val, List.replicate 8 0) :=
  congrArg (Prod.mk _) ((if_neg (Bool.eq_false_iff.1 absent)).trans outletWords_reset)

theorem groupWords_tip_present {t : Fin 12} (present : (s.live.tipCfg t).present = true) :
    s.groupWords (.tip t) = (104 + 4 * t.val, tipWords (s.ctl.tip t) (s.env.tipQual t)) :=
  congrArg (Prod.mk _) (if_pos present)

theorem groupWords_tip_absent {t : Fin 12} (absent : (s.live.tipCfg t).present = false) :
    s.groupWords (.tip t) = (104 + 4 * t.val, [3, 0, 64, 0]) :=
  congrArg (Prod.mk _) ((if_neg (Bool.eq_false_iff.1 absent)).trans tipWords_reset)

end

/-- Settles O18: the three shapes of a group placed, the order of the groups, the period timer, and the words
record by record. -/
theorem mirrorPublishes : Obligations.MirrorPublishes := by
  unfold Obligations.MirrorPublishes
  refine ⟨fun s g released run cursor idle room => ?placed, ?order,
    fun s since released timer expired => ?period, fun s => ?words⟩
  case placed =>
    intro words
    rw [exec_mirrorGroupPlace released run cursor idle room]
    refine ⟨?_, fun notOpening notClosing => ?_, ?_⟩
    · rintro rfl
      exact ⟨rfl, rfl⟩
    · rw [placeGroup_between notOpening notClosing]
    · rintro rfl
      exact ⟨rfl, congrArg _ placeGroup_closing⟩
  case order =>
    exact ⟨rfl, rfl, fun _ _ => next_in_kind .pass _, rfl, fun _ _ => next_in_kind .outlet _, rfl,
      fun _ _ => next_in_kind .tip _, rfl, fun _ _ => next_in_kind .station _, rfl, rfl⟩
  case period =>
    intro next
    rw [exec_mirrorPeriodExpiry released timer expired]
    exact ⟨fun idle => congrArg _ (periodExpires_idle timer idle),
      fun g publishing => congrArg _ (periodExpires_publishing timer publishing)⟩
  case words =>
    intro bit signals
    refine ⟨rfl, fun p => ?pass, fun n => ⟨fun present => ?outlet, groupWords_outlet_absent s⟩,
      fun x => ⟨fun present => ?tip, groupWords_tip_absent s⟩, fun i => rfl⟩
    case pass =>
      show (_, passWords _ _) = _
      simp only [passWords, passStateWord, mul_flagBit]
      rfl
    case outlet =>
      rw [groupWords_outlet_present s present, outletWords, mul_flagBit, mul_flagBit]
      rfl
    case tip =>
      rw [groupWords_tip_present s present, tipWords, mul_flagBit]
      rfl

end Sys2Proof.Machine
end

section
/-! Proofs: O49, READ_CONFIG and READ_STATUS (R151, R160 to R162, section 9.8). -/

namespace Sys2Proof.Machine

section
variable {s : State} {unit : Octet} {payload : List Octet}

/-! ### A request by its length and the part state (R162) -/

theorem exec_readConfig (takes : s.takesRequest unit payload) : exec (.readConfig unit payload) s =
    .next (s.withLength unit 2 2 payload
      (State.answerInRun unit 2 (State.answerReadConfig unit payload))) :=
  (quiet_released takes.1).trans (by rw [request_takes takes])

theorem exec_readStatus (takes : s.takesRequest unit payload) : exec (.readStatus unit payload) s =
    .next (s.withLength unit 4 2 payload
      (State.answerInRun unit 4 (State.answerReadStatus unit payload))) :=
  (quiet_released takes.1).trans (by rw [request_takes takes])

theorem withLength_other {code : Octet} {len : Nat} {f : State → State} (other : payload.length ≠ len) :
    s.withLength unit code len payload f = s.inReply [unit, code + 0x80, 5] := if_neg other

theorem withLength_inRun_busy {code : Octet} {len : Nat} {f : State → State} (length : payload.length = len)
    (part : s.partState = .starting ∨ s.partState = .safing) :
    s.withLength unit code len payload (State.answerInRun unit code f) =
      s.inReply [unit, code + 0x80, 4] := by
  rw [State.withLength, if_pos length, State.answerInRun]
  rcases part with starting | safing
  · rw [starting]; rfl
  · rw [safing]; rfl

theorem withLength_inRun_unconfigured {code : Octet} {len : Nat} {f : State → State}
    (length : payload.length = len) (part : s.partState = .unconfigured) :
    s.withLength unit code len payload (State.answerInRun unit code f) =
      s.inReply [unit, code + 0x80, 6] := by
  rw [State.withLength, if_pos length, State.answerInRun, part]
  rfl

theorem withLength_inRun {code : Octet} {len : Nat} {f : State → State} (length : payload.length = len)
    (run : s.partState = .run) :
    s.withLength unit code len payload (State.answerInRun unit code f) = f s := by
  rw [State.withLength, if_pos length, State.answerInRun, run]

/-! ### READ_CONFIG in RUN -/

theorem readConfig_named {kind : EntryKind} {i : Nat} (takes : s.takesRequest unit payload)
    (length : payload.length = 2) (run : s.partState = .run) (named : namedEntry payload = some (kind, i)) :
    exec (.readConfig unit payload) s =
      .next (s.inReply ([unit, 0x82, 0] ++ entryOctets (s.live.entry kind i) ++
        [lowOctet s.identity, highOctet s.identity])) := by
  rw [exec_readConfig takes, withLength_inRun length run, State.answerReadConfig, named, List.append_assoc]
  rfl

theorem readConfig_unnamed (takes : s.takesRequest unit payload) (length : payload.length = 2)
    (run : s.partState = .run) (unnamed : namedEntry payload = none) :
    exec (.readConfig unit payload) s = .next (s.inReply [unit, 0x82, 1]) := by
  rw [exec_readConfig takes, withLength_inRun length run, State.answerReadConfig, unnamed]
  rfl

/-! ### READ_STATUS in RUN -/

theorem readStatus_record {kind index : Octet} {words : List Word}
    (takes : s.takesRequest unit [kind, index]) (run : s.partState = .run)
    (found : s.statusWords kind index.toNat = some words) :
    exec (.readStatus unit [kind, index]) s =
      .next (s.inReply ([unit, 0x84, 0] ++ wordOctets words)) := by
  rw [exec_readStatus takes, withLength_inRun (len := 2) rfl run, State.answerReadStatus]
  rw [show s.statusWords (octetAt [kind, index] 0) (octetAt [kind, index] 1).toNat = some words from found]
  rfl

/-- An index of a request is read back as it was sent. -/
theorem toNat_index {n : Nat} (i : Fin n) (octet : n ≤ 256) : (BitVec.ofNat 8 i.val).toNat = i.val := by
  rw [BitVec.toNat_ofNat]
  exact Nat.mod_eq_of_lt (by omega)

theorem readStatus_indexed {kind : Octet} {words : List Word} {n : Nat} (i : Fin n) (octet : n ≤ 256)
    (takes : s.takesRequest unit [kind, BitVec.ofNat 8 i.val]) (run : s.partState = .run)
    (found : s.statusWords kind i.val = some words) :
    exec (.readStatus unit [kind, BitVec.ofNat 8 i.val]) s =
      .next (s.inReply ([unit, 0x84, 0] ++ wordOctets words)) :=
  readStatus_record takes run ((congrArg (State.statusWords kind · s) (toNat_index i octet)).trans found)

theorem readStatus_noRecord {kind index : Octet} (takes : s.takesRequest unit [kind, index])
    (run : s.partState = .run) (absent : s.statusWords kind index.toNat = none) :
    exec (.readStatus unit [kind, index]) s = .next (s.inReply [unit, 0x84, 1]) := by
  rw [exec_readStatus takes, withLength_inRun (len := 2) rfl run, State.answerReadStatus]
  rw [show s.statusWords (octetAt [kind, index] 0) (octetAt [kind, index] 1).toNat = none from absent]
  rfl

end

/-! ### The records by kind and index (section 9.8) -/

section
variable (s : State)

theorem statusWords_pass (p : Fin 4) : s.statusWords 1 p.val = some (s.groupWords (.pass p)).2 :=
  dif_pos p.isLt

theorem statusWords_outlet (n : Fin 8) : s.statusWords 2 n.val = some (s.groupWords (.outlet n)).2 :=
  dif_pos n.isLt

theorem statusWords_tip (t : Fin 12) : s.statusWords 3 t.val = some (s.groupWords (.tip t)).2 :=
  dif_pos t.isLt

theorem statusWords_station (i : Fin 32) : s.statusWords 4 i.val = some (stationWords (s.station i)) :=
  dif_pos i.isLt

theorem statusWords_unknownKind {kind : Octet} (i : Nat) (unknown : 5 < kind.toNat) :
    s.statusWords kind i = none := by
  unfold State.statusWords
  split
  case h_7 => rfl
  all_goals omega

theorem statusWords_outside {kind index : Octet}
    (outside : ((kind = 0 ∨ kind = 5) ∧ index ≠ 0) ∨ (kind = 1 ∧ 4 ≤ index.toNat) ∨
      (kind = 2 ∧ 8 ≤ index.toNat) ∨ (kind = 3 ∧ 12 ≤ index.toNat) ∨ (kind = 4 ∧ 32 ≤ index.toNat)) :
    s.statusWords kind index.toNat = none := by
  rcases outside with ⟨rfl | rfl, other⟩ | ⟨rfl, beyond⟩ | ⟨rfl, beyond⟩ | ⟨rfl, beyond⟩ | ⟨rfl, beyond⟩
  · exact if_neg fun zero => other (BitVec.eq_of_toNat_eq zero)
  · exact if_neg fun zero => other (BitVec.eq_of_toNat_eq zero)
  all_goals exact dif_neg (Nat.not_lt.2 beyond)

end

/-- Settles O49: the answers by length and part state, then in RUN by the entry or the record named. -/
theorem readRequestsAnswered : Obligations.ReadRequestsAnswered := by
  unfold Obligations.ReadRequestsAnswered
  intro s unit payload takes answer
  refine ⟨fun other => ?length, fun length => ⟨fun part => ?busy, fun part => ?unconfigured,
    fun run => ⟨fun kind i named => readConfig_named takes length run named,
      readConfig_unnamed takes length run, ?station, ?link, ?unknownKind, ?header, ?pass, ?outlet, ?tip,
      ?outside⟩⟩⟩
  case length =>
    rw [exec_readConfig takes, exec_readStatus takes, withLength_other other, withLength_other other]
    exact ⟨rfl, rfl⟩
  case busy =>
    rw [exec_readConfig takes, exec_readStatus takes, withLength_inRun_busy length part,
      withLength_inRun_busy length part]
    exact ⟨rfl, rfl⟩
  case unconfigured =>
    rw [exec_readConfig takes, exec_readStatus takes, withLength_inRun_unconfigured length part,
      withLength_inRun_unconfigured length part]
    exact ⟨rfl, rfl⟩
  case station =>
    rintro i rfl
    exact readStatus_indexed i (by decide) takes run (statusWords_station s i)
  case link =>
    rintro rfl
    exact readStatus_record takes run rfl
  case unknownKind =>
    obtain ⟨kind, index, rfl⟩ := List.length_eq_two.1 length
    exact fun unknown => readStatus_noRecord takes run (statusWords_unknownKind s _ unknown)
  case header =>
    rintro rfl
    exact readStatus_record takes run rfl
  case pass =>
    rintro p rfl
    exact readStatus_indexed p (by decide) takes run (statusWords_pass s p)
  case outlet =>
    rintro n rfl
    exact readStatus_indexed n (by decide) takes run (statusWords_outlet s n)
  case tip =>
    rintro x rfl
    exact readStatus_indexed x (by decide) takes run (statusWords_tip s x)
  case outside =>
    rintro kind index rfl outside
    exact readStatus_noRecord takes run (statusWords_outside s outside)

end Sys2Proof.Machine
end

section
/-! Proofs: O53, zero insertion and deletion (R159). -/

namespace Sys2Proof.Machine

/-- R159, behind `n` 1 bits: the inserted bits are deleted again, and no run of six 1 bits arises. -/
theorem zeroInsert_undone_and_ok (bits : List Bool) :
    ∀ n, n ≤ 4 → zeroDelete n (zeroInsert n bits) = bits ∧ lineBitsOk n (zeroInsert n bits) = true := by
  induction bits with
  | nil => exact fun _ _ => ⟨rfl, rfl⟩
  | cons b rest ih =>
    intro n run
    obtain ⟨undone, ok⟩ := ih 0 (Nat.zero_le 4)
    cases b with
    | false =>
      have notDeleted : n ≠ 5 := by omega
      exact ⟨by simp [zeroInsert, zeroDelete, notDeleted, undone], by simp [zeroInsert, lineBitsOk, ok]⟩
    | true =>
      by_cases fifth : n = 4
      · exact ⟨by simp [zeroInsert, zeroDelete, fifth, undone],
          by simp [zeroInsert, lineBitsOk, fifth, ok]⟩
      · obtain ⟨undone', ok'⟩ := ih (n + 1) (by omega)
        exact ⟨by simp [zeroInsert, zeroDelete, fifth, undone'],
          by simp [zeroInsert, lineBitsOk, fifth, ok']; omega⟩

/-- Settles O53: a frame's bits begin behind no 1 bit. -/
theorem zeroInsertionIsUndone : Obligations.ZeroInsertionIsUndone := by
  unfold Obligations.ZeroInsertionIsUndone
  exact fun bits => zeroInsert_undone_and_ok bits 0 (Nat.zero_le 4)

end Sys2Proof.Machine
end

section
/-! Proofs: O47, the link receiver (R159 to R161). -/

namespace Sys2Proof.Machine

/-- The octets of a run of bits, the last of them perhaps short, up to the bound. -/
theorem bitsToOctets_length (k : Nat) :
    ∀ bits : List Bool, (bitsToOctets k bits).length = min k ((bits.length + 7) / 8) := by
  induction k with
  | zero => exact fun _ => (Nat.zero_min _).symm
  | succ k ih =>
    intro bits
    by_cases none : bits = []
    · simp [bitsToOctets, none]
    · have some : 0 < bits.length := List.length_pos_iff.2 none
      rw [bitsToOctets, if_neg none, List.length_cons, ih, List.length_drop]
      omega

/-! ### The judgement of a frame (R159, R160) -/

section
variable {bits : List Bool} {k : Link}

theorem judgeFrame_empty (empty : zeroDelete 0 bits = []) : k.judgeFrame bits = k := if_pos empty

/-- R159, R160: neither whole octets nor 4 to 68 of them. -/
theorem judgeFrame_length (filled : zeroDelete 0 bits ≠ [])
    (bad : (zeroDelete 0 bits).length % 8 ≠ 0 ∨ (zeroDelete 0 bits).length < 32 ∨
      552 ≤ (zeroDelete 0 bits).length) :
    k.judgeFrame bits = { k with lengthError := k.lengthError + 1 } := by
  refine (if_neg filled).trans (if_pos ?_)
  rw [bitsToOctets_length]
  omega

theorem judgeFrame_check (long : 32 ≤ (zeroDelete 0 bits).length)
    (short : (zeroDelete 0 bits).length < 552) (whole : (zeroDelete 0 bits).length % 8 = 0)
    (wrong : crc16 (bitsToOctets 69 (zeroDelete 0 bits)) ≠ 0) :
    k.judgeFrame bits = { k with checkError := k.checkError + 1 } := by
  have filled : zeroDelete 0 bits ≠ [] := List.ne_nil_of_length_pos (by omega)
  refine (if_neg filled).trans ((if_neg ?_).trans (if_pos wrong))
  rw [bitsToOctets_length]
  omega

end

/-! ### The events of the receiver -/

section
variable {s : State}

/-- A receiver event is taken in the frame that is being received. -/
theorem inFrame_receiving (f : State → State) (receiving : s.link.rx = .inFrame) : s.inFrame f = f s :=
  if_pos receiving

theorem exec_frameDropped (bits : List Bool) (released : s.resetAsserted = false)
    (receiving : s.link.rx = .inFrame) :
    exec (.frameDropped bits) s = .next { s with link := s.link.judgeFrame bits } :=
  (quiet_released released).trans (by rw [inFrame_receiving _ receiving]; rfl)

/-- R160: a frame to be taken: for the part by its unit octet, or an IDENTIFY under unit 31. -/
theorem takes_of_unit {unit : Octet} {isIdentify : Bool} (broadcast : unit = 31 → isIdentify = true)
    (forUnit : unit ≠ 31 → s.partState = .run → unit.toNat = s.live.globalCfg.unit) :
    s.takes unit isIdentify = true := by
  unfold State.takes
  split
  · next all => exact broadcast all
  · next one =>
    by_cases run : s.partState = .run
    · simp [run, forUnit one run]
    · simp [run]

/-- R160, R161: a request to be taken is handled, or counted where a response is in transmission. -/
theorem request_taken {unit : Octet} {isIdentify : Bool} {payload : List Octet} {f : State → State}
    (receiving : s.link.rx = .inFrame) (fits : payload.length ≤ 64)
    (taken : s.takes unit isIdentify = true) :
    s.request unit isIdentify payload f =
      if s.link.tx.isSome then s.setLink fun k => { k with busy := k.busy + 1 } else f s := by
  simp [State.request, inFrame_receiving _ receiving, taken, fitsFrame, fits]

end

/-- Settles O47: each event of the receiver in its frame, the judgement by the number of bits. -/
theorem linkReceiverDropsFrames : Obligations.LinkReceiverDropsFrames := by
  unfold Obligations.LinkReceiverDropsFrames
  refine ⟨fun s bits released => ?receiver, fun s unit code payload released => ?frames⟩
  case receiver =>
    intro k data
    refine ⟨quiet_released released, fun receiving => ?_⟩
    have dropped := exec_frameDropped bits released receiving
    refine ⟨?abort, ?tooLong, fun long => ?_, fun empty => ?_, fun filled short bad => ?_,
      fun long short whole wrong => ?_⟩
    case abort => exact (quiet_released released).trans (by rw [inFrame_receiving _ receiving]; rfl)
    case tooLong => exact (quiet_released released).trans (by rw [inFrame_receiving _ receiving]; rfl)
    · have filled : zeroDelete 0 bits ≠ [] := List.ne_nil_of_length_pos (lt_of_lt_of_le (by decide) long)
      rw [dropped, judgeFrame_length filled (.inr (.inr long))]
    · rw [dropped, judgeFrame_empty empty]
    · rw [dropped, judgeFrame_length filled (bad.imp_right .inl)]
    · rw [dropped, judgeFrame_check long short whole wrong]
  case frames =>
    refine ⟨quiet_released released, fun receiving busy fits broadcast forUnit => ?_⟩
    have taken : s.takes unit (code == 1) = true :=
      takes_of_unit (fun all => by simp [broadcast all]) forUnit
    refine (quiet_released released).trans ?_
    rw [request_taken receiving fits taken, if_pos busy]
    rfl

end Sys2Proof.Machine
end

section
/-! Proofs: O48, IDENTIFY and the requests of an unknown code (R162, section 9.8). -/

namespace Sys2Proof.Machine

/-- R162: the unit octet under which the part answers an IDENTIFY. -/
def State.answeringUnit (unit : Octet) (s : State) : Octet :=
  if s.partState = .run then BitVec.ofNat 8 s.live.globalCfg.unit else unit

section
variable {s : State} {unit : Octet} {payload : List Octet}

/-- R161: a request to be taken that finds the link free. -/
theorem request_answered {isIdentify : Bool} {f : State → State} (receiving : s.link.rx = .inFrame)
    (free : s.link.tx = none) (fits : payload.length ≤ 64) (taken : s.takes unit isIdentify = true) :
    s.request unit isIdentify payload f = f s := by
  rw [request_taken receiving fits taken, free]
  rfl

theorem exec_identify (released : s.resetAsserted = false) (receiving : s.link.rx = .inFrame)
    (free : s.link.tx = none) (fits : payload.length ≤ 64) (taken : s.takes unit true = true) :
    exec (.identify unit payload) s = .next (s.withLength (s.answeringUnit unit) 1 0 payload
      (State.respond (s.answeringUnit unit) 1 .ok s.identification)) := by
  have number : s.answeringUnit unit = if s.partState = .run then s.unitNumber else unit := by
    unfold State.answeringUnit State.unitNumber
    split <;> rfl
  rw [number]
  exact (quiet_released released).trans (by rw [request_answered receiving free fits taken])

theorem exec_unknownRequest {code : Octet} (released : s.resetAsserted = false)
    (receiving : s.link.rx = .inFrame) (free : s.link.tx = none) (fits : payload.length ≤ 64)
    (taken : s.takes unit false = true) (unknown : requestUnknown code = true) :
    exec (.unknownRequest unit code payload) s = .next (s.inReply [unit, code + 0x80, 6]) := by
  refine (quiet_released released).trans ?_
  rw [if_pos unknown, request_answered receiving free fits taken]
  rfl

end

/-- Settles O48: IDENTIFY by the length of its payload, an unknown code by one answer. -/
theorem identifyAndUnknownAnswered : Obligations.IdentifyAndUnknownAnswered := by
  unfold Obligations.IdentifyAndUnknownAnswered
  intro s unit code payload released receiving free fits forUnit number u answer
  have identify := exec_identify released receiving free fits (takes_of_unit (fun _ => rfl) forUnit)
  refine ⟨fun empty => ?_, fun filled => ?_, fun one unknown => ?_⟩
  · rw [identify, State.withLength, if_pos (by simp [empty])]
    rfl
  · rw [identify, withLength_other (by simpa using filled)]
    rfl
  · exact exec_unknownRequest released receiving free fits
      (takes_of_unit (fun all => absurd all one) forUnit) (by simpa [requestUnknown] using unknown)

end Sys2Proof.Machine
end

section
/-! Proofs: O55, the live table (R152, R155, R156, R158, R163). -/

namespace Sys2Proof.Machine

/-- What a command makes of the live table: a reset clears it, a good image or an accepted WRITE_CONFIG puts
one there that passes the load checks (R156, R158, R163), and nothing else changes it. -/
inductive TableChange : Instr → Live → Live → Prop
  | same (c : Instr) (l : Live) : TableChange c l l
  | cleared {c : Instr} (l : Live) (reset : c = .fullReset ∨ c = .fullResetEnd ∨ c = .responseEnd) :
      TableChange c l Live.reset
  | loaded {image : List Octet} (l : Live) (sound : (imageLive image).failure = none) :
      TableChange (.configLoadComplete (some image)) l (imageLive image)
  | written (unit : Octet) (payload : List Octet) (l : Live) {new : Live} (sound : new.failure = none) :
      TableChange (.writeConfig unit payload) l new

theorem TableChange.of_eq {c : Instr} {l new : Live} (h : new = l) : TableChange c l new := h ▸ .same c l

/-! ### The operations that leave the table -/

/-- The invariant of the members that asks nothing: what it carries from state to state is the table. -/
theorem memberInvariant_true : MemberInvariant fun _ _ _ => True where
  closed _ _ := ⟨fun _ _ _ _ _ _ => trivial, fun _ _ _ _ _ => trivial, fun _ _ _ _ _ => trivial,
    fun _ _ _ _ _ => trivial⟩
  owing _ _ := trivial
  enters _ _ _ _ := trivial
  hung _ _ _ _ := trivial
  lockedOut _ _ := trivial

section
variable {s : State}

theorem respond_live (unit code : Octet) (status : Status) (payload : List Octet) (s : State) :
    (s.respond unit code status payload).live = s.live := rfl

theorem answerReadConfig_live (unit : Octet) (payload : List Octet) :
    (s.answerReadConfig unit payload).live = s.live := by
  unfold State.answerReadConfig
  split <;> exact respond_live ..

theorem answerReadStatus_live (unit : Octet) (payload : List Octet) :
    (s.answerReadStatus unit payload).live = s.live := by
  unfold State.answerReadStatus
  split <;> exact respond_live ..

theorem answerClearCounters_live (unit : Octet) (payload : List Octet) :
    (s.answerClearCounters unit payload).live = s.live := by
  have cleared (which : Nat) : (s.clearStations which).live = s.live := by
    unfold State.clearStations
    rfl
  unfold State.answerClearCounters
  extract_lets which
  split
  · rfl
  · exact (respond_live ..).trans (cleared which)

theorem acceptReload_live (unit : Octet) : (s.acceptReload unit).live = s.live := by
  unfold State.acceptReload
  rw [refuseHeldWrite_only]
  rfl

theorem answerReload_live (unit : Octet) : (s.answerReload unit).live = s.live := by
  unfold State.answerReload
  split
  · split
    · exact acceptReload_live unit
    · rfl
  · rfl
  · rfl
  · exact acceptReload_live unit

/-! ### The operations that change it -/

theorem goodLoad_live (image : List Octet) : (s.goodLoad image).live = imageLive image := by
  rw [goodLoad_eq, beginSafing_only]
  rfl

/-- R154: a good image has passed the checks of the table. -/
theorem failure_of_imageFailure {image : List Octet} (good : imageFailure image = none) :
    (imageLive image).failure = none := by
  unfold imageFailure at good
  split at good
  · cases good
  split at good
  · cases good
  split at good
  · cases good
  · exact good

theorem completeLoad_table (image : Option (List Octet)) :
    TableChange (.configLoadComplete image) s.live (s.completeLoad image).live := by
  cases image with
  | none => exact .same _ _
  | some image =>
    by_cases length : image.length = 1834
    · cases checked : imageFailure image with
      | some f => rw [completeLoad_bad length checked]; exact .same _ _
      | none =>
        rw [completeLoad_good length checked, goodLoad_live]
        exact .loaded _ (failure_of_imageFailure checked)
    · exact .of_eq (by simp [State.completeLoad, length])

theorem applyConfig_live (kind : EntryKind) (i : Nat) (entry : RawEntry) (identity : Word) :
    (s.applyConfig kind i entry identity).live = s.live.replace kind i entry := by
  have only := applyConfig_only kind i entry identity s
  unfold EntryOnly at only
  rw [only]

/-- R163: a change is refused, or its table has passed the checks. -/
theorem changeEntry_live (unit : Octet) (kind : EntryKind) (i : Nat) (entry : RawEntry)
    (identity : Word) : (s.changeEntry unit kind i entry identity).live = s.live ∨
      (s.changeEntry unit kind i entry identity).live.failure = none := by
  unfold State.changeEntry
  extract_lets new
  split
  · exact .inl rfl
  split
  · exact .inl rfl
  split
  · exact .inl rfl
  split
  · exact .inl rfl
  · next sound => exact .inr ((congrArg Live.failure (applyConfig_live kind i entry identity)).trans sound)

theorem answerWriteConfig_table (unit : Octet) (payload : List Octet) :
    TableChange (.writeConfig unit payload) s.live (s.answerWriteConfig unit payload).live := by
  unfold State.answerWriteConfig
  split
  · exact .same _ _
  · exact (changeEntry_live ..).elim .of_eq (.written unit payload _)

theorem fullReset_table : TableChange .fullReset s.live s.fullReset.live := by
  unfold State.fullReset
  split
  · exact .same _ _
  · exact .cleared _ (.inl rfl)

theorem fullResetEnd_table : TableChange .fullResetEnd s.live s.fullResetEnd.live := by
  unfold State.fullResetEnd
  split
  · exact .cleared _ (.inr (.inl rfl))
  · exact .same _ _

theorem endResponse_table : TableChange .responseEnd s.live s.endResponse.live := by
  unfold State.endResponse
  split
  · exact .same _ _
  · split
    · exact .cleared _ (.inr (.inr rfl))
    · exact .same _ _

/-! ### Through the shape of a command -/

variable {t : State} {c : Instr} {f : State → State}

theorem TableChange.of_quiet (ht : quiet f s = .next t) (hf : TableChange c s.live (f s).live) :
    TableChange c s.live t.live := by
  unfold quiet at ht
  split at ht <;> cases ht
  · exact .same _ _
  · exact hf

theorem TableChange.of_event (ht : event f s = .next t) (hf : TableChange c s.live (f s).live) :
    TableChange c s.live t.live :=
  .of_quiet ht (by rw [seek_live]; exact hf)

theorem TableChange.of_onCtl {g : Env → Ctl → Ctl} (ht : event (State.onCtl g) s = .next t) :
    TableChange c s.live t.live := .of_event ht (.same _ _)

theorem TableChange.ite {p : Prop} [Decidable p] {a b : State} (ha : p → TableChange c s.live a.live)
    (hb : TableChange c s.live b.live) : TableChange c s.live (if p then a else b).live := by
  split
  · next holds => exact ha holds
  · exact hb

theorem TableChange.present (hf : TableChange c s.live (f s).live) :
    TableChange c s.live (s.present f).live := .ite (fun _ => .same _ _) hf

theorem TableChange.inRun (hf : TableChange c s.live (f s).live) :
    TableChange c s.live (s.inRun f).live := .ite (fun _ => hf) (.same _ _)

theorem TableChange.of_commit {k : Fin 24} {code tag : Octet} (ht : commitWrite k code tag s = .next t) :
    TableChange c s.live t.live :=
  .of_event ht (.present (.inRun (.of_eq (memberInvariant_true.demandWrite ..).live)))

theorem TableChange.inFrame (hf : TableChange c s.live (f s).live) :
    TableChange c s.live (s.inFrame f).live := .ite (fun _ => hf) (.same _ _)

theorem TableChange.request (unit : Octet) (isIdentify : Bool) (payload : List Octet)
    (hf : TableChange c s.live (f s).live) :
    TableChange c s.live (s.request unit isIdentify payload f).live :=
  .inFrame (.ite (fun _ => .ite (fun _ => .same _ _) hf) (.same _ _))

theorem TableChange.withLength (unit code : Octet) (len : Nat) (payload : List Octet)
    (hf : TableChange c s.live (f s).live) :
    TableChange c s.live (s.withLength unit code len payload f).live := .ite (fun _ => hf) (.same _ _)

theorem TableChange.answerInRun (unit code : Octet) (hf : TableChange c s.live (f s).live) :
    TableChange c s.live (s.answerInRun unit code f).live := by
  unfold State.answerInRun
  split
  · exact hf
  all_goals exact .same _ _

/-- R162: a request that RUN alone answers, of the length that it has. -/
theorem TableChange.of_requestInRun {unit code : Octet} {len : Nat} {payload : List Octet}
    (ht : quiet (State.request unit false payload
      (State.withLength unit code len payload (State.answerInRun unit code f))) s = .next t)
    (hf : (f s).live = s.live) : TableChange c s.live t.live :=
  .of_quiet ht (.request _ _ _ (.withLength _ _ _ _ (.answerInRun _ _ (.of_eq hf))))

end

/-! ### Every command -/

theorem exec_table {c : Instr} {s t : State} (ht : exec c s = .next t) :
    TableChange c s.live t.live := by
  have carried := memberInvariant_true
  cases c
  all_goals dsimp only [exec] at ht
  case fullReset => cases ht; exact fullReset_table
  case fullResetEnd => cases ht; exact fullResetEnd_table
  case configLoadComplete image =>
    exact .of_event ht (.ite (fun _ => completeLoad_table image) (.same _ _))
  case writeConfig unit payload =>
    exact .of_event ht (.request _ _ _ (.withLength _ _ _ _ (.answerInRun _ _
      (answerWriteConfig_table unit payload))))
  case responseEnd => exact .of_quiet ht endResponse_table
  case msTick | frameIgnored | frameOpeningDelimiter => exact .of_quiet ht (.same _ _)
  case safingSetpointRead =>
    refine .of_event ht ?_
    split
    · split
      · exact .same _ _
      · exact .of_eq (carried.readSetPoint ..).live
    all_goals exact .same _ _
  case safingEnd => exact .of_event ht (.ite (fun _ => .same _ _) (.same _ _))
  case upstreamRead => exact .of_quiet ht (.present (.same _ _))
  case passThroughWrite | refusedWrite =>
    exact .of_quiet ht (.present (.ite (fun _ => .same _ _) (.same _ _)))
  case stationPayloadWrite | setpointWrite => exact .of_quiet ht (.present (.inRun (.same _ _)))
  case readIndexWrite =>
    exact .of_quiet ht (.present (.inRun (.ite (fun _ => .same _ _) (.same _ _))))
  case closingWordWrite =>
    exact .of_event ht (.present (.inRun (.of_eq (carried.closingWrite ..).live)))
  case commitBadCode k code tag =>
    unfold execCommitBadCode at ht
    split at ht
    · exact .of_commit ht
    · cases ht; exact .same _ _
  case close | draw | adjust | stopAfter | forceClose | withdraw | permit | boomWork | boomPark | lockout
    | run | releaseHangup | declareWet | clearWet | emptyOut | rebaseFromLevel | setInventory =>
    exact .of_commit ht
  case arbiterGrant => exact .of_event ht (.of_eq (carried.grant s).live)
  case drainerPlaceGroup => exact .of_event ht (.of_eq (carried.drain s).live)
  case journalRecordWrite => exact .of_quiet ht (.of_eq (carried.writeHead s).live)
  case gapRecordWrite => exact .of_quiet ht (.of_eq (carried.writeGap s).live)
  case journalControlZeroPlace => exact .of_quiet ht (.of_eq (carried.placeZeros s).live)
  case mirrorGroupPlace =>
    exact .of_quiet ht (.of_eq (Carries.publish (P := fun _ _ _ => True) s).live)
  case mirrorPeriodExpiry =>
    exact .of_quiet ht (.ite (fun _ => .of_eq (Carries.periodExpires (P := fun _ _ _ => True) s).live)
      (.same _ _))
  case lateTimerExpiry =>
    exact .of_event ht (.ite (fun _ => .of_eq (carried.lateExpires ..).live) (.same _ _))
  case dropoutExpiry =>
    exact .of_event ht (.ite (fun _ => .of_eq (carried.dropoutExpires ..).live) (.same _ _))
  case dwellIntervalExpiry | disagreementExpiry | chuteNoFlowReport | deferralExpiry | openTimeout
    | flowStartTimeout | cycleDrawTimeout | indexTimeout | closeTimeout | parkTimeout =>
    exact .of_onCtl ht
  case frameAbort | frameDropped | frameDroppedAt69thOctet => exact .of_quiet ht (.inFrame (.same _ _))
  case frameDroppedBusy => exact .of_quiet ht (.request _ _ _ (.same _ _))
  case unknownRequest =>
    exact .of_quiet ht (.ite (fun _ => .request _ _ _ (.same _ _)) (.same _ _))
  case identify => exact .of_quiet ht (.request _ _ _ (.withLength _ _ _ _ (.same _ _)))
  case readConfig => exact .of_requestInRun ht (answerReadConfig_live ..)
  case readStatus => exact .of_requestInRun ht (answerReadStatus_live ..)
  case clearCounters => exact .of_requestInRun ht (answerClearCounters_live ..)
  case reload =>
    exact .of_quiet ht (.request _ _ _ (.withLength _ _ _ _ (.of_eq (answerReload_live _))))

/-! ### The obligation -/

/-- R155: a table cleared or checked names LEVEL stations. -/
theorem TableChange.levelsNamed {c : Instr} {l new : Live} (change : TableChange c l new)
    (named : l.LevelsNamed) : new.LevelsNamed := by
  cases change with
  | same => exact named
  | cleared => exact levelsNamed_reset
  | loaded _ sound => exact levelsNamed_of_failure sound
  | written _ _ _ sound => exact levelsNamed_of_failure sound

/-- Settles O55: by the ways in which a command changes the table. -/
theorem configurationChangesOnlyByLoadWriteOrReset :
    Obligations.ConfigurationChangesOnlyByLoadWriteOrReset := by
  unfold Obligations.ConfigurationChangesOnlyByLoadWriteOrReset
  refine ⟨fun c s t ht differs => ?changes, fun s t named ht => ?keeps⟩
  case changes =>
    have change := exec_table ht
    generalize s.live = l, t.live = new at change differs
    cases change with
    | same => exact absurd rfl differs
    | cleared _ reset =>
      rcases reset with rfl | rfl | rfl
      · exact .inl rfl
      · exact .inr (.inl rfl)
      · exact .inr (.inr (.inl rfl))
    | @loaded image _ _ => exact .inr (.inr (.inr (.inl ⟨some image, rfl⟩)))
    | written unit payload _ _ => exact .inr (.inr (.inr (.inr ⟨unit, payload, rfl⟩)))
  case keeps =>
    unfold step at ht
    split at ht
    · cases ht; exact named
    · exact (exec_table ht).levelsNamed named

end Sys2Proof.Machine
end

section
/-! Proofs: the load checks read as conditions (R154, R155, R168). -/

namespace Sys2Proof.Machine

/-! ### The conditions of an entry -/

/-- A check of an entry that counts only while the entry is present. -/
theorem unlessPresent_iff {present check : Bool} :
    (!present || check) = true ↔ (present = true → check = true) := by
  cases present <;> simp

theorem within_iff {lo hi v : Nat} : within lo hi v = true ↔ lo ≤ v ∧ v ≤ hi := by simp [within]

/-- R155: the station named is present and of the kind. -/
theorem stationIs_iff (l : Live) (i : Nat) (kind : StationKind) :
    l.stationIs i kind = true ↔
      ∃ j : Fin 32, j.val = i ∧ (l.stationCfg j).present = true ∧ (l.stationCfg j).kind = some kind := by
  unfold Live.stationIs
  constructor
  · intro named
    split at named
    · next h => exact ⟨⟨i, h⟩, rfl, by simpa using named⟩
    · cases named
  · rintro ⟨j, rfl, present, isKind⟩
    simp [present, isKind]

theorem marksOk_iff (k : PassCfg) : k.marksOk = true ↔ (k.present = true → k.cushionMark < k.highMark ∧
    k.highMark < k.fullMark ∧ k.fullMark ≤ k.capacity ∧ k.releaseMark < k.fullMark) := by
  simp only [PassCfg.marksOk, unlessPresent_iff, Bool.and_eq_true, decide_eq_true_eq, and_assoc]

/-! ### The references (R155) -/

/-- No other present member of the kind has the same value in a field that is to be unique. -/
theorem distinct_iff {n : Nat} {α : Type} [DecidableEq α] (present : Fin n → Bool) (value : Fin n → α)
    (i : Fin n) :
    ((List.finRange n).all fun j => j == i || !present j || value j != value i) = true ↔
      ∀ j, j ≠ i → present j = true → value j ≠ value i := by
  simp only [List.all_eq_true, List.mem_finRange, true_implies]
  refine forall_congr' fun j => ?_
  cases present j with
  | false => simp
  | true => simp [or_iff_not_imp_left]

/-- Every present member of a list of bits names the pass. -/
theorem listed_iff {n : Nat} (listed present : Fin n → Bool) (pass : Fin n → Fin 4) (p : Fin 4) :
    ((List.finRange n).all fun j => !listed j || !present j || pass j == p) = true ↔
      ∀ j, listed j = true → present j = true → pass j = p := by
  simp only [List.all_eq_true, List.mem_finRange, true_implies]
  refine forall_congr' fun j => ?_
  cases present j with
  | false => simp
  | true => simp [or_iff_not_imp_left]

section
variable (l : Live)

theorem passRefsOk_iff (p : Fin 4) : l.passRefsOk p = true ↔ ((l.passCfg p).present = true →
    l.stationIs (l.passCfg p).levelStation .level = true ∧
    (∀ q, q ≠ p → (l.passCfg q).present = true →
      (l.passCfg q).levelStation ≠ (l.passCfg p).levelStation) ∧
    bitCount (l.passCfg p).outletList ≤ 3 ∧ bitCount (l.passCfg p).tipList ≤ 4 ∧
    (∀ n : Fin 8, (l.passCfg p).outletList.getLsbD n.val = true → (l.outletCfg n).present = true →
      (l.outletCfg n).pass = p) ∧
    (∀ t : Fin 12, (l.passCfg p).tipList.getLsbD t.val = true → (l.tipCfg t).present = true →
      (l.tipCfg t).pass = p)) := by
  simp only [Live.passRefsOk, unlessPresent_iff, Bool.and_eq_true, decide_eq_true_eq, and_assoc,
    distinct_iff (fun q => (l.passCfg q).present) (fun q => (l.passCfg q).levelStation),
    listed_iff (fun n : Fin 8 => (l.passCfg p).outletList.getLsbD n.val),
    listed_iff (fun t : Fin 12 => (l.passCfg p).tipList.getLsbD t.val)]

theorem outletRefsOk_iff (n : Fin 8) : l.outletRefsOk n = true ↔ ((l.outletCfg n).present = true →
    (l.passCfg (l.outletCfg n).pass).present = true ∧
    l.stationIs (l.outletCfg n).station .outlet = true ∧
    (l.passCfg (l.outletCfg n).pass).outletList.getLsbD n.val = true ∧
    ∀ m, m ≠ n → (l.outletCfg m).present = true →
      (l.outletCfg m).station ≠ (l.outletCfg n).station) := by
  simp only [Live.outletRefsOk, unlessPresent_iff, Bool.and_eq_true, and_assoc,
    distinct_iff (fun m => (l.outletCfg m).present) (fun m => (l.outletCfg m).station)]

theorem tipRefsOk_iff (t : Fin 12) : l.tipRefsOk t = true ↔ ((l.tipCfg t).present = true →
    (l.passCfg (l.tipCfg t).pass).present = true ∧ l.stationIs (l.tipCfg t).station .tip = true ∧
    (l.passCfg (l.tipCfg t).pass).tipList.getLsbD t.val = true ∧
    (∀ u, u ≠ t → (l.tipCfg u).present = true → (l.tipCfg u).station ≠ (l.tipCfg t).station) ∧
    bitCount (l.tipCfg t).fallSet ≤ 3 ∧ (l.tipCfg t).fallSet.getLsbD t.val = false ∧
    (∀ u : Fin 12, (l.tipCfg t).fallSet.getLsbD u.val = true → (l.tipCfg u).present = true →
      (l.tipCfg u).pass = (l.tipCfg t).pass)) := by
  simp only [Live.tipRefsOk, unlessPresent_iff, Bool.and_eq_true, decide_eq_true_eq, Bool.not_eq_true',
    and_assoc, distinct_iff (fun u => (l.tipCfg u).present) (fun u => (l.tipCfg u).station),
    listed_iff (fun u : Fin 12 => (l.tipCfg t).fallSet.getLsbD u.val)]

theorem stationRefsOk_iff (i : Fin 32) : l.stationRefsOk i = true ↔ ((l.stationCfg i).present = true →
    ∀ j, j ≠ i → (l.stationCfg j).present = true → (l.stationCfg j).slot ≠ (l.stationCfg i).slot) := by
  simp only [Live.stationRefsOk, unlessPresent_iff,
    distinct_iff (fun j => (l.stationCfg j).present) (fun j => (l.stationCfg j).slot)]

end

/-! ### The regions (R155) -/

/-- The five regions by their number: base and length. -/
def GlobalCfg.area (g : GlobalCfg) (i : Fin 5) : Nat × Nat :=
  #v[(g.stationBase, 384), (g.commandBase, 144), (g.controlBase, 2), (g.ringBase, 8 * g.journalSize),
    (g.mirrorBase, 408)].get i

theorem areas_eq_ofFn (g : GlobalCfg) : g.areas = List.ofFn g.area := rfl

theorem regionFits_iff (base len : Nat) :
    regionFits base len = true ↔ base % 16 = 0 ∧ base ≤ 4194303 ∧ base + len ≤ 4194304 := by
  simp [regionFits, and_assoc]

/-- Two regions are apart just when no word lies in both. -/
theorem apart_iff (x y : Nat × Nat) : apart x y = true ↔
    ∀ w, ¬(x.1 ≤ w ∧ w < x.1 + x.2 ∧ y.1 ≤ w ∧ w < y.1 + y.2) := by
  simp only [apart, Bool.or_eq_true, beq_iff_eq, decide_eq_true_eq]
  constructor
  · intro _ w
    omega
  · intro noWord
    have atFirst := noWord x.1
    have atSecond := noWord y.1
    omega

theorem regionsOk_iff (g : GlobalCfg) : g.regionsOk = true ↔
    (∀ i, (g.area i).1 % 16 = 0 ∧ (g.area i).1 ≤ 4194303 ∧ (g.area i).1 + (g.area i).2 ≤ 4194304) ∧
    ∀ i j, i ≠ j → ∀ w, ¬((g.area i).1 ≤ w ∧ w < (g.area i).1 + (g.area i).2 ∧
      (g.area j).1 ≤ w ∧ w < (g.area j).1 + (g.area j).2) := by
  have fit : g.areas.all (fun x => regionFits x.1 x.2) = true ↔
      ∀ i, (g.area i).1 % 16 = 0 ∧ (g.area i).1 ≤ 4194303 ∧ (g.area i).1 + (g.area i).2 ≤ 4194304 := by
    simp only [areas_eq_ofFn, List.all_eq_true, List.forall_mem_ofFn_iff, regionFits_iff]
  have share : (g.areas.Pairwise fun x y => apart x y = true) ↔
      ∀ i j, i ≠ j → ∀ w, ¬((g.area i).1 ≤ w ∧ w < (g.area i).1 + (g.area i).2 ∧
        (g.area j).1 ≤ w ∧ w < (g.area j).1 + (g.area j).2) := by
    simp only [areas_eq_ofFn, List.pairwise_ofFn, apart_iff]
    refine ⟨fun ordered i j differ w => ?_, fun all i j less => all i j less.ne⟩
    rcases lt_or_gt_of_ne differ with less | greater
    · exact ordered less w
    · exact fun both => ordered greater w (by tauto)
  rw [GlobalCfg.regionsOk, Bool.and_eq_true, decide_eq_true_eq, fit, share]

/-! ### The ranges (R168) -/

theorem globalRangesOk_iff (g : GlobalCfg) : g.rangesOk = true ↔ g.unit ≤ 30 ∧
    (64 ≤ g.journalSize ∧ g.journalSize ≤ 4096) ∧ (50 ≤ g.mirrorPeriod ∧ g.mirrorPeriod ≤ 5000) ∧
    g.outletLimit ≤ 10000 ∧ g.tipLimit ≤ 10000 := by
  simp [GlobalCfg.rangesOk, within_iff, and_assoc]

theorem passRangesOk_iff (k : PassCfg) : k.rangesOk = true ↔ (k.present = true →
    (100 ≤ k.capacity ∧ k.capacity ≤ 60000) ∧ (1 ≤ k.emptyDistance ∧ k.emptyDistance ≤ 65535) ∧
    (1 ≤ k.dtPerCm ∧ k.dtPerCm ≤ 65535) ∧ (1 ≤ k.holdTime ∧ k.holdTime ≤ 600) ∧
    (1 ≤ k.threshold ∧ k.threshold ≤ 65535) ∧ (1 ≤ k.fallStep ∧ k.fallStep ≤ 65535) ∧
    (60 ≤ k.wetDwell ∧ k.wetDwell ≤ 65535) ∧ (1 ≤ k.openingCode ∧ k.openingCode ≤ 10) ∧
    (1 ≤ k.targetCode ∧ k.targetCode ≤ 250) ∧ (1 ≤ k.loosening ∧ k.loosening ≤ 65535)) := by
  simp only [PassCfg.rangesOk, unlessPresent_iff, Bool.and_eq_true, within_iff, and_assoc]

theorem outletRangesOk_iff (k : OutletCfg) : k.rangesOk = true ↔ (k.present = true →
    k.lead ≤ 500 ∧ (1000 ≤ k.openTimeout ∧ k.openTimeout ≤ 60000) ∧
    (1000 ≤ k.closeTimeout ∧ k.closeTimeout ≤ 60000) ∧
    (500 ≤ k.flowStartTimeout ∧ k.flowStartTimeout ≤ 30000) ∧
    (5 ≤ k.cycleDrawTimeout ∧ k.cycleDrawTimeout ≤ 600) ∧
    (5 ≤ k.indexTimeout ∧ k.indexTimeout ≤ 1800)) := by
  simp only [OutletCfg.rangesOk, unlessPresent_iff, Bool.and_eq_true, within_iff, Nat.zero_le, true_and,
    and_assoc]

theorem tipRangesOk_iff (k : TipCfg) : k.rangesOk = true ↔ (k.present = true →
    (1 ≤ k.maxJump ∧ k.maxJump ≤ 16) ∧ (1 ≤ k.parkTimeout ∧ k.parkTimeout ≤ 120)) := by
  simp only [TipCfg.rangesOk, unlessPresent_iff, Bool.and_eq_true, within_iff]

/-- R168: the fields of the other kinds are not looked at. -/
theorem stationRangesOk_iff (k : StationCfg) : k.rangesOk = true ↔ (k.present = true →
    k.slot ≤ 31 ∧ (20 ≤ k.lateLimit ∧ k.lateLimit ≤ 5000) ∧ k.kind ≠ none ∧
    (k.kind = some .tip → 1 ≤ k.depth ∧ k.depth ≤ 4) ∧
    (k.kind = some .outlet → (1 ≤ k.depth ∧ k.depth ≤ 4) ∧ (1 ≤ k.onThreshold ∧ k.onThreshold ≤ 255) ∧
      k.offThreshold ≤ 254 ∧ k.offThreshold < k.onThreshold ∧ k.minOn ≤ 10000 ∧ k.dropout ≤ 10000) ∧
    (k.kind = some .level → (1 ≤ k.poorLimit ∧ k.poorLimit ≤ 32) ∧
      (1 ≤ k.interval ∧ k.interval ≤ 16) ∧ (1 ≤ k.shift ∧ k.shift ≤ 6) ∧
      (1 ≤ k.validity ∧ k.validity ≤ 64) ∧ k.dryThreshold ≤ k.wetThreshold ∧
      (1 ≤ k.moistureCount ∧ k.moistureCount ≤ 16))) := by
  rw [StationCfg.rangesOk, unlessPresent_iff]
  refine imp_congr_right fun _ => ?_
  cases k.kind with
  | none => simp
  | some kind =>
    cases kind <;> simp [within_iff, and_assoc]

end Sys2Proof.Machine
end

section
/-! Proofs: O6, the load checks in their order (R154, R155). -/

namespace Sys2Proof.Machine

/-! ### The entry that a failure is reported at (log 22) -/

theorem failAt_of_firstBad {n : Nat} {ok : Fin n → Bool} {i : Fin n} (code : LoadCode)
    (kind : EntryKind) (bad : firstBad ok i) : failAt code kind ok = some (code, some (kind, i.val)) := by
  have found : (List.finRange n).find? (fun i => !ok i) = some i := by
    refine List.find?_eq_some_iff_getElem.2 ⟨by simp [bad.1], i.val, by simp, by simp, fun j less => ?_⟩
    simpa using bad.2 ⟨j, less.trans i.isLt⟩ less
  rw [failAt, found]
  rfl

/-- A check ahead of the others: its first bad entry is reported, and where it has none the others are made. -/
theorem checkedFirst {n : Nat} {ok : Fin n → Bool} {code : LoadCode} {kind : EntryKind}
    {found rest : Option Failure} {Next : Prop} (order : found = (failAt code kind ok).or rest)
    (next : found = rest → Next) :
    (∀ i, firstBad ok i → found = some (code, some (kind, i.val))) ∧ ((∀ i, ok i = true) → Next) := by
  refine ⟨fun i bad => ?_, fun good => next ?_⟩
  · rw [order, failAt_of_firstBad code kind bad, Option.some_or]
  · rw [order, failAt_eq_none.2 good, Option.none_or]

/-- `checkedFirst` of the one global entry. -/
theorem globalCheckedFirst {ok : Bool} {code : LoadCode} {found rest : Option Failure} {Next : Prop}
    (order : found = (failAt (n := 1) code .global fun _ => ok).or rest) (next : found = rest → Next) :
    (ok = false → found = some (code, some (.global, 0))) ∧ (ok = true → Next) := by
  obtain ⟨reported, passed⟩ := checkedFirst order next
  exact ⟨fun bad => reported 0 ⟨bad, fun j less => absurd less (Nat.not_lt_zero _)⟩,
    fun good => passed fun _ => good⟩

/-! ### The checks of an image -/

section
variable {image : List Octet}

/-- R154: the checks of the form of an image come before those of its entries. -/
theorem imageFailure_of_form (length : payloadWord image 2 = 1834)
    (check : natToOctets 4 (crc32 (image.take 1830)).toNat = image.drop 1830)
    (format : payloadWord image 0 = 1) : imageFailure image = (imageLive image).failure := by
  rw [imageFailure, if_neg (not_not.2 length), if_neg (not_not.2 check), if_neg (not_not.2 format)]

/-- R154, R155: the checks 6 to 8, one kind of entry after the other. -/
theorem failure_of_regions {l : Live} (present : l.globalCfg.present = true)
    (regions : l.globalCfg.regionsOk = true) : l.failure =
      (failAt .badReference .pass l.passRefsOk).or ((failAt .badReference .outlet l.outletRefsOk).or
        ((failAt .badReference .tipPoint l.tipRefsOk).or ((failAt .badReference .station l.stationRefsOk).or
          ((failAt .badMarks .pass fun p => (l.passCfg p).marksOk).or
            ((failAt (n := 1) .badRange .global fun _ => l.globalCfg.rangesOk).or
              ((failAt .badRange .pass fun p => (l.passCfg p).rangesOk).or
                ((failAt .badRange .outlet fun n => (l.outletCfg n).rangesOk).or
                  ((failAt .badRange .tipPoint fun t => (l.tipCfg t).rangesOk).or
                    ((failAt .badRange .station fun i => (l.stationCfg i).rangesOk).or
                      none))))))))) := by
  simp only [Live.failure, present, regions, Bool.true_eq_false, if_false, Live.refsFailure,
    Live.rangeFailure, Option.or_assoc, Option.or_none]

/-- An image in which no check fails has a global entry, regions and marks in order. -/
theorem failure_none {l : Live} (sound : l.failure = none) : l.globalCfg.present = true ∧
    l.globalCfg.regionsOk = true ∧ ∀ p, (l.passCfg p).marksOk = true := by
  by_cases present : l.globalCfg.present = true
  · by_cases regions : l.globalCfg.regionsOk = true
    · rw [failure_of_regions present regions] at sound
      simp only [Option.or_eq_none_iff] at sound
      obtain ⟨_, _, _, _, marks, _⟩ := sound
      exact ⟨present, regions, failAt_eq_none.1 marks⟩
    · simp [Live.failure, present, regions] at sound
  · simp [Live.failure, present] at sound

end

/-- The marks as O6 writes them. -/
theorem marksOk_eq_decide (k : PassCfg) : k.marksOk = decide (k.present = true →
    k.cushionMark < k.highMark ∧ k.highMark < k.fullMark ∧ k.fullMark ≤ k.capacity ∧
      k.releaseMark < k.fullMark) := by
  rw [Bool.eq_iff_iff, marksOk_iff, decide_eq_true_eq]

/-- Settles O6: the form of the image check by check, the entries kind by kind, and what each check asks. -/
theorem loadChecksInOrder : Obligations.LoadChecksInOrder := by
  unfold Obligations.LoadChecksInOrder
  refine ⟨fun image => ?form, fun image => ?entries, fun l => ?references, regionsOk_iff,
    fun g p n t x => ⟨globalRangesOk_iff g, passRangesOk_iff p, outletRangesOk_iff n, tipRangesOk_iff t,
      stationRangesOk_iff x⟩⟩
  case form =>
    intro g
    refine ⟨fun length => if_pos length, fun length => ⟨fun check => ?check, fun check =>
      ⟨fun format => ?format, fun format => ?table⟩⟩⟩
    case check => rw [imageFailure, if_neg (not_not.2 length), if_pos check]
    case format => rw [imageFailure, if_neg (not_not.2 length), if_neg (not_not.2 check), if_pos format]
    case table =>
      rw [imageFailure_of_form length check format]
      refine ⟨fun absent => if_pos absent, fun present bad => ?regions, fun sound => ?sound⟩
      case regions =>
        have isPresent : (imageLive image).globalCfg.present = true := present
        exact (if_neg (by simp [isPresent])).trans (if_pos bad)
      case sound =>
        obtain ⟨present, regions, marks⟩ := failure_none sound
        exact ⟨present, regions, fun p => (marksOk_iff _).1 (marks p)⟩
  case entries =>
    intro l marksOk fails length check format present regions
    have order := (imageFailure_of_form length check format).trans (failure_of_regions present regions)
    simp only [marksOk_eq_decide] at order
    -- pass, outlet, tip-point and station references; the marks; the ranges, the global entry's first
    exact checkedFirst order fun order => checkedFirst order fun order => checkedFirst order fun order =>
      checkedFirst order fun order => checkedFirst order fun order => globalCheckedFirst order fun order =>
      checkedFirst order fun order => checkedFirst order fun order => checkedFirst order fun order =>
      checkedFirst order id
  case references =>
    intro named
    simp only [named, ← stationIs_iff]
    exact ⟨passRefsOk_iff l, outletRefsOk_iff l, tipRefsOk_iff l, stationRefsOk_iff l⟩

end Sys2Proof.Machine
end

section
/-! Proofs: O26, an order code outside the list of its slot's kind (R167). -/

namespace Sys2Proof.Machine

/-- R96, R126, R22: the owner of every slot kind judges the code before anything else, and a refusal moves
nothing that the other members of the pass read. -/
theorem judgeCommit_badCode {e : Env} {k : Fin 24} {cm : Commit} (bad : orderCodeBad k cm.code = true)
    (c : Ctl) : judgeCommit e k cm c = c.refuse k cm.tag .badCode := by
  unfold orderCodeBad at bad
  cases owner : ownerOf k with
  | outlet n =>
    obtain rfl := outletSlot_of_owner owner
    rw [owner, decide_eq_true_eq] at bad
    rw [judgeCommit_outletSlot]
    exact commitOutlet_of_slot (if_pos bad) rfl rfl
  | tip n =>
    obtain rfl := tipSlot_of_owner owner
    rw [owner, decide_eq_true_eq] at bad
    have judged : judgeTip e n cm c = c.refuse (tipSlot n) cm.tag .badCode := if_pos bad
    rw [judgeCommit_tipSlot, commitTip, judged]
    exact if_pos rfl
  | pass p =>
    obtain rfl := passSlot_of_owner owner
    rw [owner, decide_eq_true_eq] at bad
    rw [judgeCommit_passSlot]
    exact if_pos bad

/-- R167: a COMMIT_BAD_CODE that finds room is refused, after what it superseded. -/
theorem exec_commitBadCode_refused {s : State} {k : Fin 24} {code tag : Octet} (takes : s.takesCommits)
    (bad : orderCodeBad k code = true) :
    ∃ t, exec (.commitBadCode k code tag) s = .next t ∧ s.refusedWith t k tag .badCode := by
  have ran : exec (.commitBadCode k code tag) s = commitWrite k code tag s := if_pos bad
  have judged : judgeCommit s.env k (s.commitOf k code tag) (s.freshCtl k) =
      (s.freshCtl k).refuse k tag .badCode := by
    rw [judgeCommit_badCode (by rwa [commitOf_code]), commitOf_tag]
  rw [ran]
  exact commitWrite_refused takes judged

/-- Settles O26: the list of the slot's kind, kind by kind, is the one that the commit is judged by. -/
theorem badCodesAreRefused : Obligations.BadCodesAreRefused := by
  unfold Obligations.BadCodesAreRefused
  intro s k code tag takes outside
  refine exec_commitBadCode_refused takes ?_
  unfold orderCodeBad
  cases owner : ownerOf k with
  | outlet | tip | pass =>
    rw [owner] at outside
    exact decide_eq_true outside

end Sys2Proof.Machine
end

section
/-! Proofs: O39, what a commit can reach of the passes, outlets and tip points (section 2.4, section 1.9). -/

namespace Sys2Proof.Machine

/-! ### The reach of a change -/

/-- The passes, outlets and tip points that a change is allowed to touch. -/
structure Reach where
  passes : Fin 4 → Prop
  outlets : Fin 8 → Prop
  tips : Fin 12 → Prop

/-- From `c` to `d` the passes, outlets and tip points outside the reach keep their values. -/
structure Within (a : Reach) (c d : Ctl) : Prop where
  passes : ∀ p, ¬a.passes p → d.pass p = c.pass p
  outlets : ∀ n, ¬a.outlets n → d.outlet n = c.outlet n
  tips : ∀ t, ¬a.tips t → d.tip t = c.tip t

/-- An outlet is in reach, and the pass that its work reads and writes with it. -/
structure Reach.HasOutlet (a : Reach) (l : Live) (n : Fin 8) : Prop where
  outlet : a.outlets n
  pass : a.passes (l.outletCfg n).pass

/-- A pass is in reach with every outlet of it. -/
structure Reach.HasOutletsOf (a : Reach) (l : Live) (p : Fin 4) : Prop where
  pass : a.passes p
  outlets : ∀ n ∈ l.outletsOf p, a.outlets n

/-- A pass is in reach with every member of it. -/
structure Reach.HasPass (a : Reach) (l : Live) (p : Fin 4) : Prop extends a.HasOutletsOf l p where
  tips : ∀ t ∈ l.tipsOf p, a.tips t

theorem Reach.HasOutletsOf.outlet {a : Reach} {l : Live} {p : Fin 4} (has : a.HasOutletsOf l p)
    {n : Fin 8} (hn : n ∈ l.outletsOf p) : a.HasOutlet l n where
  outlet := has.outlets n hn
  pass := by rw [(mem_outletsOf.1 hn).2]; exact has.pass

section
variable {a : Reach} {c d x : Ctl}

theorem Within.refl : Within a c c := ⟨fun _ _ => rfl, fun _ _ => rfl, fun _ _ => rfl⟩

theorem Within.trans (h : Within a c d) (g : Within a d x) : Within a c x :=
  ⟨fun p hp => (g.passes p hp).trans (h.passes p hp), fun n hn => (g.outlets n hn).trans (h.outlets n hn),
    fun t ht => (g.tips t ht).trans (h.tips t ht)⟩

/-- Slots, journal and the count of fresh orders are in every reach. -/
theorem Within.of_members (h : Within a c d) (passes : x.passes = d.passes)
    (outlets : x.outlets = d.outlets) (tips : x.tips = d.tips) : Within a c x :=
  h.trans ⟨fun p _ => Ctl.pass_congr passes p, fun n _ => Ctl.outlet_congr outlets n,
    fun t _ => Ctl.tip_congr tips t⟩

theorem Within.updSlot (h : Within a c d) (k : Fin 24) (f : CommandSlot → CommandSlot) :
    Within a c (d.updSlot k f) := h.of_members rfl rfl rfl

theorem Within.report (h : Within a c d) (e : Env) (kd : RecordKind) (j w y z g : Nat) :
    Within a c (d.report e kd j w y z g) := h.of_members (by simp) (by simp) (by simp)

theorem Within.setPass (h : Within a c d) {p : Fin 4} (hp : a.passes p) (r : Pass) :
    Within a c (d.setPass p r) :=
  h.trans ⟨fun _ hq => Ctl.pass_setPass_other d r fun same => hq (same ▸ hp), fun _ _ => rfl,
    fun _ _ => rfl⟩

theorem Within.setOutlet (h : Within a c d) {n : Fin 8} (hn : a.outlets n) (o : Outlet) :
    Within a c (d.setOutlet n o) :=
  h.trans ⟨fun _ _ => rfl, fun _ hm => Ctl.outlet_setOutlet_other d o fun same => hm (same ▸ hn),
    fun _ _ => rfl⟩

theorem Within.ite {q : Prop} [Decidable q] {y : Ctl} (hx : Within a c x) (hy : Within a c y) :
    Within a c (if q then x else y) := by split <;> assumption

/-- A change of one pass record is in the reach of its pass. -/
theorem Within.of_atPass (h : Within a c d) {p : Fin 4} (hp : a.passes p) (g : AtPass p d x) :
    Within a c x :=
  h.trans ⟨fun q hq => g.others q fun same => hq (same ▸ hp), fun n _ => Ctl.outlet_congr g.outlets n,
    fun t _ => Ctl.tip_congr g.tips t⟩

/-- A change at one tip point is in its reach. -/
theorem Within.of_atTip (h : Within a c d) {t : Fin 12} (ht : a.tips t) (g : AtTip t d x) :
    Within a c x :=
  h.trans ⟨fun p _ => Ctl.pass_congr g.passes p, fun n _ => Ctl.outlet_congr g.outlets n,
    fun u hu => g.tips u fun same => hu (same ▸ ht)⟩

/-! ### The answers to a commit, in any slot -/

variable (h : Within a c d) {k : Fin 24} {e : Env}
include h

theorem Within.refuse (tag : Octet) (r : Reason) : Within a c (d.refuse k tag r) := h.updSlot ..

theorem Within.accept (sp : SetPoints) (code tag : Octet) (v : Verdict) (detail : Octet) :
    Within a c (d.accept k sp code tag v detail) := h.updSlot ..

theorem Within.defer (cm : Commit) (r : Reason) (limit : Nat) :
    Within a c (d.defer e k cm r limit) := .ite (h.refuse ..) (h.updSlot ..)

theorem Within.keepDeferred (held : Deferred) (r : Reason) : Within a c (d.keepDeferred k held r) :=
  .ite h (h.updSlot ..)

end

/-! ### The work of one outlet -/

section
variable {a : Reach} {e : Env} {n : Fin 8} {c d : Ctl} (has : a.HasOutlet e.live n) (h : Within a c d)
include has h

theorem Within.flowLeft : Within a c (flowLeft e (e.outletCfg n).pass d) :=
  .ite h (h.setPass has.pass _)

theorem Within.stopOutlet (r : EndReason) : Within a c (stopOutlet e n r d) := by
  simp only [Machine.stopOutlet]
  have stopped (o : Outlet) : Within a c (d.setOutlet n o) := h.setOutlet has.outlet o
  have closed (o : Outlet) (code : Octet) (q : Prop) [Decidable q] : Within a c
      (if q then (d.setOutlet n o).ownDemand (outletSlot n) code else d.setOutlet n o) :=
    .ite ((stopped o).updSlot ..) (stopped o)
  exact .ite (.ite (.flowLeft has (closed ..)) (closed ..)) h

theorem Within.endOrder (r : EndReason) : Within a c (endOrder e n r d) :=
  (h.setOutlet has.outlet _).report ..

theorem Within.executeDraw (cm : Commit) : Within a c (executeDraw e n cm d) := by
  have granted : Within a c (takeGrant (e.outletCfg n).pass d).1 := by
    simp only [takeGrant]
    split
    · exact h.setPass has.pass _
    · exact h
  exact (granted.setOutlet has.outlet _).accept ..

theorem Within.rejudgeDraw : Within a c (rejudgeDraw e n d) := by
  unfold Machine.rejudgeDraw
  cases (d.slot (outletSlot n)).holder with
  | none => exact h
  | some held =>
    dsimp only
    cases drawCheck e n held.commit d with
    | pass => exact .executeDraw has (h.updSlot ..) _
    | refuse => exact Within.refuse (h.updSlot ..) ..
    | transient => exact h.keepDeferred ..

theorem Within.cycleStart : Within a c (cycleStart e n d) := by
  have begun : Within a c (beginCycle e n d) := by
    unfold beginCycle
    exact (h.setOutlet has.outlet _).updSlot ..
  exact .ite (h.endOrder has _) (.ite (h.endOrder has _) (.ite (h.endOrder has _)
    (.ite (h.setOutlet has.outlet _) begun)))

theorem Within.visitOutlet : Within a c (visitOutlet e d n) :=
  .ite (h.cycleStart has) (h.rejudgeDraw has)

/-! ### The orders on an outlet slot (R97, R109 to R113) -/

theorem Within.judgeDraw (cm : Commit) : Within a c (judgeDraw e n cm d) := by
  unfold Machine.judgeDraw
  cases drawCheck e n cm d with
  | pass => exact h.executeDraw has cm
  | refuse => exact h.refuse ..
  | transient => exact h.defer ..

theorem Within.judgeAdjust (cm : Commit) : Within a c (judgeAdjust e n cm d) :=
  .ite (h.refuse ..) (.ite (h.refuse ..) ((h.setOutlet has.outlet _).accept ..))

theorem Within.judgeStopAfter (tag : Octet) : Within a c (judgeStopAfter e n tag d) := by
  simp only [Machine.judgeStopAfter]
  cases (d.outlet n).state with
  | opening | flowing | closing => exact (h.setOutlet has.outlet _).accept ..
  | indexing => exact (h.endOrder has _).accept ..
  | idle | stopping | fault => exact h.refuse ..

theorem Within.judgeClose (tag : Octet) : Within a c (judgeClose e n tag d) := by
  simp only [Machine.judgeClose]
  cases (d.outlet n).state with
  | idle | stopping => exact h.accept ..
  | opening | flowing => exact (h.stopOutlet has _).accept ..
  | closing => exact (h.setOutlet has.outlet _).accept ..
  | indexing => exact (h.endOrder has _).accept ..
  | fault => exact .ite ((h.setOutlet has.outlet _).accept ..) (h.refuse ..)

theorem Within.judgeForceClose (tag : Octet) : Within a c (judgeForceClose e n tag d) := by
  simp only [Machine.judgeForceClose]
  cases (d.outlet n).state with
  | idle | stopping => exact h.accept ..
  | opening | flowing | closing | indexing => exact (h.stopOutlet has _).accept ..
  | fault => exact .ite ((h.setOutlet has.outlet _).accept ..) (h.accept ..)

theorem Within.judgeOutlet (cm : Commit) : Within a c (judgeOutlet e n cm d) :=
  .ite (h.refuse ..) (.ite (h.judgeForceClose has _) (.ite (h.refuse ..) (.ite (h.judgeClose has _)
    (.ite (h.judgeDraw has _) (.ite (h.judgeAdjust has _) (h.judgeStopAfter has _))))))

end

/-! ### The work of one tip point -/

section
variable {e : Env} {t : Fin 12} {c : Ctl}

theorem AtTip.accept {d : Ctl} (h : AtTip t c d) (sp : SetPoints) (code tag : Octet) (v : Verdict)
    (detail : Octet) : AtTip t c (d.accept (tipSlot t) sp code tag v detail) := by
  unfold Ctl.accept
  exact h.updSlot _

theorem judgeWithdraw_atTip (tag : Octet) : AtTip t c (judgeWithdraw t tag c) :=
  .ite ((AtTip.refl.setTip _).accept ..) (AtTip.refl.accept ..)

theorem judgePermit_atTip (cm : Commit) : AtTip t c (judgePermit e t cm c) := by
  unfold judgePermit
  cases permitCheck e t c with
  | pass => exact (AtTip.refl.setTip _).accept ..
  | refuse => exact AtTip.refl.updSlot _
  | transient => exact .ite (AtTip.refl.updSlot _) (AtTip.refl.updSlot _)

theorem judgeBoomWork_atTip (tag : Octet) : AtTip t c (judgeBoomWork e t tag c) := by
  have refused (r : Reason) : AtTip t c (c.refuse (tipSlot t) tag r) := AtTip.refl.updSlot _
  exact .ite (refused _) (.ite (refused _) (.ite (AtTip.refl.accept ..) (.ite (refused _)
    (.ite (refused _) (.ite (refused _) ((AtTip.refl.setTip _).accept ..))))))

theorem judgeBoomPark_atTip (tag : Octet) : AtTip t c (judgeBoomPark e t tag c) :=
  .ite ((AtTip.refl.setTip _).accept ..) (AtTip.refl.accept ..)

/-- R126: the judgement of a commit on a tip-point slot stays at the tip point. -/
theorem judgeTip_atTip (cm : Commit) : AtTip t c (judgeTip e t cm c) := by
  have refused (r : Reason) : AtTip t c (c.refuse (tipSlot t) cm.tag r) := AtTip.refl.updSlot _
  exact .ite (refused _) (.ite (refused _) (.ite (refused _) (.ite (judgeWithdraw_atTip _)
    (.ite (judgePermit_atTip _) (.ite (judgeBoomWork_atTip _) (judgeBoomPark_atTip _))))))

end

/-! ### Pass events at the members -/

section
variable {a : Reach} {e : Env} {p : Fin 4} {c d : Ctl} (h : Within a c d)
include h

theorem Within.settleOutlets (has : a.HasOutletsOf e.live p) : Within a c (settleOutlets e p d) := by
  set ns := (e.live.outletsOf p).filter d.waits with waiting
  have visits (b : Ctl) (hb : Within a c b) :
      Within a c ((takingOrder d ns).foldl (Machine.visitOutlet e) b) :=
    foldl_keeps_mem _ (fun n hn _ hx =>
      hx.visitOutlet (has.outlet (List.mem_filter.1 (mem_takingOrder.1 hn)).1)) b hb
  have drawn : Within a c (drawOrder d ns) := .ite (h.of_members rfl rfl rfl) h
  exact visits _ (visits _ drawn)

theorem Within.settleTips (has : ∀ t ∈ e.live.tipsOf p, a.tips t) : Within a c (settleTips e p d) :=
  foldl_keeps_mem _ (fun t ht _ hx => hx.of_atTip (has t ht) AtTip.refl.rejudgePermit) _ h

variable (has : a.HasPass e.live p)
include has

theorem Within.stopOutlets (r : EndReason) : Within a c (stopOutlets e p r d) :=
  foldl_keeps_mem _ (fun _ hn _ hx => hx.stopOutlet (has.outlet hn) r) _ h

theorem Within.stopForCushion : Within a c (stopForCushion e p d) :=
  foldl_keeps_mem _ (fun _ hn _ hx => .ite (hx.stopOutlet (has.outlet hn) _) hx) _ h

theorem Within.closeTips : Within a c (closeTips e p d) :=
  foldl_keeps_mem _ (fun t ht _ hx => hx.of_atTip (has.tips t ht) AtTip.refl.withdrawTip) _ h

theorem Within.parkTips : Within a c (parkTips e p d) :=
  foldl_keeps_mem _ (fun t ht _ hx => hx.of_atTip (has.tips t ht) AtTip.refl.parkTip) _ h

theorem Within.deliver (news : News) : Within a c (deliver e p news d) := by
  have full := keeps_ite (b := news.full) (h.closeTips has) h
  have cushion := keeps_ite (b := news.cushion) (full.stopForCushion has) full
  have hangup := keeps_ite (b := news.hangup) ((cushion.stopOutlets has .hangup).closeTips has) cushion
  have lockout := keeps_ite (b := news.lockout)
    (((hangup.stopOutlets has .lockout).closeTips has).parkTips has) hangup
  exact keeps_ite (b := news.touched)
    ((lockout.settleOutlets has.toHasOutletsOf).settleTips has.tips) lockout

/-- A change of the pass record, with what its news bring about at the members. -/
theorem Within.withNews {f : Ctl → Ctl × News} (hf : AtPass p d (f d).1) :
    Within a c (withNews e p f d) := (h.of_atPass has.pass hf).deliver has _

end

/-! ### The orders on a pass slot (R23 to R27) -/

section
variable {e : Env} {p : Fin 4} {c : Ctl}

theorem enterLockout_atPass : AtPass p c (enterLockout e p c).1 := (AtPass.setPass _).trans (.report ..)

theorem enterRunning_atPass : AtPass p c (enterRunning e p c).1 := (AtPass.setPass _).trans (.report ..)

theorem activationTest_atPass : AtPass p c (activationTest e p c).1 := by
  simp only [activationTest]
  split
  · exact (AtPass.setPass _).trans (.report ..)
  · exact .refl

theorem wetTests_atPass : AtPass p c (wetTests e p c).1 :=
  activationTest_atPass.trans (endingTest_atPass ..)

theorem rebase_atPass (cause value : Nat) : AtPass p c (rebase e p cause value c).1 :=
  ((AtPass.setPass _).trans (.report ..)).trans (recomputeFrom_atPass ..)

end

section
variable {a : Reach} {e : Env} {p : Fin 4} {c d : Ctl} (h : Within a c d) (has : a.HasPass e.live p)
  (cm : Commit)
include h has

theorem Within.judgeLockout : Within a c (judgeLockout e p cm d) :=
  .ite (h.accept ..) ((h.withNews has enterLockout_atPass).accept ..)

theorem Within.judgeRun : Within a c (judgeRun e p cm d) := by
  unfold Machine.judgeRun
  cases (d.pass p).state with
  | lockout => exact (h.withNews has enterRunning_atPass).accept ..
  | running => exact h.accept ..
  | hangup => exact h.refuse ..

theorem Within.judgeReleaseHangup : Within a c (judgeReleaseHangup e p cm d) := by
  unfold Machine.judgeReleaseHangup
  cases (d.pass p).state with
  | hangup => exact (h.withNews has enterRunning_atPass).accept ..
  | lockout | running => exact h.refuse ..

theorem Within.judgeWet (wet : Bool) : Within a c (judgeWet e p wet cm d) :=
  .ite (h.accept ..) ((h.withNews has ((AtPass.setPass _).trans wetTests_atPass)).accept ..)

theorem Within.judgeEmptyOut : Within a c (judgeEmptyOut e p cm d) :=
  .ite (h.refuse ..) (.ite (h.accept ..) ((h.withNews has (AtPass.setPass _)).accept ..))

theorem Within.judgeRebase : Within a c (judgeRebase e p cm d) := by
  rw [judgeRebase_eq]
  exact .ite ((h.withNews has (rebase_atPass ..)).accept ..) (h.refuse ..)

theorem Within.judgeSetInventory : Within a c (judgeSetInventory e p cm d) := by
  rw [judgeSetInventory_eq]
  exact .ite (h.refuse ..) ((h.withNews has (rebase_atPass ..)).accept ..)

theorem Within.judgePass : Within a c (judgePass e p cm d) :=
  .ite (h.refuse ..) (.ite (h.refuse ..) (.ite (h.refuse ..) (.ite (h.judgeLockout has cm)
    (.ite (h.judgeRun has cm) (.ite (h.judgeReleaseHangup has cm) (.ite (h.judgeWet has cm _)
      (.ite (h.judgeWet has cm _) (.ite (h.judgeEmptyOut has cm) (.ite (h.judgeRebase has cm)
        (h.judgeSetInventory has cm))))))))))

end

/-! ### A commit at its owner (R41) -/

/-- What a commit on the slot of this owner can reach: an outlet with its pass and the outlets of it, a tip
point with the tip points of its pass, a pass with its members. -/
def Live.commitReach (l : Live) : Owner → Reach
  | .outlet n =>
    { passes := fun p => p = (l.outletCfg n).pass
      outlets := fun m => m = n ∨ m ∈ l.outletsOf (l.outletCfg n).pass
      tips := fun _ => False }
  | .tip n =>
    { passes := fun _ => False
      outlets := fun _ => False
      tips := fun x => x = n ∨ x ∈ l.tipsOf (l.tipCfg n).pass }
  | .pass p =>
    { passes := fun q => q = p
      outlets := fun m => m ∈ l.outletsOf p
      tips := fun x => x ∈ l.tipsOf p }

/-- The judgement of a commit stays in the reach of the owner of its slot. -/
theorem judgeCommit_within (e : Env) (k : Fin 24) (cm : Commit) (c : Ctl) :
    Within (e.live.commitReach (ownerOf k)) c (judgeCommit e k cm c) := by
  unfold judgeCommit
  cases ownerOf k with
  | outlet n =>
    have judged := Within.judgeOutlet (a := e.live.commitReach (.outlet n)) (e := e)
      ⟨.inl rfl, rfl⟩ (.refl (c := c)) cm
    exact .ite judged (judged.settleOutlets ⟨rfl, fun _ => .inr⟩)
  | tip n =>
    have judged : Within (e.live.commitReach (.tip n)) c (judgeTip e n cm c) :=
      Within.refl.of_atTip (.inl rfl) (judgeTip_atTip cm)
    exact .ite judged (judged.settleTips fun _ => .inr)
  | pass p => exact Within.refl.judgePass ⟨⟨rfl, fun _ => id⟩, fun _ => id⟩ cm

/-! ### A commit on the part -/

/-- From `s` to `t` only what a commit on the slot `k` can touch differs. -/
structure CommitLeaves (k : Fin 24) (s t : State) : Prop where
  rest : t = { s with
    port := t.port, busReady := t.busReady, urgent := t.urgent, ctl := t.ctl, drainer := t.drainer }
  within : Within (s.live.commitReach (ownerOf k)) s.ctl t.ctl

section
variable {k : Fin 24} {s t u : State}

theorem CommitLeaves.refl (s : State) : CommitLeaves k s s := ⟨rfl, .refl⟩

theorem CommitLeaves.trans (h : CommitLeaves k s t) (g : CommitLeaves k t u) : CommitLeaves k s u where
  rest := by rw [g.rest, h.rest]
  within := by
    have live : t.live = s.live := by rw [h.rest]
    exact h.within.trans (live ▸ g.within)

theorem CommitLeaves.ite {q : Prop} [Decidable q] (ht : CommitLeaves k s t) (hu : CommitLeaves k s u) :
    CommitLeaves k s (if q then t else u) := by split <;> assumption

theorem CommitLeaves.seek (s : State) : CommitLeaves k s s.seek where
  rest := by rw [seek_eq]
  within := by rw [seek_ctl]; exact .refl

theorem CommitLeaves.ready (s : State) : CommitLeaves k s s.ready := ⟨rfl, .refl⟩

theorem CommitLeaves.hold (s : State) (x : Txn) : CommitLeaves k s (s.hold x) := ⟨rfl, .refl⟩

/-- R47: what is placed of a record is its marks alone. -/
theorem Within.placeSlot {a : Reach} {c : Ctl} {s : State} (h : Within a c s.ctl) (k : Fin 24) :
    Within a c (s.placeSlot k).ctl := by
  simp only [State.placeSlot]
  split
  · exact h.of_members rfl rfl rfl
  · exact h

/-- R41: the taking of a demand word, from the clearing of the staging to the drain. -/
theorem CommitLeaves.takeCommit (d : Word) (s : State) : CommitLeaves k s (s.takeCommit k d) where
  rest := by rw [takeCommit_only]
  within := by
    have fresh : Within (s.live.commitReach (ownerOf k)) s.ctl (s.freshCtl k) :=
      Within.refl.of_members rfl rfl rfl
    simp only [State.takeCommit, supersede_clearStaged]
    refine Within.placeSlot ?_ k
    exact fresh.trans (judgeCommit_within s.env k _ _)

/-- R41: a demand word, taken or stretched. -/
theorem CommitLeaves.demandWrite (d : Word) (s : State) : CommitLeaves k s (s.demandWrite k d) := by
  set held := s.hold (s.demandTxn k d) with stretched
  have write : s.demandWrite k d =
      if held.urgentFree < 12 then held else (held.takeCommit k d).ready := rfl
  rw [write]
  have holds : CommitLeaves k s held := .hold s _
  exact .ite holds (holds.trans (.trans (.takeCommit d held) (.ready _)))

/-- A commit is an event with its demand word, or no event at all (log 1). -/
theorem CommitLeaves.of_exec {c : Instr} (slot : commitSlot c = some k) (ran : exec c s = .next t) :
    CommitLeaves k s t := by
  obtain ⟨d, word⟩ := commitWord_of_commitSlot (by rw [slot]; rfl)
  by_cases unlisted : ∀ j code tag, c = .commitBadCode j code tag → orderCodeBad j code = true
  · rw [exec_commit slot word unlisted] at ran
    unfold event quiet at ran
    split at ran <;> cases ran
    · exact .refl s
    · exact .trans (.ite (.refl s) (.ite (.demandWrite d s) (.ready s))) (.seek _)
  · push Not at unlisted
    obtain ⟨j, code, tag, rfl, listed⟩ := unlisted
    have idle : exec (.commitBadCode j code tag) s = .next s := if_neg listed
    rw [idle] at ran
    cases ran
    exact .refl s

end

/-- Settles O39: a commit stays in the reach of its slot's owner, kind by kind. -/
theorem commitFrame : Obligations.CommitFrame := by
  unfold Obligations.CommitFrame
  intro c k s t slot ran
  obtain ⟨rest, within⟩ := CommitLeaves.of_exec slot ran
  refine ⟨rest, ?_⟩
  cases owner : ownerOf k with
  | outlet n =>
    rw [owner] at within
    exact ⟨fun x => within.tips x id, within.passes,
      fun m other outside => within.outlets m fun reached => reached.elim other outside⟩
  | tip n =>
    rw [owner] at within
    exact ⟨fun m => within.outlets m id, fun p => within.passes p id,
      fun x other outside => within.tips x fun reached => reached.elim other outside⟩
  | pass p =>
    rw [owner] at within
    exact ⟨within.passes, within.outlets, within.tips⟩

end Sys2Proof.Machine
end

section
/-! Proofs: O1, O2 and O46, the shape of a step and of an event. -/

namespace Sys2Proof.Machine

/-! ### The events of the controllers (section 1.9, section 2.5) -/

/-- Log 5, log 26: an event of the controllers ends in a seek, or finds the reset input asserted. -/
theorem event_onCtl_only {f : Env → Ctl → Ctl} {s t : State}
    (ran : event (State.onCtl f) s = .next t) : t = { s with ctl := t.ctl, drainer := t.drainer } := by
  unfold event quiet at ran
  split at ran <;> cases ran
  · rfl
  · dsimp only
    rw [seek_eq]
    rfl

/-- Settles O46: each of these commands is an event of the controllers. -/
theorem controllerEventFrame : Obligations.ControllerEventFrame := by
  unfold Obligations.ControllerEventFrame
  intro c s t isEvent ran
  cases c
  case dwellIntervalExpiry | disagreementExpiry | chuteNoFlowReport | deferralExpiry | openTimeout
    | flowStartTimeout | cycleDrawTimeout | indexTimeout | closeTimeout | parkTimeout =>
    exact event_onCtl_only ran
  all_goals exact nomatch isEvent

/-! ### The waiting queue (log 2) -/

/-- The commands that wait are the same in both states. -/
def SameWaiting (s t : State) : Prop := t.pending = s.pending

section
variable {s t u : State}

theorem SameWaiting.refl (s : State) : SameWaiting s s := rfl

theorem SameWaiting.trans (h : SameWaiting s t) (g : SameWaiting t u) : SameWaiting s u :=
  Eq.trans g h

theorem SameWaiting.ite {q : Prop} [Decidable q] (ht : SameWaiting s t) (hu : SameWaiting s u) :
    SameWaiting s (if q then t else u) := by split <;> assumption

theorem RecordOnly.sameWaiting (only : RecordOnly s t) : SameWaiting s t := by
  unfold RecordOnly at only
  rw [only]
  rfl

theorem TakenOnly.sameWaiting (only : TakenOnly s t) : SameWaiting s t := by
  unfold TakenOnly at only
  rw [only]
  rfl

theorem EntryOnly.sameWaiting (only : EntryOnly s t) : SameWaiting s t := by
  unfold EntryOnly at only
  rw [only]
  rfl

theorem seek_sameWaiting (s : State) : SameWaiting s s.seek := by
  rw [seek_eq]
  rfl

end

/-! ### What each block leaves of the waiting queue -/

section
variable {s : State}

theorem completeHeld_sameWaiting : SameWaiting s s.completeHeld := by
  rw [completeHeld_only]
  rfl

theorem fullReset_sameWaiting : SameWaiting s s.fullReset := .ite rfl completeHeld_sameWaiting

theorem fullResetEnd_sameWaiting : SameWaiting s s.fullResetEnd := .ite rfl rfl

theorem endResponse_sameWaiting : SameWaiting s s.endResponse := by
  unfold State.endResponse
  split
  · rfl
  · refine .ite ?_ rfl
    rw [reloadEffect_eq]
    rfl

theorem beginSafing_sameWaiting (reads : List (Fin 24 × Fin 3)) :
    SameWaiting s (s.beginSafing reads) := by
  rw [beginSafing_only]
  rfl

theorem readSetPoint_sameWaiting (k : Fin 24) (w : Fin 3) (rest : List (Fin 24 × Fin 3)) :
    SameWaiting s (s.readSetPoint k w rest) := beginSafing_sameWaiting rest

theorem completeLoad_sameWaiting (image : Option (List Octet)) :
    SameWaiting s (s.completeLoad image) := by
  unfold State.completeLoad
  split
  · rfl
  · next octets =>
    refine .ite ?_ rfl
    split
    · rfl
    · rw [goodLoad_eq]
      exact .trans (t := s.loadedTable octets) rfl (beginSafing_sameWaiting _)

theorem performUpstream_sameWaiting : SameWaiting s s.performUpstream := by
  unfold State.performUpstream
  split
  · rfl
  · split <;> rfl

theorem performUrgent_sameWaiting : SameWaiting s s.performUrgent := by
  unfold State.performUrgent
  split
  · rfl
  · next g rest _ =>
    exact .trans (t := { s with urgent := rest, mem := Memory.writeEntries g s.mem }) rfl
      (takeStretched_only _).sameWaiting

theorem performBulk_sameWaiting : SameWaiting s s.performBulk := by
  unfold State.performBulk
  split <;> rfl

theorem grant_sameWaiting : SameWaiting s s.grant := by
  have counted (g : Grant) : SameWaiting s (s.countGrant g) := rfl
  unfold State.grant
  split
  · exact .ite performUpstream_sameWaiting (readSetPoint_sameWaiting ..)
  all_goals
    split
    · exact (counted _).trans performUpstream_sameWaiting
    · exact (counted _).trans performUrgent_sameWaiting
    · exact (counted _).trans performBulk_sameWaiting
    · rfl

theorem closingWrite_sameWaiting (k : Fin 32) (v : Word) : SameWaiting s (s.closingWrite k v) :=
  .trans (t := s.hold (s.closingTxn k v)) rfl (takeStretched_only _).sameWaiting

theorem demandWrite_sameWaiting (k : Fin 24) (v : Word) : SameWaiting s (s.demandWrite k v) :=
  .trans (t := s.hold (s.demandTxn k v)) rfl (takeStretched_only _).sameWaiting

theorem drain_sameWaiting : SameWaiting s s.drain := by
  rw [drain_only]
  rfl

theorem writeHead_sameWaiting : SameWaiting s s.writeHead := by
  unfold State.writeHead
  split
  · rfl
  · exact .ite rfl rfl

theorem placeZeros_sameWaiting : SameWaiting s s.placeZeros := by
  unfold State.placeZeros
  split
  · rfl
  · exact .ite rfl rfl

theorem publish_sameWaiting : SameWaiting s s.publish := by
  unfold State.publish
  split
  · rfl
  · refine .ite ?_ rfl
    rw [placeGroup_only]
    rfl

theorem periodExpires_sameWaiting : SameWaiting s s.periodExpires := by
  unfold State.periodExpires
  split
  · rfl
  · exact .ite rfl rfl

theorem changeEntry_sameWaiting (unit : Octet) (kind : EntryKind) (i : Nat) (x : RawEntry) (w : Word) :
    SameWaiting s (s.changeEntry unit kind i x w) := by
  refine .ite rfl (.ite rfl (.ite rfl ?_))
  split
  · rfl
  · exact (applyConfig_only kind i x w s).sameWaiting

theorem answerWriteConfig_sameWaiting (unit : Octet) (payload : List Octet) :
    SameWaiting s (s.answerWriteConfig unit payload) := by
  unfold State.answerWriteConfig
  split
  · rfl
  · exact changeEntry_sameWaiting ..

theorem answerReadConfig_sameWaiting (unit : Octet) (payload : List Octet) :
    SameWaiting s (s.answerReadConfig unit payload) := by
  unfold State.answerReadConfig
  split <;> rfl

theorem answerReadStatus_sameWaiting (unit : Octet) (payload : List Octet) :
    SameWaiting s (s.answerReadStatus unit payload) := by
  unfold State.answerReadStatus
  split <;> rfl

theorem answerClearCounters_sameWaiting (unit : Octet) (payload : List Octet) :
    SameWaiting s (s.answerClearCounters unit payload) := by
  have cleared (which : Nat) : SameWaiting s (s.clearStations which) := by
    unfold State.clearStations
    rfl
  exact .ite rfl ((cleared _).trans (State.setLink_pending ..))

theorem acceptReload_sameWaiting (unit : Octet) : SameWaiting s (s.acceptReload unit) := by
  unfold State.acceptReload
  rw [refuseHeldWrite_only]
  rfl

theorem answerReload_sameWaiting (unit : Octet) : SameWaiting s (s.answerReload unit) := by
  unfold State.answerReload
  split
  · exact .ite (acceptReload_sameWaiting unit) rfl
  · rfl
  · rfl
  · exact acceptReload_sameWaiting unit

/-! ### Through the shape of a command -/

variable {f : State → State}

theorem SameWaiting.present (hf : SameWaiting s (f s)) : SameWaiting s (s.present f) := .ite rfl hf

theorem SameWaiting.inRun (hf : SameWaiting s (f s)) : SameWaiting s (s.inRun f) := .ite hf rfl

theorem SameWaiting.inFrame (hf : SameWaiting s (f s)) : SameWaiting s (s.inFrame f) := .ite hf rfl

theorem SameWaiting.request (unit : Octet) (isIdentify : Bool) (payload : List Octet)
    (hf : SameWaiting s (f s)) : SameWaiting s (s.request unit isIdentify payload f) :=
  .inFrame (.ite (.ite rfl hf) rfl)

theorem SameWaiting.withLength (unit code : Octet) (len : Nat) (payload : List Octet)
    (hf : SameWaiting s (f s)) : SameWaiting s (s.withLength unit code len payload f) := .ite hf rfl

theorem SameWaiting.answerInRun (unit code : Octet) (hf : SameWaiting s (f s)) :
    SameWaiting s (s.answerInRun unit code f) := by
  unfold State.answerInRun
  split
  · exact hf
  all_goals rfl

/-- R162: a request that RUN alone answers, of the length that it has. -/
theorem SameWaiting.requestInRun (unit code : Octet) (len : Nat) (payload : List Octet)
    (hf : SameWaiting s (f s)) : SameWaiting s (s.request unit false payload
      (State.withLength unit code len payload (State.answerInRun unit code f))) :=
  .request _ _ _ (.withLength _ _ _ _ (.answerInRun _ _ hf))

/-- A command answers a next state, and the commands that wait are the same in it. -/
def Completes (s : State) (answer : Result) : Prop := ∃ t, answer = .next t ∧ SameWaiting s t

theorem Completes.quiet (hf : SameWaiting s (f s)) : Completes s (quiet f s) := by
  unfold Machine.quiet
  split
  · exact ⟨s, rfl, .refl s⟩
  · exact ⟨f s, rfl, hf⟩

theorem Completes.event (hf : SameWaiting s (f s)) : Completes s (event f s) :=
  .quiet (f := fun t => (f t).seek) (hf.trans (seek_sameWaiting _))

theorem Completes.commitWrite (k : Fin 24) (code tag : Octet) : Completes s (commitWrite k code tag s) :=
  .event (.present (.inRun (demandWrite_sameWaiting ..)))

end

/-! ### Every command -/

theorem exec_completes (c : Instr) (s : State) : Completes s (exec c s) := by
  cases c
  all_goals dsimp only [exec]
  case fullReset => exact ⟨_, rfl, fullReset_sameWaiting⟩
  case fullResetEnd => exact ⟨_, rfl, fullResetEnd_sameWaiting⟩
  case msTick | frameIgnored | frameOpeningDelimiter =>
    refine .quiet ?_
    rfl
  case configLoadComplete image => exact .event (.ite (completeLoad_sameWaiting image) rfl)
  case safingSetpointRead =>
    refine .event ?_
    cases s.safing with
    | reads k w rest => exact .ite rfl (readSetPoint_sameWaiting k w rest)
    | off | writes => rfl
  case safingEnd => exact .event (.ite rfl rfl)
  case upstreamRead => exact .quiet (.present rfl)
  case passThroughWrite | refusedWrite => exact .quiet (.present (.ite rfl rfl))
  case stationPayloadWrite | setpointWrite => exact .quiet (.present (.inRun rfl))
  case readIndexWrite => exact .quiet (.present (.inRun (.ite rfl rfl)))
  case closingWordWrite => exact .event (.present (.inRun (closingWrite_sameWaiting ..)))
  case commitBadCode k code tag =>
    unfold execCommitBadCode
    split
    · exact .commitWrite ..
    · exact ⟨s, rfl, .refl s⟩
  case close | draw | adjust | stopAfter | forceClose | withdraw | permit | boomWork | boomPark | lockout
    | run | releaseHangup | declareWet | clearWet | emptyOut | rebaseFromLevel | setInventory =>
    exact .commitWrite ..
  case arbiterGrant => exact .event grant_sameWaiting
  case drainerPlaceGroup => exact .event drain_sameWaiting
  case journalRecordWrite => exact .quiet writeHead_sameWaiting
  case gapRecordWrite => exact .quiet (.ite rfl rfl)
  case journalControlZeroPlace => exact .quiet placeZeros_sameWaiting
  case mirrorGroupPlace => exact .quiet publish_sameWaiting
  case mirrorPeriodExpiry => exact .quiet (.ite periodExpires_sameWaiting rfl)
  case dwellIntervalExpiry | disagreementExpiry | chuteNoFlowReport | deferralExpiry | openTimeout
    | flowStartTimeout | cycleDrawTimeout | indexTimeout | closeTimeout | parkTimeout =>
    refine .event ?_
    rfl
  case lateTimerExpiry i => exact .event (.ite (lateExpires_only i s).sameWaiting rfl)
  case dropoutExpiry i => exact .event (.ite (dropoutExpires_only i s).toRecord.sameWaiting rfl)
  case frameAbort | frameDropped | frameDroppedAt69thOctet => exact .quiet (.inFrame rfl)
  case frameDroppedBusy => exact .quiet (.request _ _ _ rfl)
  case unknownRequest => exact .quiet (.ite (.request _ _ _ rfl) rfl)
  case identify => exact .quiet (.request _ _ _ (.withLength _ _ _ _ rfl))
  case readConfig => exact .quiet (.requestInRun _ _ _ _ (answerReadConfig_sameWaiting ..))
  case writeConfig => exact .event (.requestInRun _ _ _ _ (answerWriteConfig_sameWaiting ..))
  case readStatus => exact .quiet (.requestInRun _ _ _ _ (answerReadStatus_sameWaiting ..))
  case clearCounters => exact .quiet (.requestInRun _ _ _ _ (answerClearCounters_sameWaiting ..))
  case reload => exact .quiet (.request _ _ _ (.withLength _ _ _ _ (answerReload_sameWaiting _)))
  case responseEnd => exact .quiet endResponse_sameWaiting

/-- Settles O2, command by command. -/
theorem everyCommandCompletes : Obligations.EveryCommandCompletes := by
  unfold Obligations.EveryCommandCompletes
  exact exec_completes

/-- Settles O1: the two cases of the queue, by what `step` is. -/
theorem stepRunsFrontCommand : Obligations.StepRunsFrontCommand := by
  unfold Obligations.StepRunsFrontCommand
  exact fun _ _ _ => ⟨rfl, rfl⟩

end Sys2Proof.Machine
end
